-- ==== Sys2Proof/Word.lean ====
section
/-! DEFINITION. The bit-vector widths of the LX26's frames, records and counters, and the one line cell. -/

namespace Sys2Proof

/-- One character of a frame, of a pack record or of the configuration image. -/
abbrev Byte := BitVec 8

/-- A two-byte figure of a frame or of the image, and a counter of the counter bank (R185). -/
abbrev Half := BitVec 16

/-- A pack id, and a value of the seconds counter (R170). -/
abbrev Word := BitVec 32

/-- One cell of the kiosk line as LIF samples it at 4, 5 and 6 µs (R22). `true` is the recessive level,
which reads as 1. -/
structure Cell where
  first : Bool
  second : Bool
  third : Bool
deriving DecidableEq, Repr

end Sys2Proof
end

