-- ==== Sys2Proof/Syntax.lean ====
section
/-! DEFINITION. The commands of the LX26: one constructor for each row of spec/opcode_table.json, with what
the world gives beside the event as its operands. -/

namespace Sys2Proof

/-- A request id: the originating terminal's station number and a 12-bit serial (R48). -/
structure ReqId where
  term : BitVec 4
  serial : BitVec 12
deriving DecidableEq, Repr

/-- The commands, in the order of the table. -/
inductive Instr where
  /-- START (R176): the straps STN3..STN0 and the clear-holds strap, as sampled. -/
  | start (straps : BitVec 4) (clearHolds : Bool)
  /-- CONFIG_MEMORY_READY (R177): the bits SUL samples on CFDA after the read command, one for each rising edge of CFCK,
  528 when the transfer is not cut short. -/
  | configMemoryReady (bits : List Bool)
  /-- LOADING_END (R182): the door level, the eight comparator inputs and the mains-good input as read in the event. -/
  | loadingEnd (doorIsOpen : Bool) (hot : BitVec 8) (mainsIsGood : Bool)
  /-- LOADING_TIMER_EXPIRY (R177). -/
  | loadingTimerExpiry
  /-- JOINING_TIMER_EXPIRY (R182). -/
  | joiningTimerExpiry
  /-- CORE_STOP (R168). -/
  | coreStop
  /-- MAINS_GOOD_LOW (R166): one low sample. -/
  | mainsGoodLow
  /-- MAINS_GOOD_HIGH (R167): one high sample. -/
  | mainsGoodHigh
  /-- MAINS_RETURN_TIMER_EXPIRY (R167). -/
  | mainsReturnTimerExpiry
  /-- RETAINED_CELL_FAIL (R171). -/
  | retainedCellFail
  /-- SECONDS_TICK (R170). -/
  | secondsTick
  /-- HOLD_TIMER_EXPIRY (R141): the hold timers that are due expire, in book order. -/
  | holdTimerExpiry
  /-- PLEDGE_TIMER_EXPIRY (R135): the pledge timer of the named request expires. -/
  | pledgeTimerExpiry (rid : ReqId)
  /-- SURVEY_STEP_END (R6): the presence sample taken at the step's beginning, the levels of the contact link after the
  command, one for each bit time of the window (R9), and the slot's comparator input at the end. -/
  | surveyStepEnd (seen : Bool) (levels : List Bool) (hot : Bool)
  /-- PASS_GAP_EXPIRY (R7). -/
  | passGapExpiry
  /-- DOOR_OPEN (R18). -/
  | doorOpen
  /-- DOOR_CLOSE (R18). -/
  | doorClose
  /-- THERMAL_TRIP (R19): the comparator of the slot asserts. -/
  | thermalTrip (slot : Nat)
  /-- PLANNING_PASS_END (R87). -/
  | planningPassEnd
  /-- EVALUATION_END (R117). -/
  | evaluationEnd
  /-- DEMAND_TIMER_EXPIRY (R71). -/
  | demandTimerExpiry
  /-- SPACING_TIMER_EXPIRY (R72). -/
  | spacingTimerExpiry
  /-- FRESHNESS_TIMER_EXPIRY (R65). -/
  | freshnessTimerExpiry
  /-- FRAME_RECEIVED (R28): the cells of one complete frame as sampled (R22), gaps between characters included. -/
  | frameReceived (cells : List Cell)
  /-- FRAMING_ERROR (R24): whether the frame was marked noisy (R23). -/
  | framingError (noisy : Bool)
  /-- TRUNCATED (R26): whether the frame was marked noisy (R23). -/
  | truncated (noisy : Bool)
  /-- FRAME_MALFORMED_LENGTH (R25). -/
  | frameMalformedLength
  /-- START_POINT (R31). -/
  | startPoint
  /-- ARBITRATION_LOSS (R33). -/
  | arbitrationLoss
  /-- TRANSMISSION_COMPLETE (R33). -/
  | transmissionComplete
  /-- STATION_CLASH (R34). -/
  | stationClash
  /-- CLASH_TIMER_EXPIRY (R34). -/
  | clashTimerExpiry
  /-- STRETCH_START (R42). -/
  | stretchStart
  /-- STRETCH_LIMIT (R43): whether the line still reads dominant in the cell after the release. -/
  | stretchLimit (stillDominant : Bool)
  /-- LINE_HOLD_START (R44): whether the frame the hold ended was marked noisy (R23), and whether the failed
  character was a later one than the frame's first (R24). -/
  | lineHoldStart (noisy : Bool) (laterCharacter : Bool)
  /-- LINE_HOLD_END (R45). -/
  | lineHoldEnd
  /-- PAUSE_TIMER_EXPIRY (R45). -/
  | pauseTimerExpiry
  /-- REQUEST (R113): source station and the seven data bytes (R51). -/
  | request (source : BitVec 4) (rid : ReqId) (kindAndRider packClass returnClass eta attempt : Byte)
  /-- OFFER (R134): a foreign offer's source, contest character and data (R55). -/
  | offer (source : BitVec 4) (contest : Byte) (rid : ReqId) (slot score : Byte) (minutes soc : Half) (packId : Word)
  /-- ASSIGN (R136): the chosen station byte and the slot byte (R52). -/
  | assign (rid : ReqId) (chosen slot : Byte)
  /-- ASSIGN_OTHER (R140): the chosen station byte and the slot byte (R52). -/
  | assignOther (rid : ReqId) (chosen slot : Byte)
  /-- UPDATE (R121): the new ETA byte (R53). -/
  | update (rid : ReqId) (eta : Byte)
  /-- BEGIN (R146): the target character (R54). -/
  | beginSwap (target : Byte) (rid : ReqId)
  /-- CANCEL (R122). -/
  | cancel (rid : ReqId)
  /-- DEMAND (R62): source and data (R58). -/
  | demand (source : BitVec 4) (wanted urgent grant : Half) (ready0 ready1 ready2 ready3 empty stateCode : Byte)
  /-- METER (R64): the two counts of 10 W (R59). -/
  | meter (load total : Half)
  /-- QUERY for item SUMMARY (R183). -/
  | querySummary (source : BitVec 4) (index : Byte)
  /-- QUERY for item SLOT (R183). -/
  | querySlot (source : BitVec 4) (index : Byte)
  /-- QUERY for item BOOK (R183). -/
  | queryBook (source : BitVec 4) (index : Byte)
  /-- QUERY for item COUNTERS (R185). -/
  | queryCounters (source : BitVec 4) (index : Byte)
  /-- QUERY for item PEER (R183). -/
  | queryPeer (source : BitVec 4) (index : Byte)
  /-- QUERY whose item is unknown or whose index is out of range (R60). -/
  | queryInvalid (source : BitVec 4) (item index : Byte)
  /-- RETURN_TIMER_EXPIRY (R148). -/
  | returnTimerExpiry
  /-- CHECK_TIMER_EXPIRY (R150). -/
  | checkTimerExpiry
  /-- REMOVAL_TIMER_EXPIRY (R151). -/
  | removalTimerExpiry
  /-- WAIT_TIMER_EXPIRY (R155). -/
  | waitTimerExpiry
  /-- COLLECT_TIMER_EXPIRY (R157). -/
  | collectTimerExpiry
  /-- MALFORMED_FRAME_END (R25): whether the frame was marked noisy (R23). -/
  | malformedFrameEnd (noisy : Bool)
deriving DecidableEq, Repr

end Sys2Proof
end

