-- ==== Sys2Proof/Decode.lean ====
section
/-! DEFINITION. The rows of spec/opcode_table.json that give bits. There is none: the part has no register window and
takes no encoded commands (00_scope.md, "Ways in and out"), and no row of the table has a "fixed" or a "fields" entry.
The characters of a frame on the kiosk line are read by Machine/Operands.lean. -/

namespace Sys2Proof

/-- The command a word spells by the table's bits: no row gives bits, so no word spells one. -/
def decodeTableWord (_nbits _w : Nat) : Option Instr := none

end Sys2Proof
end

