-- ==== Sys2Proof/Types.lean ====
section
/-! DEFINITION. The names and records of the LX26's blocks: states, roles, kinds, and the records of the Slot
Table, the Peer Table, the Request Book, the retained store, the configuration and the frames. -/

namespace Sys2Proof.Machine

open Sys2Proof

/-- A pack class, 0..3. -/
abbrev PackClass := Fin 4

/-! ### Slots (file 01) -/

/-- Condition of a slot (1.1). -/
inductive Cond where
  | empty | settling | occupied | unreadable | fault
deriving DecidableEq, Repr

/-- Reason of a FAULT (R16). -/
inductive FaultReason where
  | packFault | tamper | unreadableTimeout | rejectAbandoned
deriving DecidableEq, Repr

/-- Role of a slot (1.1). -/
inductive Role where
  | free | pledged | held | dock | releasing
deriving DecidableEq, Repr

/-- Planning tier of a slot (5.4). -/
inductive Tier where
  | none | a | b | c
deriving DecidableEq, Repr

/-- The pack record (1.3), as clamped by R11. -/
structure Pack where
  id : Word
  cls : PackClass
  soc : Nat
  soh : Nat
  temp : Int
  cycles : Half
  ok : Bool
deriving DecidableEq, Repr

/-- One record of the Slot Table (1.1), with the slot's debounce state (1.2) and the cap that PLN keeps (5.1). -/
structure Slot where
  cond : Cond
  present : Bool
  pack : Option Pack
  /-- The second at which the last valid record was taken (R13). -/
  goodAt : Word
  /-- Thermal cut tripped (R19). -/
  cut : Bool
  reason : Option FaultReason
  role : Role
  rid : Option ReqId
  /-- The latch is UNLOCKED. -/
  unlocked : Bool
  setpoint : Nat
  ready : Nat
  tier : Tier
  cap : Nat
  presentCount : Nat
  absentCount : Nat
  doorClear : Bool
  doorCycle : Bool
  /-- A door open event was seen since the slot entered FAULT(TAMPER) (R18). -/
  doorOpened : Bool
  /-- A regular step has visited the slot since the start (R4). -/
  visited : Bool
deriving DecidableEq, Repr

/-- What SVY reports to SEQ and OFE (R12 to R17). -/
inductive ReportKind where
  | settling | insertion | removal | fault | condition | cleared
deriving DecidableEq, Repr

/-- A report: the new condition, the fault reason and the pack record where there is one (R17). -/
structure Report where
  kind : ReportKind
  cond : Cond
  reason : Option FaultReason
  pack : Option Pack
deriving DecidableEq, Repr

/-- How a step's read attempt ended (R5). -/
inductive ReadOutcome where
  | noRead
  | valid (p : Pack)
  | badCrc
  | invalid
  | noReply
deriving DecidableEq, Repr

/-- Kind of a survey step (R3, R4, R8). -/
inductive StepKind where
  | regular | confirm | focus
deriving DecidableEq, Repr

/-- The survey step in progress. `readable`: the slot's condition at the step's beginning was not FAULT, so a
read is attempted when presence is seen (R5). `window` is W in ms. -/
structure SurveyStep where
  slot : Nat
  kind : StepKind
  readable : Bool
  window : Nat
deriving DecidableEq, Repr

/-- Where the survey stands between passes (R7). -/
inductive Gap where
  | inPass
  | running (ms : Nat)
  /-- The gap has ended while a focus step is in progress: the next pass begins when it ends. -/
  | due
deriving DecidableEq, Repr

/-! ### Stations and configuration (files 10, 11) -/

/-- One clock period of CFCK while the configuration memory is read (R177): SUL drives a bit of the read command on CFDA,
or has released CFDA and samples the bit the memory drives. -/
inductive CfdaCycle where
  | command (bit : Bool)
  | data (bit : Bool)
deriving DecidableEq, Repr

/-- Station state (R58 gives the codes). -/
inductive StationState where
  | starting | joining | active | withdrawn | holdup | haltedConfig
deriving DecidableEq, Repr

/-- Halt cause (R181). -/
inductive HaltCause where
  | noResponse | badCrc | noFittedSlot
deriving DecidableEq, Repr

/-- Cause of a clamp record (R178). -/
inductive ClampCause where
  | raised | lowered | rounded | ceilingRaised | stepDropped | stepAppended | stepRemoved
deriving DecidableEq, Repr

/-- A clamp record (R178): image offset, cause, value as read, value used. -/
structure Clamp where
  offset : Nat
  cause : ClampCause
  read : Option Nat
  used : Option Nat
deriving DecidableEq, Repr

/-- The figures of one pack class (5.3), in their own units (Wh, per mille, W, percent). -/
structure ClassFigures where
  capacity : Nat
  knee : Nat
  release : Nat
  ceiling : Nat
  maxPower : Nat
  taper : Nat
  minSoh : Nat
deriving DecidableEq, Repr

/-- The configuration in force (11.2), in the figures' own units (ms, °C, W, minutes, seconds). -/
structure Cfg where
  group : Nat
  fitted : Nat
  steps : List Nat
  window : Nat
  passGap : Nat
  class0 : ClassFigures
  class1 : ClassFigures
  class2 : ClassFigures
  class3 : ClassFigures
  warmLimit : Nat
  hotLimit : Nat
  minPower : Nat
  contract : Nat
  margin : Nat
  fallback : Nat
  reserveFloor : Nat
  maxWaitStandard : Nat
  maxWaitFleet : Nat
  holdGrace : Nat
  returnTimer : Nat
  collectTimer : Nat
deriving DecidableEq, Repr

/-! ### Requests (files 03, 07) -/

/-- Rider class (R51). -/
inductive RiderClass where
  | standard | fleet
deriving DecidableEq, Repr

/-- Request kind (R51). -/
inductive RequestKind where
  | walkUp | reservation
deriving DecidableEq, Repr

/-- State of a Request Book entry (7.2). -/
inductive EntryState where
  | heard | evaluating | contending | offered | held | serving
  | satOut | beaten | elsewhere | unassigned | done | lapsed | cancelled | aborted
deriving DecidableEq, Repr

/-- Cause of a SAT_OUT (7.1). -/
inductive SatOutCause where
  | noCandidate | late | lost
deriving DecidableEq, Repr

/-- Serve position of a SERVING entry (7.1). -/
inductive ServePos where
  | active | queued1 | queued2
deriving DecidableEq, Repr

/-- An entry's own offer (7.1). -/
structure OwnOffer where
  slot : Nat
  score : Nat
  packId : Word
deriving DecidableEq, Repr

/-- The station that won or was assigned, and its score when known (7.1). -/
structure Winner where
  station : BitVec 4
  score : Option Nat
deriving DecidableEq, Repr

/-- One entry of the Request Book (7.1), with its pledge timer (R119) and its hold timer (R120). -/
structure Entry where
  rid : ReqId
  kind : RequestKind
  rider : RiderClass
  packClass : PackClass
  returnClass : PackClass
  eta : Nat
  attempt : Byte
  state : EntryState
  offer : Option OwnOffer
  tries : Nat
  winner : Option Winner
  heldSlot : Option Nat
  deadline : Option Word
  servePos : Option ServePos
  returnedId : Option Word
  satOut : Option SatOutCause
  linger : Option Word
  /-- Loaded length in ms while running. -/
  pledgeTimer : Option Nat
  /-- The deadline the hold timer is armed at while running. -/
  holdTimer : Option Word
deriving DecidableEq, Repr

/-! ### Evaluations and plans (files 05, 06) -/

/-- What an evaluation reads of one slot (R98). -/
structure SlotView where
  cond : Cond
  pack : Option Pack
  cut : Bool
  role : Role
  tier : Tier
deriving DecidableEq, Repr

/-- The evaluation view (R98). -/
structure EvalView where
  rid : ReqId
  kind : RequestKind
  rider : RiderClass
  packClass : PackClass
  eta : Nat
  slots : List SlotView
  grant : Nat
  station : StationState
  /-- Entries in OFFERED or HELD. -/
  promised : Nat
  /-- SERVING entries that wait in the serve queue. -/
  queued : Nat
deriving DecidableEq, Repr

/-- A running evaluation: its view and the longest time it may take, in µs (R98). -/
structure Evaluation where
  view : EvalView
  atMost : Nat
deriving DecidableEq, Repr

/-- What the plan snapshot holds of one slot (R77). -/
structure SnapSlot where
  cond : Cond
  pack : Option Pack
  cut : Bool
  role : Role
  /-- The hold deadline and rider class of the entry that a HELD slot names. -/
  hold : Option (Word × RiderClass)
  /-- SEQ's active swap is in RELEASE_WAIT on this slot. -/
  waiting : Bool
deriving DecidableEq, Repr

/-- The plan snapshot (R77). -/
structure Snapshot where
  slots : List SnapSlot
  grant : Nat
  station : StationState
  pause : Bool
deriving DecidableEq, Repr

/-- A running planning pass: its snapshot and its length in µs (R78). -/
structure Pass where
  snap : Snapshot
  lasts : Nat
deriving DecidableEq, Repr

/-! ### Swaps and the retained store (files 09, 10) -/

/-- Step of the active swap (9.1). RELEASE_READY takes no time and is never stood in (R152). -/
inductive SwapStep where
  | startingWait | returnOpen | returnCheck | rejectOut | releaseWait | releaseOpen | giveBack
deriving DecidableEq, Repr

/-- Abort reason, in the order of its codes from 1 (R57). -/
inductive AbortReason where
  | cancelled | returnTimeout | returnRejected | noPack | releaseWaitExceeded
deriving DecidableEq, Repr

/-- Outcome of a CLOSE, in the order of its codes from 0 (R57). -/
inductive Outcome where
  | done | lapsed | uncollected | aborted
deriving DecidableEq, Repr

/-- Reason of a DECLINE, in the order of its codes from 1 (R56). -/
inductive DeclineReason where
  | late | notEligible | noDock | busy | unknown | supply | service
deriving DecidableEq, Repr

/-- Step of the swap progress record (10.4). -/
inductive ProgressStep where
  | returnOpen | returnCheck | rejectOut | releaseWait | releaseOpen
  | giveBackNoPack | giveBackWaitExceeded
deriving DecidableEq, Repr

/-- The active swap record (9.1), with the resume step of a swap rebuilt at a warm start (R174). -/
structure Swap where
  rid : ReqId
  step : SwapStep
  dock : Option Nat
  release : Nat
  returned : Option Word
  released : Option Word
  abort : Option AbortReason
  resume : Option ProgressStep
deriving DecidableEq, Repr

/-- Which step timer runs (9.1). -/
inductive StepTimer where
  | ret | check | removal | wait | collect
deriving DecidableEq, Repr

/-- A hold record (10.4). -/
structure HoldRecord where
  rid : ReqId
  slot : Nat
  deadline : Word
  packClass : PackClass
  returnClass : PackClass
  rider : RiderClass
  eta : Nat
deriving DecidableEq, Repr

/-- The swap progress record (10.4). -/
structure Progress where
  rid : ReqId
  step : ProgressStep
  dock : Nat
  release : Nat
  returned : Option Word
deriving DecidableEq, Repr

/-! ### Peers (file 04) -/

/-- State of a Peer Table entry (4.1). -/
inductive PeerState where
  | absent | present | stale
deriving DecidableEq, Repr

/-- One entry of the Peer Table (4.1). -/
structure Peer where
  state : PeerState
  wanted : Nat
  urgent : Nat
  lastHeard : Word
  ready0 : Byte
  ready1 : Byte
  ready2 : Byte
  ready3 : Byte
  empty : Byte
deriving DecidableEq, Repr

/-- The meter record (4.2). -/
structure Meter where
  load : Nat
  total : Nat
  takenAt : Word
  fresh : Bool
deriving DecidableEq, Repr

/-! ### Frames and the line (files 02, 03) -/

/-- The twelve frame kinds, in the order of their codes (R47). -/
inductive Kind where
  | request | offer | assign | decline | update | beginSwap | cancel | close | demand | meter | query | status
deriving DecidableEq, Repr

/-- The fields of a received frame of each kind that a block takes, and the kinds no block takes (R47, 3.7). -/
inductive Message where
  | request (rid : ReqId) (kindAndRider packClass returnClass eta attempt : Byte)
  | offer (rid : ReqId) (slot score : Byte) (minutes soc : Half) (packId : Word)
  | assign (rid : ReqId) (chosen slot : Byte)
  | update (rid : ReqId) (eta : Byte)
  | beginSwap (rid : ReqId)
  | cancel (rid : ReqId)
  | demand (wanted urgent grant : Half) (ready0 ready1 ready2 ready3 empty stateCode : Byte)
  | meter (load total : Half)
  | query (item index : Byte)
  | untaken (kind : Kind) (data : List Byte)
deriving DecidableEq, Repr

/-- A complete, good frame as the receive buffer holds it (R36). -/
structure RxFrame where
  source : BitVec 4
  contest : Byte
  target : Byte
  msg : Message
deriving DecidableEq, Repr

/-- A frame to be sent: contest character, kind, target and data (R49). Its source is this station. -/
structure TxFrame where
  contest : Byte
  kind : Kind
  target : Byte
  data : List Byte
deriving DecidableEq, Repr

/-- An entry of the transmit queue (R38): the frame, its enqueue order, and the data of a newer DEMAND kept
beside it while it is in transmission (R39). -/
structure TxEntry where
  frame : TxFrame
  order : Nat
  kept : Option (List Byte)
deriving DecidableEq, Repr

/-- Where the frame in transmission comes from (R32). -/
inductive TxOrigin where
  | queue (order : Nat)
  | register
deriving DecidableEq, Repr

/-- The frame in transmission: its origin and all its characters, the CRC among them (R27, R33). -/
structure Transmission where
  origin : TxOrigin
  chars : List Byte
deriving DecidableEq, Repr

/-- The contest register's OFFER (R40). -/
structure Register where
  rid : ReqId
  frame : TxFrame
deriving DecidableEq, Repr

/-- The contest point mark (R41), whether OFE has reported the request closed for the stretch (R42), and whether the
REQUEST was malformed, so that no offer is sent for it at its contest point (R50). -/
structure Mark where
  rid : ReqId
  closed : Bool
  barred : Bool
deriving DecidableEq, Repr

/-- Line condition (2.3). -/
inductive LineCond where
  | idle | frame | space | hold
deriving DecidableEq, Repr

/-- The 32 counters of the counter bank, in page order (R185). -/
inductive Counter where
  | crc | framing | noisy | truncated | malformed | unknownKind | overrun | transmitDropped
  | stationClash | stretchOverrun | noReply | linkCrc | unreadable | bookFull | duplicate | assignConflict
  | done | lapsed | uncollected | aborted
  | abortedCancelled | abortedReturnTimeout | abortedReturnRejected | abortedNoPack
  | abortedReleaseWaitExceeded | declineLate | declineNotEligible | declineNoDock
  | declineBusy | declineUnknown | declineSupply | declineService
deriving DecidableEq, Repr

end Sys2Proof.Machine
end

