-- ==== Sys2Proof/Config.lean ====
section
/-! DEFINITION. The free values: what the manual leaves without a value. None has a body, so no proof can rest on
one. -/

namespace Sys2Proof

open Sys2Proof.Machine

/-- The seconds counter after the retained cell has failed with the core off: "no value to rely on" (R171). -/
opaque Config.freeSeconds : Nat → Word

/-- The hold record places after the retained cell has failed with the core off (R171). -/
opaque Config.freeHolds : Nat → Vector (Option HoldRecord) 8

/-- The swap progress record after the retained cell has failed with the core off (R171). -/
opaque Config.freeProgress : Nat → Option Progress

end Sys2Proof
end

