-- ==== Sys2Proof/Machine/State.lean ====
section
/-! DEFINITION. The state of the LX26, block by block, and the state while the reset pin is held. -/

namespace Sys2Proof.Machine

open Sys2Proof

/-- Line Interface (file 02). -/
structure Lif where
  cond : LineCond
  /-- Recessive cells counted in SPACE (R30). -/
  recessive : Nat
  /-- A frame whose length character was above 24 is being passed over (R25). -/
  malformed : Bool
  rxBuf : List RxFrame
  queue : List TxEntry
  nextOrder : Nat
  tx : Option Transmission
  register : Option Register
  /-- OFE cleared the register's OFFER while it is in transmission (R40). -/
  clearPending : Bool
  /-- The register's OFFER lost, and its report waits for the end of the winning frame (R35). -/
  lossPending : Bool
  mark : Option Mark
  /-- The request for which the line is being driven dominant (R42). -/
  stretch : Option ReqId
  clashFlag : Bool
  /-- Timers hold the length in ms they were loaded with while they run, and none while stopped. -/
  clashTimer : Option Nat
  linePause : Bool
  pauseTimer : Option Nat
deriving DecidableEq, Repr

/-- Slot Survey (file 01). -/
structure Svy where
  step : Option SurveyStep
  /-- List position of the next regular step (R3). -/
  next : Nat
  gap : Gap
  focus : Option Nat
  firstPassDone : Bool
  /-- What SVY drove on a contact link in the last step that ended: the slot and the level of each bit time; none when
  that step sent no command (R5, R9; log 35). -/
  link : Option (Nat × List Bool)
deriving DecidableEq, Repr

/-- Allowance Unit (file 04). -/
structure Alw where
  /-- One place per station number; the own number's place is empty (R61). -/
  peers : List (Option Peer)
  meter : Meter
  freshTimer : Option Nat
  allowance : Nat
  grant : Nat
  demandTimer : Option Nat
  spacingTimer : Option Nat
  earlyPending : Bool
  announced : Nat
deriving DecidableEq, Repr

/-- Charge Planner (file 05). -/
structure Pln where
  replan : Bool
  pass : Option Pass
  wanted : Nat
  urgent : Nat
deriving DecidableEq, Repr

/-- Offer Engine (files 06 to 08). -/
structure Ofe where
  /-- In the order taken, the oldest first (R110). -/
  book : List Entry
  evaluation : Option Evaluation
deriving DecidableEq, Repr

/-- Swap Sequencer (file 09). -/
structure Seq where
  active : Option Swap
  queue : List ReqId
  firstPassSeen : Bool
  /-- The one step timer that runs, with the length in ms it was loaded with (9.1). -/
  timer : Option (StepTimer × Nat)
deriving DecidableEq, Repr

/-- Retained Hold Store (10.4). -/
structure Rhs where
  valid : Bool
  seconds : Word
  holds : List (Option HoldRecord)
  progress : Option Progress
deriving DecidableEq, Repr

/-- Start-up Loader (files 10, 11). -/
structure Sul where
  station : BitVec 4
  clearHolds : Bool
  /-- The kind of the present start (R172). -/
  cold : Bool
  state : StationState
  /-- The configuration memory is selected (CFSL low, R177). -/
  selected : Bool
  /-- The bits on CFDA since the memory was selected, one for each period of CFCK (R177). -/
  cfda : List CfdaCycle
  /-- The bytes they have given (R177). -/
  image : List Byte
  loadingTimer : Option Nat
  cfg : Cfg
  clamps : List Clamp
  clampCount : Nat
  halt : Option HaltCause
  joiningTimer : Option Nat
  mainsReturnTimer : Option Nat
  /-- The door's last level (R165). -/
  doorOpen : Bool
  /-- The mains-good input as last sampled (12.2). -/
  mainsGood : Bool
deriving DecidableEq, Repr

/-- The whole part. -/
structure State where
  /-- The core runs (R168). -/
  core : Bool
  lif : Lif
  slots : List Slot
  svy : Svy
  alw : Alw
  pln : Pln
  ofe : Ofe
  seq : Seq
  rhs : Rhs
  sul : Sul
  counters : List Half
  /-- The model's own: how many free values have been drawn. -/
  draw : Nat
  /-- The model's own: the commands that wait, first in, first out. -/
  pending : List Instr
deriving DecidableEq, Repr

/-- Why the part would stop. The manual names no such event (HALTED_CONFIG is a station state in which the part goes
on, R181), so there is no constructor: no command ends in a fault. -/
inductive Fault where
deriving DecidableEq, Repr

/-- Why a command would have no meaning. -/
inductive Refusal where
  /-- Raised by an arm of exec for a row that has no meaning yet. Safe: nothing can be proved of such a step. No arm
  raises it now. -/
  | notModelled (mnemonic : String)
deriving DecidableEq, Repr

/-- The figures of a class before a configuration is in force; no rule reads them. -/
def ClassFigures.blank : ClassFigures := ⟨0, 0, 0, 0, 0, 0, 0⟩

/-- The configuration before one is in force (log 3); no rule reads it. -/
def Cfg.blank : Cfg :=
  { group := 0, fitted := 0, steps := [], window := 0, passGap := 0,
    class0 := ClassFigures.blank, class1 := ClassFigures.blank,
    class2 := ClassFigures.blank, class3 := ClassFigures.blank,
    warmLimit := 0, hotLimit := 0, minPower := 0, contract := 0, margin := 0, fallback := 0,
    reserveFloor := 0, maxWaitStandard := 0, maxWaitFleet := 0, holdGrace := 0,
    returnTimer := 0, collectTimer := 0 }

/-- LIF after either kind of start (R29, R34, R45, R46); in STARTING, before LIF begins, by the model's choice (log 49). -/
def Lif.initial : Lif :=
  { cond := .space, recessive := 0, malformed := false, rxBuf := [], queue := [], nextOrder := 0, tx := none,
    register := none, clearPending := false, lossPending := false, mark := none, stretch := none,
    clashFlag := false, clashTimer := none, linePause := false, pauseTimer := none }

/-- SVY after either kind of start (R3, R7, R8). -/
def Svy.initial : Svy :=
  { step := none, next := 0, gap := .inPass, focus := none, firstPassDone := false, link := none }

/-- The meter record after either kind of start (R64); before loading ends by the model's choice (log 49). -/
def Meter.initial : Meter := ⟨0, 0, 0, false⟩

/-- ALW before loading ends: no entries yet (R61), the meter record empty, G 0 (R68, R69), timers stopped and nothing
announced (R71). That A is 0 in STARTING is the model's choice: R66 gives A from the end of loading on (log 49). -/
def Alw.initial : Alw :=
  { peers := List.replicate 16 none, meter := Meter.initial, freshTimer := none, allowance := 0, grant := 0,
    demandTimer := none, spacingTimer := none, earlyPending := false, announced := 0 }

/-- PLN after either kind of start (R75); before loading ends by the model's choice (log 49). -/
def Pln.initial : Pln := ⟨false, none, 0, 0⟩

/-- OFE after a cold start (R110, R115). -/
def Ofe.initial : Ofe := ⟨[], none⟩

/-- SEQ after a cold start (R143). -/
def Seq.initial : Seq := ⟨none, [], false, none⟩

/-- SUL at the beginning of a start, the straps not yet sampled (R164, R177, R178, R182; log 3, log 11). -/
def Sul.initial : Sul :=
  { station := 0, clearHolds := false, cold := true, state := .starting, selected := false, cfda := [],
    image := [], loadingTimer := none, cfg := Cfg.blank, clamps := [], clampCount := 0, halt := none,
    joiningTimer := none, mainsReturnTimer := none, doorOpen := false, mainsGood := false }

/-- RHS as a cold start leaves it, but for the marker (R172). -/
def Rhs.empty (valid : Bool) : Rhs := ⟨valid, 0, List.replicate 8 none, none⟩

/-- The state of the core as every start finds it and as a core stop leaves it: all of it is lost (R168), so every
field stands at the value the next start gives it (log 5). The retained store, the free-value counter and the waiting
commands do not belong to the core. -/
def State.coreLost (s : State) : State :=
  { core := false, lif := Lif.initial, slots := [], svy := Svy.initial, alw := Alw.initial, pln := Pln.initial,
    ofe := Ofe.initial, seq := Seq.initial, rhs := s.rhs, sul := Sul.initial,
    counters := List.replicate 32 0, draw := s.draw, pending := s.pending }

/-- The part while the reset pin is held low: the core is stopped, nothing has been started (log 3). -/
def State.reset : State :=
  { core := false, lif := Lif.initial, slots := [], svy := Svy.initial, alw := Alw.initial, pln := Pln.initial,
    ofe := Ofe.initial, seq := Seq.initial, rhs := Rhs.empty false, sul := Sul.initial,
    counters := List.replicate 32 0, draw := 0, pending := [] }

end Sys2Proof.Machine
end

