-- ==== Sys2Proof/Machine/Ops.lean ====
section
/-! DEFINITION. Shared operations: CRCs, counters, the seconds base, the Slot Table, configuration look-ups. -/

namespace Sys2Proof.Machine

open Sys2Proof

/-! ### Fields of several bytes: most significant byte first (3.3, 1.3, 11.2) -/

/-- Two bytes, the first the more significant. -/
def be16 (hi lo : Byte) : Half := hi ++ lo

/-- Four bytes, the first the most significant. -/
def be32 (b0 b1 b2 b3 : Byte) : Word := (b0 ++ b1) ++ (b2 ++ b3)

/-- The high byte of a two-byte field. -/
def hiByte (h : Half) : Byte := h.extractLsb' 8 8

/-- The low byte of a two-byte field. -/
def loByte (h : Half) : Byte := h.extractLsb' 0 8

/-- A two-byte field as sent. -/
def bytes16 (h : Half) : List Byte := [hiByte h, loByte h]

/-- A four-byte field as sent. -/
def bytes32 (w : Word) : List Byte :=
  [w.extractLsb' 24 8, w.extractLsb' 16 8, w.extractLsb' 8 8, w.extractLsb' 0 8]

/-- A whole number in a one-byte field. -/
def byteOf (n : Nat) : Byte := BitVec.ofNat 8 n

/-- A whole number in a two-byte field. -/
def halfOf (n : Nat) : Half := BitVec.ofNat 16 n

/-- The two bytes of a request id: terminal station and serial bits 11..8, then serial bits 7..0 (3.2). -/
def ridBytes (r : ReqId) : List Byte := [r.term ++ r.serial.extractLsb' 8 4, r.serial.extractLsb' 0 8]

/-- The request id that two bytes carry (3.2). -/
def ridOfBytes (b0 b1 : Byte) : ReqId :=
  ⟨b0.extractLsb' 4 4, b0.extractLsb' 0 4 ++ b1⟩

/-! ### Checks -/

/-- `n` shifts of the CRC-16 register with polynomial 0xC867 (R27). -/
def crc16Bits : Nat → Half → Half
  | 0, r => r
  | n + 1, r => crc16Bits n (if r.msb then (r <<< 1) ^^^ 0xC867#16 else r <<< 1)

/-- One byte into the CRC-16, most significant bit first (R27). -/
def crc16Byte (r : Half) (b : Byte) : Half := crc16Bits 8 (r ^^^ (b ++ 0#8))

/-- The CRC-16 of a run of bytes, initial value 0xFFFF, no final inversion (R27, R177). -/
def crc16 (bs : List Byte) : Half := bs.foldl crc16Byte 0xFFFF#16

/-- `n` shifts of the CRC-8 register with polynomial x⁸ + x⁵ + x⁴ + 1 (R10). -/
def crc8Bits : Nat → Byte → Byte
  | 0, r => r
  | n + 1, r => crc8Bits n (if r.msb then (r <<< 1) ^^^ 0x31#8 else r <<< 1)

/-- The CRC-8 of a run of bytes, initial value 0, most significant bit first (R10). -/
def crc8 (bs : List Byte) : Byte := bs.foldl (fun r b => crc8Bits 8 (r ^^^ b)) 0#8

/-! ### Counters (R185) -/

/-- The place of a counter in the bank: page times eight plus position (R185). -/
def Counter.place : Counter → Nat
  | .crc => 0 | .framing => 1 | .noisy => 2 | .truncated => 3
  | .malformed => 4 | .unknownKind => 5 | .overrun => 6 | .transmitDropped => 7
  | .stationClash => 8 | .stretchOverrun => 9 | .noReply => 10 | .linkCrc => 11
  | .unreadable => 12 | .bookFull => 13 | .duplicate => 14 | .assignConflict => 15
  | .done => 16 | .lapsed => 17 | .uncollected => 18 | .aborted => 19
  | .abortedCancelled => 20 | .abortedReturnTimeout => 21 | .abortedReturnRejected => 22 | .abortedNoPack => 23
  | .abortedReleaseWaitExceeded => 24 | .declineLate => 25 | .declineNotEligible => 26 | .declineNoDock => 27
  | .declineBusy => 28 | .declineUnknown => 29 | .declineSupply => 30 | .declineService => 31

/-- One more, held at 65,535 (R185). -/
def satInc (x : Half) : Half := if x = 0xFFFF#16 then x else x + 1

/-- A counter is increased by one (R185). -/
def bump (c : Counter) (s : State) : State := { s with counters := s.counters.modify c.place satInc }

/-- A counter is increased by one when the condition holds. -/
def bumpIf (b : Bool) (c : Counter) (s : State) : State := if b then bump c s else s

/-- The counter's present value. -/
def State.count (s : State) (c : Counter) : Half := s.counters.getD c.place 0

/-! ### The seconds base (R170) -/

/-- Seconds from `t` to `now`, modulo 2³² (R63, R170). -/
def since (now t : Word) : Nat := (now - t).toNat

/-- An age as records and replies hold it, at most 65,535 (R13, 12.2). -/
def ageOf (now t : Word) : Nat := min 65535 (since now t)

/-- The counter has reached a deadline: the difference, modulo 2³², lies in the lower half (R120, R170; log 9). -/
def reached (now deadline : Word) : Bool := decide (since now deadline < 2 ^ 31)

/-- The present second and a number of minutes (R120). -/
def inMinutes (now : Word) (m : Nat) : Word := now + BitVec.ofNat 32 (m * 60)

/-! ### Figures -/

/-- Rounds a power down to a multiple of 50 W (00_scope.md, "Arithmetic"). -/
def floor50 (p : Nat) : Nat := p / 50 * 50

/-- The figures of a pack class (R79). -/
def Cfg.figures (c : Cfg) (k : PackClass) : ClassFigures :=
  if k = 0 then c.class0 else if k = 1 then c.class1 else if k = 2 then c.class2 else c.class3

/-- The maximum wait of a rider class, in minutes (R106). -/
def Cfg.maxWait (c : Cfg) : RiderClass → Nat
  | .standard => c.maxWaitStandard
  | .fleet => c.maxWaitFleet

/-- LIF runs: the core runs and loading has ended (R29). -/
def lifRuns (s : State) : Bool := s.core && decide (s.sul.state ≠ .starting)

/-- The station states in which the survey, passes and evaluations run (R3, R75, R115). -/
def StationState.operating : StationState → Bool
  | .joining | .active | .withdrawn | .holdup => true
  | .starting | .haltedConfig => false

/-- The part is at work: the core runs in JOINING, ACTIVE, WITHDRAWN or HOLDUP. -/
def operates (s : State) : Bool := s.core && s.sul.state.operating

/-! ### The Slot Table (R1) -/

/-- Rewrites the record of one slot; a number that names no record changes nothing (R1). -/
def modSlot (n : Nat) (f : Slot → Slot) (s : State) : State := { s with slots := s.slots.modify n f }

/-- The record of one slot. -/
def State.slot? (s : State) (n : Nat) : Option Slot := s.slots[n]?

/-- PLN's replan-pending flag is set (R76). -/
def setReplan (s : State) : State := { s with pln.replan := true }

/-- The first slot number, from the lowest, whose record satisfies `p`. -/
def State.findSlot (s : State) (p : Slot → Bool) : Option Nat := s.slots.findIdx? p

/-- A stable insertion by `before`. -/
def insertBy {α : Type} (before : α → α → Bool) (x : α) : List α → List α
  | [] => [x]
  | y :: ys => if before x y then x :: y :: ys else y :: insertBy before x ys

/-- A list in the order of `before`; elements that neither precedes keep their order. -/
def sortBy {α : Type} (before : α → α → Bool) (l : List α) : List α :=
  l.foldl (fun acc x => insertBy before x acc) []

/-- The list without its first element that satisfies `p`. -/
def removeFirst {α : Type} (p : α → Bool) : List α → List α
  | [] => []
  | x :: xs => if p x then xs else x :: removeFirst p xs

end Sys2Proof.Machine
end

