-- ==== Sys2Proof/Machine/Operands.lean ====
section
/-! DEFINITION. What operands and connections carry: cells and characters of the line (R22, R25 to R27), the data of
each frame kind (3.7), and the pack record of the contact link (R9 to R11). -/

namespace Sys2Proof.Machine

open Sys2Proof

/-! ### Cells and characters (R22) -/

/-- The cell's value: the majority of its three samples (R22). -/
def cellValue (c : Cell) : Bool := (c.first && c.second) || (c.first && c.third) || (c.second && c.third)

/-- The three samples do not all agree (R23). -/
def cellNoisy (c : Cell) : Bool := !(c.first == c.second && c.second == c.third)

/-- A cell whose three samples agree. -/
def cleanCell (b : Bool) : Cell := ⟨b, b, b⟩

/-- The bits of a byte, the most significant first. -/
def msbBits (b : Byte) : List Bool := (List.range 8).map (fun i => b.getLsbD (7 - i))

/-- The bits of a byte, the least significant first. -/
def lsbBits (b : Byte) : List Bool := (List.range 8).map (fun i => b.getLsbD i)

/-- The data bits of a character in the order of its cells: most significant first in the first two characters of a
frame, least significant first in every later one (R22). `place` counts the frame's characters from 0. -/
def dataBits (place : Nat) (b : Byte) : List Bool := if place < 2 then msbBits b else lsbBits b

/-- The ten cells of a character: start cell, eight data cells, stop cell (2.1). -/
def charCells (place : Nat) (b : Byte) : List Bool := [false] ++ dataBits place b ++ [true]

/-- The cells of a frame's characters from place `place` on, back to back (R22). -/
def frameCells : Nat → List Byte → List Bool
  | _, [] => []
  | place, b :: bs => charCells place b ++ frameCells (place + 1) bs

/-- The sampled cells of a run of characters sent back to back, without noise (R22). -/
def onLine (chars : List Byte) : List Cell := (frameCells 0 chars).map cleanCell

/-- The number eight bits spell, the first the most significant. -/
def bitsNumber (bits : List Bool) : Nat := bits.foldl (fun n b => 2 * n + b.toNat) 0

/-- The byte value of a character's data cells (R22). -/
def charByte (place : Nat) (bits : List Bool) : Byte :=
  byteOf (bitsNumber (if place < 2 then bits else bits.reverse))

/-- Where LIF stands while it reads a frame's cells: between characters after some recessive cells, or in a
character with the data cells read. -/
inductive RxPhase where
  | gap (recessive : Nat)
  | inChar (bits : List Bool)
deriving DecidableEq, Repr

/-- One more cell of a frame (R25, R26): none when it is no part of a complete frame, because the first cell is no
start cell, a gap exceeds 20 cells or a stop cell reads dominant. `chars` holds the characters collected. -/
def rxCell (st : Option (RxPhase × List Byte)) (c : Bool) : Option (RxPhase × List Byte) :=
  match st with
  | none => none
  | some (.gap n, chars) =>
    if c then (if chars = [] ∨ 20 ≤ n then none else some (.gap (n + 1), chars)) else some (.inChar [], chars)
  | some (.inChar bits, chars) =>
    if bits.length < 8 then some (.inChar (bits ++ [c]), chars)
    else if c then some (.gap 0, chars ++ [charByte chars.length bits]) else none

/-- The characters of one complete frame, read from its cell values: the length character gives 0 to 24 data
characters, the frame has six characters more, and its last cell is the last stop cell (R25). -/
def readFrame (cells : List Bool) : Option (List Byte) :=
  match cells.foldl rxCell (some (.gap 0, [])) with
  | some (.gap 0, chars) =>
    if 6 ≤ chars.length ∧ (chars.getD 3 0).toNat ≤ 24 ∧ chars.length = 6 + (chars.getD 3 0).toNat then some chars
    else none
  | _ => none

/-! ### Frames (2.2, 3.1) -/

/-- The kind code (R47). -/
def Kind.code : Kind → BitVec 4
  | .request => 0 | .offer => 1 | .assign => 2 | .decline => 3 | .update => 4 | .beginSwap => 5
  | .cancel => 6 | .close => 7 | .demand => 8 | .meter => 9 | .query => 10 | .status => 11

/-- The kind a code names; codes 12 to 15 name none (R47). -/
def Kind.ofCode (c : BitVec 4) : Option Kind :=
  [Kind.request, .offer, .assign, .decline, .update, .beginSwap, .cancel, .close, .demand, .meter, .query,
    .status][c.toNat]?

/-- The data size fits the kind: the fixed size of 3.1, and 2 to 24 for a STATUS (R28, R47). -/
def Kind.sizeFits (k : Kind) (n : Nat) : Bool :=
  match k with
  | .request => n == 7
  | .offer | .close | .demand => n == 12
  | .assign | .meter => n == 4
  | .decline | .update => n == 3
  | .beginSwap | .cancel | .query => n == 2
  | .status => decide (2 ≤ n) && decide (n ≤ 24)

/-- The characters of a frame from this station, its CRC computed as its transmission begins (R27, R49). -/
def TxFrame.chars (f : TxFrame) (source : BitVec 4) : List Byte :=
  let body := [f.contest, f.kind.code ++ source, f.target, byteOf f.data.length] ++ f.data
  body ++ bytes16 (crc16 body)

/-- A frame as collected from its characters. -/
structure LineFrame where
  contest : Byte
  kindCode : BitVec 4
  source : BitVec 4
  target : Byte
  data : List Byte
  crcGood : Bool
deriving DecidableEq, Repr

/-- The frame in a run of characters, and whether its CRC is good (R27). -/
def lineFrame (chars : List Byte) : LineFrame :=
  let body := chars.take (chars.length - 2)
  { contest := chars.getD 0 0
    kindCode := (chars.getD 1 0).extractLsb' 4 4
    source := (chars.getD 1 0).extractLsb' 0 4
    target := chars.getD 2 0
    data := body.drop 4
    crcGood := decide (chars.drop (chars.length - 2) = bytes16 (crc16 body)) }

/-- The fields of a frame's data (3.7). The data has the size of its kind. -/
def message (k : Kind) (d : List Byte) : Message :=
  let b := fun i => d.getD i 0
  let rid := ridOfBytes (b 0) (b 1)
  match k with
  | .request => .request rid (b 2) (b 3) (b 4) (b 5) (b 6)
  | .offer => .offer rid (b 2) (b 3) (be16 (b 4) (b 5)) (be16 (b 6) (b 7)) (be32 (b 8) (b 9) (b 10) (b 11))
  | .assign => .assign rid (b 2) (b 3)
  | .update => .update rid (b 2)
  | .beginSwap => .beginSwap rid
  | .cancel => .cancel rid
  | .demand => .demand (be16 (b 0) (b 1)) (be16 (b 2) (b 3)) (be16 (b 4) (b 5)) (b 6) (b 7) (b 8) (b 9) (b 10) (b 11)
  | .meter => .meter (be16 (b 0) (b 1)) (be16 (b 2) (b 3))
  | .query => .query (b 0) (b 1)
  | .decline | .close | .status => .untaken k d

/-- The pack class a byte of a frame or a record names; above 3 it names none (R50, R5). -/
def packClass? (b : Byte) : Option PackClass :=
  if h : b.toNat < 4 then some ⟨b.toNat, h⟩ else none

/-- The request kind in the kind and rider class byte (R51). -/
def requestKind (b : Byte) : RequestKind := if b.getLsbD 0 then .reservation else .walkUp

/-- The rider class in the kind and rider class byte (R51). -/
def riderClass (b : Byte) : RiderClass := if b.getLsbD 1 then .fleet else .standard

/-- An ETA byte, taken as 60 when above (R51, R53). -/
def etaOf (b : Byte) : Nat := min 60 b.toNat

/-! ### The pack contact link (1.3) -/

/-- The read command (R9). -/
def readCommand : Byte := 0xA5

/-- A character of the contact link, one level for each bit time: start bit (low), eight data bits with the least
significant first, stop bit (high) (R9). -/
def linkChar (b : Byte) : List Bool := [false] ++ lsbBits b ++ [true]

/-- Where SVY stands while it reads a contact link: between characters, or in one with the data bits read. -/
inductive LinkPhase where
  | rest
  | inChar (bits : List Bool)
deriving DecidableEq, Repr

/-- One more level of the contact link, after the characters read so far (R9). A low stop bit makes no character
(log 43). -/
def linkLevel (st : LinkPhase × List Byte) (level : Bool) : LinkPhase × List Byte :=
  match st with
  | (.rest, chars) => if level then (.rest, chars) else (.inChar [], chars)
  | (.inChar bits, chars) =>
    if bits.length < 8 then (.inChar (bits ++ [level]), chars)
    else if level then (.rest, chars ++ [byteOf (bitsNumber bits.reverse)]) else (.rest, chars)

/-- The characters that the levels of a contact link spell (R9). -/
def linkChars (levels : List Bool) : List Byte := (levels.foldl linkLevel (.rest, [])).2

/-- The temperature byte, two's complement, clamped to −40..+100 (R11). -/
def tempOf (b : Byte) : Int := max (-40) (min 100 b.toInt)

/-- The pack record in twelve record bytes, its fields clamped (R9, R11). -/
def packOf (r : List Byte) (k : PackClass) : Pack :=
  let b := fun i => r.getD i 0
  { id := be32 (b 0) (b 1) (b 2) (b 3)
    cls := k
    soc := min 1000 (be16 (b 5) (b 6)).toNat
    soh := min 100 (b 7).toNat
    temp := tempOf (b 8)
    cycles := be16 (b 9) (b 10)
    ok := decide (b 11 = 0) }

/-- The outcome of a read attempt: thirteen characters, the CRC-8 over the first twelve, the class byte (R5, R10).
Characters after the thirteenth are not part of the reply. -/
def readReply (chars : List Byte) : ReadOutcome :=
  let r := chars.take 13
  if r.length < 13 then .noReply
  else if crc8 (r.take 12) ≠ r.getD 12 0 then .badCrc
  else match packClass? (r.getD 4 0) with
    | none => .invalid
    | some k => .valid (packOf r k)

/-! ### The configuration memory's connection (R177) -/

/-- One more bit of a run of bytes sent most significant bit first: the whole bytes so far, and the bits of the next. -/
def shiftIn (st : List Byte × List Bool) (bit : Bool) : List Byte × List Bool :=
  if st.2.length < 7 then (st.1, st.2 ++ [bit]) else (st.1 ++ [byteOf (bitsNumber (st.2 ++ [bit]))], [])

/-- The whole bytes that a run of bits spells, most significant bit first (R177). -/
def msbBytes (bits : List Bool) : List Byte := (bits.foldl shiftIn ([], [])).1

end Sys2Proof.Machine
end

