-- ==== Sys2Proof/Machine/Readiness.lean ====
section
/-! DEFINITION. The readiness and score arithmetic of file 06. -/

namespace Sys2Proof.Machine

open Sys2Proof

/-- The ready estimate R of a pack at power `p` (R96). -/
def readyEstimate (f : ClassFigures) (soc p : Nat) : Nat :=
  if f.release ≤ soc then 0
  else if p = 0 then 1023
  else
    let bulk := min f.release f.knee - soc
    let taper := f.release - max soc f.knee
    let taperPower := max 1 (p * f.taper / 100)
    let numerator := bulk * f.capacity * 60 * taperPower + taper * f.capacity * 60 * p
    let denominator := 1000 * p * taperPower
    min 1022 ((numerator + denominator - 1) / denominator)

/-- P_max of the class, halved and rounded down to 50 W when the pack is at or above the warm limit (R79, R99). -/
def powerCap (cfg : Cfg) (p : Pack) : Nat :=
  if (cfg.warmLimit : Int) ≤ p.temp then floor50 ((cfg.figures p.cls).maxPower / 2) else (cfg.figures p.cls).maxPower

/-- What an evaluation reads of a slot (R98): the pack record only when OCCUPIED. -/
def Slot.view (sl : Slot) : SlotView :=
  { cond := sl.cond, pack := if sl.cond = .occupied then sl.pack else none, cut := sl.cut, role := sl.role,
    tier := sl.tier }

/-- The number of slots other than `n` in tier A (R100). -/
def tierAOthers (slots : List SlotView) (n : Nat) : Nat :=
  ((slots.zipIdx).filter (fun x => decide (x.2 ≠ n) && decide (x.1.tier = .a))).length

/-- The prospective power of slot `n` holding pack `p` (R99, R100). -/
def prospectivePower (cfg : Cfg) (grant : Nat) (slots : List SlotView) (n : Nat) (p : Pack) : Nat :=
  let quota := grant / (tierAOthers slots n + 1)
  let power := floor50 (min (powerCap cfg p) quota)
  if power < cfg.minPower then 0 else power

/-- The prospective ready estimate R_prosp (R101). -/
def prospectiveReady (cfg : Cfg) (grant : Nat) (slots : List SlotView) (n : Nat) (p : Pack) : Nat :=
  readyEstimate (cfg.figures p.cls) p.soc (prospectivePower cfg grant slots n p)

/-- The wait term (R102). -/
def waitTerm (ready eta : Nat) : Nat := ready - eta

/-- The wear term (R103). -/
def wearTerm (cycles : Half) : Nat := min 15 (cycles.toNat / 256)

/-- The fill term (R103). -/
def fillTerm (soc : Nat) : Nat := (1000 - soc) / 40

/-- The slot's pack could be released now: the terms of the ready count (R58). -/
def countsReady (cfg : Cfg) (k : PackClass) (v : SlotView) : Bool :=
  match v.pack with
  | none => false
  | some p =>
    decide (v.cond = .occupied) && decide (v.role = .free) && p.ok && !v.cut && decide (p.cls = k) &&
      decide ((cfg.figures k).release ≤ p.soc)

/-- The ready count of a class (R58, R104). -/
def readyCount (cfg : Cfg) (slots : List SlotView) (k : PackClass) : Nat := slots.countP (countsReady cfg k)

/-- The reserve term of an evaluation (R104). The ready count less 1 is compared as an integer, so a count of 0 lies
below every floor. -/
def reserveTerm (cfg : Cfg) (v : EvalView) : Nat :=
  if v.kind = .reservation ∧ v.rider = .standard ∧ 0 < v.eta ∧
      (readyCount cfg v.slots v.packClass : Int) - 1 < (cfg.reserveFloor : Int) then 32 else 0

/-- The score from its terms (R105). -/
def scoreOf (wait : Nat) (p : Pack) (reserve : Nat) : Nat :=
  min 254 (8 * wait + wearTerm p.cycles + fillTerm p.soc + reserve)

/-- What an evaluation finds of one eligible slot. -/
structure Candidate where
  slot : Nat
  score : Nat
  minutes : Nat
  pack : Pack
deriving DecidableEq, Repr

/-- Slot `n` judged against the request of the view: none when it is not eligible (R106). -/
def judgeSlot (cfg : Cfg) (v : EvalView) (n : Nat) (sv : SlotView) : Option Candidate :=
  match sv.pack with
  | none => none
  | some p =>
    let minutes := prospectiveReady cfg v.grant v.slots n p
    let wait := waitTerm minutes v.eta
    if sv.cond = .occupied ∧ p.ok = true ∧ sv.cut = false ∧ sv.role = .free ∧ p.cls = v.packClass ∧
        (cfg.figures p.cls).minSoh ≤ p.soh ∧ minutes ≤ 1022 ∧ wait ≤ cfg.maxWait v.rider then
      some ⟨n, scoreOf wait p (reserveTerm cfg v), minutes, p⟩
    else none

/-- The better of two candidates: the lower score, and of equal scores the earlier one, which has the lower slot
number (R108). -/
def betterCandidate (best : Option Candidate) (c : Candidate) : Option Candidate :=
  match best with
  | none => some c
  | some b => if c.score < b.score then some c else some b

/-- The lowest score, and of equal scores the lowest slot number, in a list that rises by slot number (R108). -/
def bestCandidate (l : List Candidate) : Option Candidate := l.foldl betterCandidate none

/-- The dock count, which may be negative (R107). -/
def dockCount (v : EvalView) : Int :=
  (v.slots.countP (fun sv => decide (sv.cond = .empty) && decide (sv.role = .free)) : Int) - v.promised - v.queued

/-- The candidate of an evaluation (R107, R108). -/
def evaluate (cfg : Cfg) (v : EvalView) : Option Candidate :=
  if v.station = .active ∧ 1 ≤ dockCount v then
    bestCandidate ((v.slots.zipIdx).filterMap (fun x => judgeSlot cfg v x.2 x.1))
  else none

/-- A slot is sound for a request of the given class (9.4). -/
def sound (cfg : Cfg) (k : PackClass) (sl : Slot) : Bool :=
  match sl.pack with
  | none => false
  | some p =>
    decide (sl.cond = .occupied) && p.ok && !sl.cut && decide (p.cls = k) && decide ((cfg.figures k).minSoh ≤ p.soh)

/-- A sound slot is releasable when its SoC has reached T (9.4). -/
def releasable (cfg : Cfg) (k : PackClass) (sl : Slot) : Bool :=
  match sl.pack with
  | none => false
  | some p => sound cfg k sl && decide ((cfg.figures k).release ≤ p.soc)

/-- The score of a releasable slot with ETA 0: no wait, no reserve (R105, R153). -/
def substituteScore (sl : Slot) : Nat :=
  match sl.pack with
  | none => 254
  | some p => scoreOf 0 p 0

/-- The ready estimate of a slot at its present setpoint (R91). -/
def Slot.readyNow (cfg : Cfg) (sl : Slot) : Nat :=
  if sl.cond = .occupied then
    match sl.pack with
    | some p => readyEstimate (cfg.figures p.cls) p.soc sl.setpoint
    | none => 1023
  else 1023

/-- The slot with its ready estimate in step with its present fields (R91). -/
def Slot.refreshed (cfg : Cfg) (sl : Slot) : Slot := { sl with ready := sl.readyNow cfg }

/-- The slot with its setpoint written as 0, the ready estimate rewritten (R92, R93). -/
def Slot.zeroed (cfg : Cfg) (sl : Slot) : Slot := Slot.refreshed cfg { sl with setpoint := 0 }

/-- PLN's part of a write by SVY: a slot that is not OCCUPIED has setpoint 0, and the ready estimate is rewritten
(R91, R93). -/
def Slot.afterSurvey (cfg : Cfg) (sl : Slot) : Slot :=
  if sl.cond = .occupied then sl.refreshed cfg else sl.zeroed cfg

end Sys2Proof.Machine
end

