-- ==== Sys2Proof/Machine/Flags.lean ====
section
/-! DEFINITION. Codes and flag bytes of status replies and frames (12.2, R56 to R58), and the outputs of the part as
views of its state (R21, R187). -/

namespace Sys2Proof.Machine

open Sys2Proof

/-- Station state code (R58). -/
def StationState.code : StationState → Nat
  | .starting => 0 | .joining => 1 | .active => 2 | .withdrawn => 3 | .holdup => 4 | .haltedConfig => 5

/-- Line condition code (12.2). -/
def LineCond.code : LineCond → Nat
  | .idle => 0 | .frame => 1 | .space => 2 | .hold => 3

/-- Halt cause code; 0xFF when absent (12.2). -/
def haltCode : Option HaltCause → Nat
  | none => 0xFF | some .noResponse => 0 | some .badCrc => 1 | some .noFittedSlot => 2

/-- Active step code, 0 for none (12.2). -/
def swapStepCode : Option SwapStep → Nat
  | none => 0 | some .startingWait => 1 | some .returnOpen => 2 | some .returnCheck => 3 | some .rejectOut => 4
  | some .releaseWait => 5 | some .releaseOpen => 6 | some .giveBack => 7

/-- Clamp cause code (12.2). -/
def ClampCause.code : ClampCause → Nat
  | .raised => 0 | .lowered => 1 | .rounded => 2 | .ceilingRaised => 3 | .stepDropped => 4 | .stepAppended => 5
  | .stepRemoved => 6

/-- Condition code (12.2). -/
def Cond.code : Cond → Nat
  | .empty => 0 | .settling => 1 | .occupied => 2 | .unreadable => 3 | .fault => 4

/-- Fault reason code, 0 for none (12.2). -/
def faultReasonCode : Option FaultReason → Nat
  | none => 0 | some .packFault => 1 | some .tamper => 2 | some .unreadableTimeout => 3 | some .rejectAbandoned => 4

/-- Role code (12.2). -/
def Role.code : Role → Nat
  | .free => 0 | .pledged => 1 | .held => 2 | .dock => 3 | .releasing => 4

/-- Tier code (12.2). -/
def Tier.code : Tier → Nat
  | .none => 0 | .a => 1 | .b => 2 | .c => 3

/-- Entry state code (12.2). -/
def EntryState.code : EntryState → Nat
  | .heard => 0 | .evaluating => 1 | .contending => 2 | .offered => 3 | .held => 4 | .serving => 5 | .satOut => 6
  | .beaten => 7 | .elsewhere => 8 | .unassigned => 9 | .done => 10 | .lapsed => 11 | .cancelled => 12 | .aborted => 13

/-- Sat-out cause code, 0 for none (12.2). -/
def satOutCode : Option SatOutCause → Nat
  | none => 0 | some .noCandidate => 1 | some .late => 2 | some .lost => 3

/-- Serve position code, 0 for none (12.2). -/
def servePosCode : Option ServePos → Nat
  | none => 0 | some .active => 1 | some .queued1 => 2 | some .queued2 => 3

/-- Peer state code (12.2). -/
def PeerState.code : PeerState → Nat
  | .absent => 0 | .present => 1 | .stale => 2

/-- Outcome code of a CLOSE (R57). -/
def Outcome.code : Outcome → Nat
  | .done => 0 | .lapsed => 1 | .uncollected => 2 | .aborted => 3

/-- Abort reason code, 0 for none (R57). -/
def abortCode : Option AbortReason → Nat
  | none => 0 | some .cancelled => 1 | some .returnTimeout => 2 | some .returnRejected => 3 | some .noPack => 4
  | some .releaseWaitExceeded => 5

/-- Decline reason code (R56). -/
def DeclineReason.code : DeclineReason → Nat
  | .late => 1 | .notEligible => 2 | .noDock => 3 | .busy => 4 | .unknown => 5 | .supply => 6 | .service => 7

/-- Bits to a byte, bit 0 first; the bits above those given are 0 (log 41: the manual gives the bits it does not list no
value). -/
def flagByte (bits : List Bool) : Byte := byteOf (bitsNumber bits.reverse)

/-- The kind and rider class byte (R51, 12.2); its six other bits are 0 (log 41). -/
def kindAndRiderByte (k : RequestKind) (r : RiderClass) : Byte :=
  flagByte [decide (k = .reservation), decide (r = .fleet)]

/-- Supply flags of SUMMARY 0 (12.2); bits 4 to 7 are 0 (log 41). -/
def supplyFlags (s : State) : Byte :=
  flagByte [s.sul.mainsGood, s.rhs.valid, s.lif.linePause, s.sul.joiningTimer.isSome]

/-- Slot flags of a SLOT reply (12.2); the class bits are 0 without a pack record, and bits 6 and 7 are 0 (log 41). -/
def slotFlags (sl : Slot) : Byte :=
  let k := match sl.pack with
    | some p => p.cls.val
    | none => 0
  flagByte [sl.present, sl.cut, sl.unlocked, sl.pack.isSome, k.testBit 0, k.testBit 1]

/-- States from which an entry may still be changed by its request's course (7.2). -/
def EntryState.live : EntryState → Bool
  | .heard | .evaluating | .contending | .offered | .held | .serving => true
  | _ => false

/-- The fault lamp (R187): dark in STARTING and while the core is stopped. -/
def State.faultLamp (s : State) : Bool :=
  lifRuns s &&
    (s.slots.any (fun sl => decide (sl.cond = .fault)) || decide (s.sul.state = .haltedConfig) || s.lif.clashFlag)

/-- The latch drive of slot `n` is powered (R1, R21). -/
def State.latchDrive (s : State) (n : Nat) : Bool :=
  match s.slot? n with
  | some sl => s.core && sl.unlocked
  | none => false

/-- What the charger setpoint output of slot `n` carries, in W (R1, R19, R21). -/
def State.setpointOutput (s : State) (n : Nat) : Nat :=
  match s.slot? n with
  | some sl => if s.core = false ∨ sl.cut = true then 0 else sl.setpoint
  | none => 0

/-- The cells of the frame in transmission (R22). -/
def State.lineCells (s : State) : List Bool :=
  match s.lif.tx with
  | some t => frameCells 0 t.chars
  | none => []

/-- CFSL: low while the configuration memory is selected (R177). That it is high while the core is stopped, which no rule
gives, is the model's choice (log 48). -/
def State.cfsl (s : State) : Bool := !s.sul.selected

/-- The bit SUL drives on CFDA in a period of CFCK; none once it has released CFDA (R177). -/
def CfdaCycle.driven : CfdaCycle → Option Bool
  | .command bit => some bit
  | .data _ => none

/-- This station holds the line dominant in a stretch (R42). -/
def State.stretching (s : State) : Bool := s.lif.stretch.isSome

end Sys2Proof.Machine
end

