-- ==== Sys2Proof/Machine/Queue.lean ====
section
/-! DEFINITION. The transmit queue, the contest register and the contest stretch as the other blocks use them (R38 to
R42), and the frames this station produces (R49, R56 to R58). -/

namespace Sys2Proof.Machine

open Sys2Proof

/-- The contest value of a kind; an OFFER's is its score (R47). -/
def Kind.contest : Kind → Byte
  | .request | .update => 0x10
  | .offer => 0
  | .assign | .beginSwap | .cancel => 0x08
  | .decline | .close => 0x0C
  | .demand => 0x40
  | .meter => 0x38
  | .query => 0xB0
  | .status => 0xC0

/-- The target of a frame to all stations (3.1). -/
def toAll : Byte := 0x3F

/-- The entry is the one in transmission. -/
def inTransmission (tx : Option Transmission) (e : TxEntry) : Bool :=
  match tx with
  | some ⟨.queue o, _⟩ => o == e.order
  | _ => false

/-- The register's OFFER is in transmission. -/
def registerInTransmission (tx : Option Transmission) : Bool :=
  match tx with
  | some ⟨.register, _⟩ => true
  | _ => false

/-- A new entry takes its place behind every entry of a lower or equal contest value (R38). -/
def insertTx (e : TxEntry) : List TxEntry → List TxEntry
  | [] => [e]
  | x :: xs => if e.frame.contest < x.frame.contest then e :: x :: xs else x :: insertTx e xs

/-- A frame enters the queue with the newest enqueue order (R38). -/
def pushFrame (f : TxFrame) (s : State) : State :=
  { s with lif.queue := insertTx ⟨f, s.lif.nextOrder, none⟩ s.lif.queue, lif.nextOrder := s.lif.nextOrder + 1 }

/-- The enqueue order of the newest STATUS that is not in transmission (R39). -/
def newestStatus (l : Lif) : Option Nat :=
  ((l.queue.filter (fun e => decide (e.frame.kind = .status) && !inTransmission l.tx e)).map (fun e => e.order)).max?

/-- A new DEMAND against a queued one: it replaces the figures in place, or stands beside them while the queued one is
in transmission (R39). -/
def replaceDemand (tx : Option Transmission) (f : TxFrame) (e : TxEntry) : TxEntry :=
  if e.frame.kind = .demand then
    if inTransmission tx e then { e with kept := some f.data } else { e with frame := f }
  else e

/-- A frame is offered to the transmit queue (R39). -/
def enqueue (f : TxFrame) (s : State) : State :=
  if f.kind = .demand ∧ s.lif.queue.any (fun e => decide (e.frame.kind = .demand)) = true then
    { s with lif.queue := s.lif.queue.map (replaceDemand s.lif.tx f) }
  else if s.lif.queue.length < 4 then pushFrame f s
  else if f.kind = .close ∨ f.kind = .decline then
    match newestStatus s.lif with
    | some o =>
      bump .transmitDropped (pushFrame f { s with lif.queue := s.lif.queue.filter (fun e => decide (e.order ≠ o)) })
    | none => bump .transmitDropped s
  else bump .transmitDropped s

/-- The counter of a decline reason (R56, R185). -/
def DeclineReason.counter : DeclineReason → Counter
  | .late => .declineLate | .notEligible => .declineNotEligible | .noDock => .declineNoDock | .busy => .declineBusy
  | .unknown => .declineUnknown | .supply => .declineSupply | .service => .declineService

/-- The DECLINE frame (R56). -/
def declineFrame (rid : ReqId) (r : DeclineReason) : TxFrame :=
  ⟨Kind.decline.contest, .decline, toAll, ridBytes rid ++ [byteOf r.code]⟩

/-- OFE produces a DECLINE, which is counted whether or not the queue keeps it (R56). -/
def decline (rid : ReqId) (r : DeclineReason) (s : State) : State :=
  enqueue (declineFrame rid r) (bump r.counter s)

/-- The counter of an outcome (R57, R185). -/
def Outcome.counter : Outcome → Counter
  | .done => .done | .lapsed => .lapsed | .uncollected => .uncollected | .aborted => .aborted

/-- The counter of an abort reason (R57, R185). -/
def AbortReason.counter : AbortReason → Counter
  | .cancelled => .abortedCancelled | .returnTimeout => .abortedReturnTimeout
  | .returnRejected => .abortedReturnRejected | .noPack => .abortedNoPack
  | .releaseWaitExceeded => .abortedReleaseWaitExceeded

/-- The reason byte of a CLOSE: presence marks of the two ids in the two upper bits, the abort reason code in the lower
four (R57); bits 5 and 4 are 0 (log 41). -/
def closeReasonByte (abort : Option AbortReason) (released returned : Option Word) : Byte :=
  byteOf ((if released.isSome then 0x80 else 0) + (if returned.isSome then 0x40 else 0) + abortCode abort)

/-- The CLOSE frame; an absent id carries 0 (R57). -/
def closeFrame (rid : ReqId) (o : Outcome) (abort : Option AbortReason) (released returned : Option Word) : TxFrame :=
  ⟨Kind.close.contest, .close, toAll,
    ridBytes rid ++ [byteOf o.code, closeReasonByte abort released returned] ++ bytes32 (released.getD 0) ++
      bytes32 (returned.getD 0)⟩

/-- The counters of a CLOSE: its outcome's, and its abort reason's (R57, R185). -/
def bumpClose (o : Outcome) (abort : Option AbortReason) (s : State) : State :=
  match abort with
  | some a => bump a.counter (bump o.counter s)
  | none => bump o.counter s

/-- A CLOSE is produced, counted whether or not the queue keeps it (R57, R141, R159). -/
def close (rid : ReqId) (o : Outcome) (abort : Option AbortReason) (released returned : Option Word) (s : State) :
    State :=
  enqueue (closeFrame rid o abort released returned) (bumpClose o abort s)

/-- OFE tells LIF that a request is no longer open for the stretch; a stretch driven for it ends (R42, R114, R116). -/
def closeStretch (rid : ReqId) (s : State) : State :=
  { s with
    lif.mark := s.lif.mark.map (fun m => if m.rid = rid then { m with closed := true } else m)
    lif.stretch := if s.lif.stretch = some rid then none else s.lif.stretch }

/-- A malformed REQUEST, which OFE reports as not entered: it is closed for the stretch, and no offer is sent for it at its
contest point (R50). -/
def barRequest (rid : ReqId) (s : State) : State :=
  let s1 := closeStretch rid s
  { s1 with lif.mark := s1.lif.mark.map (fun m => if m.rid = rid then { m with barred := true } else m) }

/-- OFE clears the contest register: at once when the OFFER is not in transmission, else when its transmission ends
(R40). -/
def clearRegister (s : State) : State :=
  if s.lif.register.isSome && registerInTransmission s.lif.tx then { s with lif.clearPending := true }
  else { s with lif.register := none, lif.lossPending := false }

/-- The queue after the transmission of the entry of order `o` has completed: the entry leaves, or takes the figures
kept beside it with the newest order (R33, R39). -/
def queueCompleted (o : Nat) (s : State) : State :=
  match s.lif.queue.find? (fun e => e.order == o) with
  | none => s
  | some e =>
    let rest := { s with lif.queue := s.lif.queue.filter (fun x => decide (x.order ≠ o)) }
    match e.kept with
    | some d => pushFrame { e.frame with data := d } rest
    | none => rest

/-- The queue after a loss, framing error or cut: the entry stays, with the figures kept beside it (R33, R39). -/
def queueRetries (o : Nat) (s : State) : State :=
  { s with lif.queue := s.lif.queue.map (fun e =>
      if e.order = o then { e with frame.data := e.kept.getD e.frame.data, kept := none } else e) }

/-- The queue after a clash: the entry is removed, and figures kept beside it are enqueued as a new DEMAND
(R33, R39). -/
def queueAbandoned (o : Nat) (s : State) : State :=
  match s.lif.queue.find? (fun e => e.order == o) with
  | none => s
  | some e =>
    let rest := { s with lif.queue := s.lif.queue.filter (fun x => decide (x.order ≠ o)) }
    match e.kept with
    | some d => enqueue { e.frame with data := d } rest
    | none => rest

end Sys2Proof.Machine
end

