-- ==== Sys2Proof/Machine/Allowance.lean ====
section
/-! DEFINITION. The Allowance Unit: Peer Table, meter record, site allowance, cabinet grant, DEMAND frames (file 04). -/

namespace Sys2Proof.Machine

open Sys2Proof

/-- An entry as the Peer Table starts (R61). -/
def Peer.initial : Peer := ⟨.absent, 0, 0, 0, 0, 0, 0, 0, 0⟩

/-- The Peer Table as loading leaves it: an ABSENT entry for every station number but the own (R61). -/
def initialPeers (own : BitVec 4) : List (Option Peer) :=
  (List.range 16).map (fun n => if n = own.toNat then none else some Peer.initial)

/-- The peers that count toward the grant (R67). -/
def countedPeers (a : Alw) : List Peer :=
  (a.peers.filterMap id).filter (fun p => decide (p.state ≠ .absent))

/-- U: the urgent figures of the own station and every counted peer (R67). -/
def urgentSum (wu : Nat) (peers : List Peer) : Nat := wu + (peers.map (fun p => p.urgent)).sum

/-- D: wanted less urgent over the same stations (R67). -/
def restSum (wd wu : Nat) (peers : List Peer) : Nat := (wd - wu) + (peers.map (fun p => p.wanted - p.urgent)).sum

/-- g, in whole watts (R68). -/
def grantShare (a wd wu : Nat) (peers : List Peer) : Nat :=
  let u := urgentSum wu peers
  let d := restSum wd wu peers
  if a ≤ u ∧ 0 < u then a * wu / u
  else wu + (if d = 0 then 0 else (a - u) * (wd - wu) / d)

/-- G as the formula and the station state give it (R68). -/
def grantNow (s : State) : Nat :=
  if s.sul.state = .active ∨ s.sul.state = .withdrawn then
    floor50 (min (grantShare s.alw.allowance s.pln.wanted s.pln.urgent (countedPeers s.alw)) s.pln.wanted)
  else 0

/-- ALW recomputes G; a new value sets replan-pending (R69). -/
def recomputeGrant (s : State) : State :=
  if grantNow s = s.alw.grant then s else setReplan { s with alw.grant := grantNow s }

/-- A as the meter record and the configuration give it (R66). -/
def allowanceOf (cfg : Cfg) (m : Meter) : Nat :=
  if m.fresh then min cfg.contract (cfg.contract - m.load - cfg.margin) else min cfg.fallback cfg.contract

/-- ALW recomputes A; a new value recomputes G (R66). -/
def recomputeAllowance (s : State) : State :=
  let a := allowanceOf s.sul.cfg s.alw.meter
  if a = s.alw.allowance then s else recomputeGrant { s with alw.allowance := a }

/-- The views of the live Slot Table. -/
def State.views (s : State) : List SlotView := s.slots.map Slot.view

/-- The ready counts a DEMAND reports: 0 in WITHDRAWN (R58, R70). -/
def demandReady (s : State) (k : PackClass) : Nat :=
  if s.sul.state = .withdrawn then 0 else readyCount s.sul.cfg s.views k

/-- The empty slot count of a DEMAND (R58). -/
def emptyFree (s : State) : Nat := s.slots.countP (fun sl => decide (sl.cond = .empty) && decide (sl.role = .free))

/-- The wanted figure a DEMAND carries: 0 in HOLDUP (R70). -/
def demandWanted (s : State) : Nat := if s.sul.state = .holdup then 0 else s.pln.wanted

/-- The urgent figure a DEMAND carries: 0 in HOLDUP (R70). -/
def demandUrgent (s : State) : Nat := if s.sul.state = .holdup then 0 else s.pln.urgent

/-- The DEMAND frame with the figures of the moment (R58, R70). -/
def demandFrame (s : State) : TxFrame :=
  ⟨Kind.demand.contest, .demand, toAll,
    bytes16 (halfOf (demandWanted s)) ++ bytes16 (halfOf (demandUrgent s)) ++ bytes16 (halfOf s.alw.grant) ++
      [byteOf (demandReady s 0), byteOf (demandReady s 1), byteOf (demandReady s 2), byteOf (demandReady s 3),
        byteOf (emptyFree s), byteOf s.sul.state.code]⟩

/-- ALW produces a DEMAND: the announced figure, the spacing timer and the early-pending mark follow whether or not the
queue keeps it (R70). -/
def produceDemand (s : State) : State :=
  { enqueue (demandFrame s) s with
    alw.announced := demandWanted s, alw.spacingTimer := some 250, alw.earlyPending := false }

/-- The decision on an early DEMAND at a pass end in ACTIVE or WITHDRAWN (R72). -/
def earlyDemand (s : State) : State :=
  if (s.sul.state = .active ∨ s.sul.state = .withdrawn) ∧
      (s.alw.announced + 500 ≤ s.pln.wanted ∨ s.pln.wanted + 500 ≤ s.alw.announced) then
    if s.alw.spacingTimer.isNone then produceDemand s else { s with alw.earlyPending := true }
  else s

/-- The entry a taken DEMAND writes: the urgent figure is lowered to the wanted one (R58, R62). -/
def peerOf (wanted urgent : Half) (r0 r1 r2 r3 empty : Byte) (now : Word) : Peer :=
  ⟨.present, wanted.toNat, min urgent.toNat wanted.toNat, now, r0, r1, r2, r3, empty⟩

/-- ALW takes a DEMAND (R62); one from the own number writes nothing. -/
def takeDemand (source : BitVec 4) (p : Peer) (s : State) : State :=
  if source = s.sul.station then s
  else recomputeGrant { s with alw.peers := s.alw.peers.set source.toNat (some p) }

/-- ALW takes a METER (R59, R64). -/
def takeMeter (load total : Half) (s : State) : State :=
  recomputeAllowance { s with
    alw.meter := ⟨load.toNat * 10, total.toNat * 10, s.rhs.seconds, true⟩
    alw.freshTimer := some 3000 }

/-- One entry's aging at a tick (R63). -/
def agePeer (now : Word) (p : Peer) : Peer :=
  match p.state with
  | .present => if 5 < since now p.lastHeard then { p with state := .stale } else p
  | .stale =>
    if 15 < since now p.lastHeard then
      { p with state := .absent, wanted := 0, urgent := 0, ready0 := 0, ready1 := 0, ready2 := 0, ready3 := 0,
               empty := 0 }
    else p
  | .absent => p

/-- ALW ages the Peer Table at a tick; a transition recomputes G once (R63). -/
def agePeers (s : State) : State :=
  let aged := s.alw.peers.map (Option.map (agePeer s.rhs.seconds))
  if aged = s.alw.peers then s else recomputeGrant { s with alw.peers := aged }

/-- ALW's part of a change of station state from `old` to the present one: G, the demand timer, the HOLDUP DEMAND
(R69, R71, R74, R164). -/
def allowanceHandOff (old : StationState) (s : State) : State :=
  let s1 := recomputeGrant s
  let was := old = .active ∨ old = .withdrawn
  if s1.sul.state = .active ∨ s1.sul.state = .withdrawn then
    if was then s1 else { s1 with alw.demandTimer := some 2000 }
  else
    let s2 := { s1 with alw.demandTimer := none }
    if was ∧ s1.sul.state = .holdup then produceDemand s2 else s2

end Sys2Proof.Machine
end

