-- ==== Sys2Proof/Machine/Planner.lean ====
section
/-! DEFINITION. The Charge Planner: snapshot, caps, tiers, fill, and the end of a pass (file 05). -/

namespace Sys2Proof.Machine

open Sys2Proof

/-! ### Writes between passes (R91 to R93) -/

/-- PLN writes every setpoint as 0 (R92). -/
def zeroAllSetpoints (s : State) : State := { s with slots := s.slots.map (Slot.zeroed s.sul.cfg) }

/-- PLN writes one slot's setpoint as 0 (R93). -/
def zeroSetpoint (n : Nat) (s : State) : State := modSlot n (Slot.zeroed s.sul.cfg) s

/-- A slot takes a role with its request id; PLN zeroes the setpoint of one that becomes RELEASING, and replan-pending
is set (R76, R93). -/
def setRole (n : Nat) (r : Role) (rid : Option ReqId) (s : State) : State :=
  setReplan (modSlot n (fun sl =>
    let sl' := { sl with role := r, rid := rid }
    if r = .releasing then sl'.zeroed s.sul.cfg else sl') s)

/-- A slot that has the role with this request id returns to FREE with none (R122, R135, R140, R148, R154). -/
def freeRole (n : Nat) (r : Role) (rid : ReqId) (s : State) : State :=
  match s.slot? n with
  | some sl => if sl.role = r ∧ sl.rid = some rid then setRole n .free none s else s
  | none => s

/-! ### The snapshot (R77) -/

/-- SEQ's active swap stands in RELEASE_WAIT on slot `n` (R77). -/
def waitsOn (q : Seq) (n : Nat) : Bool :=
  match q.active with
  | some w => decide (w.step = .releaseWait) && decide (w.release = n)
  | none => false

/-- The hold deadline and rider class of the entry a HELD slot names (R77). -/
def holdOf (book : List Entry) (sl : Slot) : Option (Word × RiderClass) :=
  if sl.role = .held then
    match sl.rid with
    | none => none
    | some r =>
      match book.find? (fun e => decide (e.rid = r)) with
      | some e => e.deadline.map (fun d => (d, e.rider))
      | none => none
  else none

/-- One slot of the snapshot (R77). -/
def snapSlot (s : State) (n : Nat) (sl : Slot) : SnapSlot :=
  { cond := sl.cond, pack := if sl.cond = .occupied then sl.pack else none, cut := sl.cut, role := sl.role,
    hold := holdOf s.ofe.book sl, waiting := waitsOn s.seq n }

/-- The plan snapshot of the present event (R77). -/
def takeSnapshot (s : State) : Snapshot :=
  { slots := (s.slots.zipIdx).map (fun x => snapSlot s x.2 x.1), grant := s.alw.grant, station := s.sul.state,
    pause := s.lif.linePause }

/-- A pass begins in the event that finds replan-pending set, no pass running and the part at work (R75, R77, R78). -/
def beginPass (s : State) : State :=
  if s.pln.replan && s.pln.pass.isNone && operates s then
    { s with pln.replan := false, pln.pass := some ⟨takeSnapshot s, 200 + 150 * s.slots.length⟩ }
  else s

/-! ### Caps, candidates, tiers (R79 to R83) -/

/-- The cap of a slot (R79). -/
def capOf (cfg : Cfg) (x : SnapSlot) : Nat :=
  match x.pack with
  | some p => if x.cond = .occupied then powerCap cfg p else 0
  | none => 0

/-- The tier of a slot; none for a slot that is no charging candidate (R80, R81). -/
def tierOf (cfg : Cfg) (x : SnapSlot) : Tier :=
  match x.pack with
  | none => .none
  | some p =>
    if x.cond = .occupied ∧ p.ok = true ∧ x.cut = false ∧ x.role ≠ .releasing ∧
        p.soc < (cfg.figures p.cls).ceiling then
      if p.soc < (cfg.figures p.cls).release then (if x.role = .held ∨ x.waiting = true then .a else .b) else .c
    else .none

/-- A slot of the snapshot with its number. -/
abbrev Numbered := SnapSlot × Nat

/-- The deadline of a tier A slot as a number; one without an entry stands last (R82; log 10). -/
def deadlineKey (x : Numbered) : Nat :=
  match x.1.hold with
  | some (d, _) => d.toNat
  | none => 2 ^ 32

/-- The rider class of a tier A slot as a number, fleet first (R82). -/
def riderKey (x : Numbered) : Nat :=
  match x.1.hold with
  | some (_, .fleet) => 0
  | _ => 1

/-- The walk of tier A: RELEASE_WAIT, deadline, rider class, slot number (R82). -/
def beforeA (x y : Numbered) : Bool :=
  if x.1.waiting ≠ y.1.waiting then x.1.waiting
  else if deadlineKey x ≠ deadlineKey y then decide (deadlineKey x < deadlineKey y)
  else if riderKey x ≠ riderKey y then decide (riderKey x < riderKey y)
  else decide (x.2 < y.2)

/-- The SoC of a slot of the snapshot. -/
def socKey (x : Numbered) : Nat :=
  match x.1.pack with
  | some p => p.soc
  | none => 0

/-- The walk of tier B: SoC, highest first, then slot number (R83). -/
def beforeB (x y : Numbered) : Bool :=
  if socKey x ≠ socKey y then decide (socKey y < socKey x) else decide (x.2 < y.2)

/-- The slots of one tier, in slot order. -/
def inTier (cfg : Cfg) (sn : Snapshot) (t : Tier) : List Numbered :=
  (sn.slots.zipIdx).filter (fun x => decide (tierOf cfg x.1 = t))

/-- The walk of the fill: tier A, tier B, tier C, each in its own order, as slot numbers with caps (R82, R83, R85). -/
def walkOf (cfg : Cfg) (sn : Snapshot) : List (Nat × Nat) :=
  (sortBy beforeA (inTier cfg sn .a) ++ sortBy beforeB (inTier cfg sn .b) ++ inTier cfg sn .c).map
    (fun x => (x.2, capOf cfg x.1))

/-- The greedy fill from a remaining figure (R85). -/
def fill (minPower : Nat) : Nat → List (Nat × Nat) → List (Nat × Nat)
  | _, [] => []
  | remaining, (n, cap) :: rest =>
    let amount := if min remaining cap < minPower then 0 else min remaining cap
    (n, amount) :: fill minPower (remaining - amount) rest

/-- The sum of the planned setpoints. -/
def planSum (plan : List (Nat × Nat)) : Nat := (plan.map (fun x => x.2)).sum

/-- The planned setpoint of a slot; 0 for one not walked (R85). -/
def planned (plan : List (Nat × Nat)) (n : Nat) : Nat :=
  match plan.find? (fun x => x.1 == n) with
  | some x => x.2
  | none => 0

/-- W_d of a pass: the caps of its candidates; 0 in HOLDUP (R84). -/
def wantedOf (cfg : Cfg) (sn : Snapshot) : Nat :=
  if sn.station = .holdup then 0 else
    ((sn.slots.filter (fun x => decide (tierOf cfg x ≠ .none))).map (capOf cfg)).sum

/-- W_u of a pass: the caps of its tier A candidates; 0 in HOLDUP (R84). -/
def urgentOf (cfg : Cfg) (sn : Snapshot) : Nat :=
  if sn.station = .holdup then 0 else
    ((sn.slots.filter (fun x => decide (tierOf cfg x = .a))).map (capOf cfg)).sum

/-- The station state and the line pause allow charging (R86, R89). -/
def mayCharge (st : StationState) (pause : Bool) : Bool :=
  !pause && (decide (st = .active) || decide (st = .withdrawn))

/-- The plan of a pass from its snapshot (R85, R86). -/
def planOf (cfg : Cfg) (sn : Snapshot) : List (Nat × Nat) :=
  if mayCharge sn.station sn.pause then fill cfg.minPower sn.grant (walkOf cfg sn) else []

/-- The plan limited to the end G (R88). -/
def limitPlan (cfg : Cfg) (sn : Snapshot) (endGrant : Nat) : List (Nat × Nat) :=
  if endGrant < planSum (planOf cfg sn) then fill cfg.minPower endGrant (walkOf cfg sn) else planOf cfg sn

/-- The conditions that hold at the end event zero a slot: tripped cut, RELEASING, not OCCUPIED, or another pack than the
snapshot's (R89). That only what holds at the end event counts, so that a cut that tripped and was cleared while the pass
ran zeroes nothing here, is the model's choice between R89 and R94 (log 47). -/
def zeroedAtEnd (x : Option SnapSlot) (sl : Slot) : Bool :=
  sl.cut || decide (sl.role = .releasing) || decide (sl.cond ≠ .occupied) ||
    decide ((sl.pack.map (fun p => p.id)) ≠ ((x.bind (fun y => y.pack)).map (fun p => p.id)))

/-- One slot as the end of a pass writes it: setpoint, cap, tier, and the ready estimate (R89, R90). -/
def writePlan (cfg : Cfg) (sn : Snapshot) (plan : List (Nat × Nat)) (may : Bool) (n : Nat) (sl : Slot) : Slot :=
  let x := sn.slots[n]?
  Slot.refreshed cfg { sl with
    setpoint := if may && !zeroedAtEnd x sl then planned plan n else 0
    cap := (x.map (capOf cfg)).getD 0
    tier := (x.map (tierOf cfg)).getD .none }

/-- The figures a pass stores first: W_d and W_u, 0 when the station state is HOLDUP (R87). -/
def storeFigures (p : Pass) (s : State) : State :=
  { s with
    pln.pass := none
    pln.wanted := if s.sul.state = .holdup then 0 else wantedOf s.sul.cfg p.snap
    pln.urgent := if s.sul.state = .holdup then 0 else urgentOf s.sul.cfg p.snap }

/-- The setpoints, caps, tiers and ready estimates a pass writes under the G that now holds (R88 to R90). -/
def writeSlots (p : Pass) (s : State) : State :=
  let plan := limitPlan s.sul.cfg p.snap s.alw.grant
  { s with slots := s.slots.mapIdx (writePlan s.sul.cfg p.snap plan (mayCharge s.sul.state s.lif.linePause)) }

/-- The end of a pass, in the order of R87 to R90: figures, G, slots, the early DEMAND. -/
def endPass (p : Pass) (s : State) : State :=
  earlyDemand (writeSlots p (recomputeGrant (storeFigures p s)))

/-- PLN's part of a change of station state (R92, R164). -/
def plannerHandOff (s : State) : State :=
  if s.sul.state = .holdup then
    setReplan { zeroAllSetpoints s with pln.wanted := 0, pln.urgent := 0 }
  else setReplan s

/-! ### The evaluator's beginning (R98, R115) -/

/-- The evaluation view of an entry (R98). -/
def takeView (e : Entry) (s : State) : EvalView :=
  { rid := e.rid, kind := e.kind, rider := e.rider, packClass := e.packClass, eta := e.eta, slots := s.views,
    grant := s.alw.grant, station := s.sul.state,
    promised := s.ofe.book.countP (fun x => decide (x.state = .offered) || decide (x.state = .held))
    queued := s.ofe.book.countP (fun x => decide (x.state = .serving) &&
      (decide (x.servePos = some .queued1) || decide (x.servePos = some .queued2))) }

/-- An evaluation begins in any event that finds the evaluator idle and an entry in HEARD; it takes the one nearest the
head of the book (R115). -/
def beginEvaluation (s : State) : State :=
  if s.ofe.evaluation.isNone && operates s then
    match s.ofe.book.find? (fun e => decide (e.state = .heard)) with
    | some e =>
      { s with
        ofe.evaluation := some ⟨takeView e s, 250 * s.slots.length⟩
        ofe.book := s.ofe.book.map (fun x => if x.rid = e.rid then { x with state := .evaluating } else x) }
    | none => s
  else s

/-! ### Survey steps that begin -/

/-- A survey step begins on slot `n` (R3, R5). -/
def beginStep (kind : StepKind) (n : Nat) (s : State) : State :=
  let readable := match s.slot? n with
    | some sl => decide (sl.cond ≠ .fault)
    | none => false
  { s with svy.step := some ⟨n, kind, readable, s.sul.cfg.window⟩ }

/-- A focus slot set while the survey rests in the pass gap makes a focus step begin (R7, R8). -/
def beginGapFocus (s : State) : State :=
  match s.svy.step, s.svy.gap, s.svy.focus with
  | none, .running _, some f => if operates s then beginStep .focus f s else s
  | _, _, _ => s

/-- What begins at the end of an event: a planning pass, an evaluation, a focus step in the gap (R7, R77, R115;
log 24). -/
def settle (s : State) : State := beginGapFocus (beginEvaluation (beginPass s))

/-- PLANNING_PASS_END (R87 to R90, R72, R77); nothing ends when no pass runs. -/
def execPlanningPassEnd (s : State) : Host.Outcome State Fault Refusal :=
  match s.pln.pass with
  | some p => .next (if s.core then settle (endPass p s) else s)
  | none => .next s

/-! ### Timers and frames of the Allowance Unit -/

/-- DEMAND_TIMER_EXPIRY (R71): a DEMAND, and the timer reloads; a stopped timer does not expire. -/
def execDemandTimerExpiry (s : State) : Host.Outcome State Fault Refusal :=
  .next (if s.core && s.alw.demandTimer.isSome then produceDemand { s with alw.demandTimer := some 2000 } else s)

/-- SPACING_TIMER_EXPIRY (R72): a DEMAND when the early-pending mark is set. -/
def execSpacingTimerExpiry (s : State) : Host.Outcome State Fault Refusal :=
  .next (if s.core && s.alw.spacingTimer.isSome then
    (let s1 := { s with alw.spacingTimer := none }
     if s.alw.earlyPending then produceDemand s1 else s1)
  else s)

/-- FRESHNESS_TIMER_EXPIRY (R65): the record is not fresh, and A is recomputed. -/
def execFreshnessTimerExpiry (s : State) : Host.Outcome State Fault Refusal :=
  .next (if s.core && s.alw.freshTimer.isSome then
    settle (recomputeAllowance { s with alw.freshTimer := none, alw.meter.fresh := false })
  else s)

end Sys2Proof.Machine
end

