-- ==== Sys2Proof/Machine/Book.lean ====
section
/-! DEFINITION. The Request Book's entries and the hold records that mirror them (files 07 and 10). -/

namespace Sys2Proof.Machine

open Sys2Proof

/-! ### Hold records (R169) -/

/-- A record takes the lowest-numbered empty place (R169). -/
def placeHold (r : HoldRecord) : List (Option HoldRecord) → List (Option HoldRecord)
  | [] => []
  | none :: rest => some r :: rest
  | some x :: rest => some x :: placeHold r rest

/-- A place holds the record of this request. -/
def holdsFor (rid : ReqId) (h : Option HoldRecord) : Bool :=
  match h with
  | some r => decide (r.rid = rid)
  | none => false

/-- A request's record is rewritten in its own place, or takes the lowest-numbered empty one (R169). -/
def putHold (r : HoldRecord) (l : List (Option HoldRecord)) : List (Option HoldRecord) :=
  if l.any (holdsFor r.rid) then l.map (fun h => if holdsFor r.rid h then some r else h) else placeHold r l

/-- A removal empties the record's place (R169). -/
def dropHold (rid : ReqId) (l : List (Option HoldRecord)) : List (Option HoldRecord) :=
  l.map (fun h => if holdsFor rid h then none else h)

/-- OFE removes a request's hold record (R112). -/
def removeRecord (rid : ReqId) (s : State) : State := { s with rhs.holds := dropHold rid s.rhs.holds }

/-! ### Entries (7.1) -/

/-- The entry with a request id. -/
def State.entry? (s : State) (rid : ReqId) : Option Entry := s.ofe.book.find? (fun e => decide (e.rid = rid))

/-- OFE rewrites the entry with a request id. -/
def modEntry (rid : ReqId) (f : Entry → Entry) (s : State) : State :=
  { s with ofe.book := s.ofe.book.map (fun e => if e.rid = rid then f e else e) }

/-- The hold record of an entry that has a held slot and a deadline (R136, 10.4). -/
def Entry.record (e : Entry) : Option HoldRecord :=
  match e.heldSlot, e.deadline with
  | some n, some d => some ⟨e.rid, n, d, e.packClass, e.returnClass, e.rider, e.eta⟩
  | _, _ => none

/-- OFE writes or rewrites the hold record of a request from its entry (R112). -/
def syncRecord (rid : ReqId) (s : State) : State :=
  match (s.entry? rid).bind Entry.record with
  | some r => { s with rhs.holds := putHold r s.rhs.holds }
  | none => s

/-- An entry enters a terminal state from a live one (R111): the linger start is written; tries, held slot, deadline and
serve position are cleared; its timers stop (R119, R120). -/
def Entry.ended (st : EntryState) (now : Word) (e : Entry) : Entry :=
  { e with state := st, tries := 0, heldSlot := none, deadline := none, servePos := none, satOut := none,
           linger := some now, pledgeTimer := none, holdTimer := none }

/-- An entry enters SAT_OUT with its cause (R111). -/
def Entry.satOutFor (c : SatOutCause) (now : Word) (e : Entry) : Entry :=
  { e.ended .satOut now with satOut := some c }

/-- An entry enters HELD again from SERVING with a fresh deadline (R111, R120). -/
def Entry.heldAgain (deadline : Word) (e : Entry) : Entry :=
  { e with state := .held, deadline := some deadline, holdTimer := some deadline, servePos := none,
           returnedId := none }

/-- The request is waiting for or under evaluation, so that it is open for the stretch (R42, R114). -/
def EntryState.open? : EntryState → Bool
  | .heard | .evaluating => true
  | _ => false

/-- SEQ hands a request back: OFE makes the entry HELD with a fresh deadline, arms its hold timer, rewrites its hold
record and sets replan-pending (R147, R151). -/
def holdAgain (rid : ReqId) (s : State) : State :=
  setReplan (syncRecord rid (modEntry rid (Entry.heldAgain (inMinutes s.rhs.seconds s.sul.cfg.holdGrace)) s))

/-! ### Hold expiry (R141) -/

/-- A hold lapses (R141). -/
def lapse (rid : ReqId) (s : State) : State :=
  match s.entry? rid with
  | none => s
  | some e =>
    let s1 := match e.heldSlot with
      | some n => freeRole n .held rid s
      | none => s
    let s2 := modEntry rid (Entry.ended .lapsed s1.rhs.seconds) (removeRecord rid s1)
    close rid .lapsed none none none (setReplan s2)

/-- The hold timer of an entry is due: the entry is HELD, the timer armed, the deadline reached (R120). -/
def holdDue (now : Word) (e : Entry) : Bool :=
  decide (e.state = .held) &&
    match e.holdTimer with
    | some d => reached now d
    | none => false

/-- The holds that are due lapse one after another, in book order (R141). -/
def lapseDue (s : State) : State :=
  ((s.ofe.book.filter (holdDue s.rhs.seconds)).map (fun e => e.rid)).foldl (fun st rid => lapse rid st) s

/-- HOLD_TIMER_EXPIRY (R141, R142): every hold timer that is due expires; none that is stopped or not due does. -/
def execHoldTimerExpiry (s : State) : Host.Outcome State Fault Refusal :=
  .next (if s.core && s.ofe.book.any (holdDue s.rhs.seconds) then settle (lapseDue s) else s)

/-! ### The tick (R118, R170) -/

/-- A terminal entry has lingered 60 s (R118). -/
def lingered (now : Word) (e : Entry) : Bool :=
  !e.state.live &&
    match e.linger with
    | some t => decide (60 ≤ since now t)
    | none => false

/-- OFE removes the terminal entries that have lingered (R118). -/
def removeLingered (s : State) : State :=
  { s with ofe.book := s.ofe.book.filter (fun e => !lingered s.rhs.seconds e) }

/-- SECONDS_TICK (R63, R118, R170): the counter counts whether or not the core runs; the once-a-second work is done
while it runs. -/
def execSecondsTick (s : State) : Host.Outcome State Fault Refusal :=
  .next (let s1 := { s with rhs.seconds := s.rhs.seconds + 1 }
    if s.core then settle (removeLingered (if s.sul.state.operating then agePeers s1 else s1)) else s1)

end Sys2Proof.Machine
end

