-- ==== Sys2Proof/Machine/Swap.lean ====
section
/-! DEFINITION. The Swap Sequencer (file 09) and the resumption of a swap at a warm start (R174, R175). -/

namespace Sys2Proof.Machine

open Sys2Proof

/-! ### The sequencer's writes -/

/-- SEQ writes a latch (R143). -/
def setLatch (n : Nat) (unlocked : Bool) (s : State) : State := modSlot n (fun sl => { sl with unlocked := unlocked }) s

/-- SEQ sets or clears the focus slot (R8). -/
def setFocus (f : Option Nat) (s : State) : State := { s with svy.focus := f }

/-- A step timer starts; at most one runs at a time (9.1). -/
def startTimer (t : StepTimer) (ms : Nat) (s : State) : State := { s with seq.timer := some (t, ms) }

/-- SEQ rewrites the active swap record. -/
def modSwap (f : Swap → Swap) (s : State) : State := { s with seq.active := s.seq.active.map f }

/-- The step the progress record holds for a swap; STARTING_WAIT writes none (R144, 10.4). -/
def progressStep (w : Swap) : Option ProgressStep :=
  match w.step with
  | .startingWait => none
  | .returnOpen => some .returnOpen
  | .returnCheck => some .returnCheck
  | .rejectOut => some .rejectOut
  | .releaseWait => some .releaseWait
  | .releaseOpen => some .releaseOpen
  | .giveBack => if w.abort = some .releaseWaitExceeded then some .giveBackWaitExceeded else some .giveBackNoPack

/-- The progress record of a swap (R144). -/
def progressOf (w : Swap) : Option Progress :=
  match progressStep w, w.dock with
  | some st, some d => some ⟨w.rid, st, d, w.release, w.returned⟩
  | _, _ => none

/-- SEQ writes the progress record (R144). -/
def writeProgress (s : State) : State :=
  match s.seq.active.bind progressOf with
  | some p => { s with rhs.progress := some p }
  | none => s

/-! ### Starting a swap and the serve queue (R145 to R147) -/

/-- The dock RETURN_OPEN chooses: the lowest-numbered EMPTY, FREE slot (R147). -/
def dockSlot (s : State) : Option Nat :=
  s.findSlot (fun sl => decide (sl.cond = .empty) && decide (sl.role = .free))

/-- RETURN_OPEN on slot `d`: unlocked, focused, the return timer started, the record written (R147). -/
def openReturnAt (d : Nat) (s : State) : State :=
  writeProgress (modSwap (fun w => { w with step := .returnOpen, dock := some d, resume := none })
    (startTimer .ret (s.sul.cfg.returnTimer * 1000) (setFocus (some d) (setLatch d true s))))

/-- A request is handed back before its return is opened (R147). -/
def handBack (rid : ReqId) (s : State) : State :=
  decline rid .noDock (holdAgain rid { s with seq.active := none, seq.timer := none, rhs.progress := none })

/-- RETURN_OPEN for the swap of a request (R147). -/
def openReturn (rid : ReqId) (s : State) : State :=
  match dockSlot s with
  | some d => openReturnAt d (setRole d .dock (some rid) s)
  | none => handBack rid s

/-- The serve positions of the queued requests (R145). -/
def renumberQueue (s : State) : State :=
  { s with ofe.book := s.ofe.book.map (fun e =>
      if s.seq.queue[0]? = some e.rid then { e with servePos := some .queued1 }
      else if s.seq.queue[1]? = some e.rid then { e with servePos := some .queued2 }
      else e) }

/-- A request becomes the active swap: STARTING_WAIT until the first pass has ended, else RETURN_OPEN (R143, R146). -/
def startSwap (rid : ReqId) (s : State) : State :=
  let release := ((s.entry? rid).bind (fun e => e.heldSlot)).getD 0
  let s1 := modEntry rid (fun e => { e with servePos := some .active })
    { s with seq.active := some ⟨rid, .startingWait, none, release, none, none, none, none⟩ }
  if s.seq.firstPassSeen then openReturn rid s1 else s1

/-- SEQ starts queued requests while it is idle and the state is ACTIVE, at most `n` of them: one that is handed back
lets the next one start (R145, R147). -/
def runQueue : Nat → State → State
  | 0, s => s
  | n + 1, s =>
    match s.seq.queue with
    | [] => s
    | rid :: rest =>
      if s.seq.active.isNone ∧ s.sul.state = .active then
        runQueue n (startSwap rid (renumberQueue { s with seq.queue := rest }))
      else s

/-- SEQ looks at the serve queue (R145). -/
def lookAtQueue (s : State) : State := runQueue s.seq.queue.length s

/-! ### Endings (R159) -/

/-- What becomes of the entry when a swap ends (R159). -/
inductive EntryAfter where
  | done | aborted | held
deriving DecidableEq, Repr

/-- OFE's part of a swap's end (R159, step 1). -/
def endServing (rid : ReqId) (after : EntryAfter) (s : State) : State :=
  match after with
  | .done => removeRecord rid (modEntry rid (Entry.ended .done s.rhs.seconds) s)
  | .aborted => removeRecord rid (modEntry rid (Entry.ended .aborted s.rhs.seconds) s)
  | .held => holdAgain rid s

/-- SEQ clears the progress record, the focus, the step timer and the active swap record (R159, step 3). -/
def clearSwap (s : State) : State :=
  { s with rhs.progress := none, svy.focus := none, seq.timer := none, seq.active := none }

/-- A swap ends, after the latch and role writes of its ending step (R159). -/
def endSwap (o : Outcome) (abort : Option AbortReason) (after : EntryAfter) (w : Swap) (s : State) : State :=
  lookAtQueue (clearSwap (close w.rid o abort w.released w.returned (endServing w.rid after s)))

/-- The dock is locked and becomes FREE (R148, R151, R154, R160). -/
def closeDock (w : Swap) (s : State) : State :=
  match w.dock with
  | some d => setRole d .free none (setLatch d false s)
  | none => s

/-- The release slot returns from HELD to FREE, if it still has that role for this request (R148, R154). -/
def freeRelease (w : Swap) (s : State) : State := freeRole w.release .held w.rid s

/-! ### The release (R152 to R156) -/

/-- RELEASE_OPEN on slot `n`: RELEASING, unlocked, focused, the pack id recorded, the collect timer started (R156). -/
def openRelease (n : Nat) (w : Swap) (s : State) : State :=
  let id := match s.slot? n with
    | some sl => if sl.cond = .occupied then sl.pack.map (fun p => p.id) else none
    | none => none
  writeProgress (modSwap (fun x => { x with step := .releaseOpen, release := n, released := id, resume := none })
    (startTimer .collect (s.sul.cfg.collectTimer * 1000) (setFocus (some n) (setLatch n true
      (setRole n .releasing (some w.rid) s)))))

/-- GIVE_BACK ends: the release slot is freed and the swap is ABORTED with its reason (R154). -/
def endGiveBack (r : AbortReason) (w : Swap) (s : State) : State :=
  endSwap .aborted (some r) .aborted w (freeRelease w s)

/-- GIVE_BACK opens the accepted return's slot `d` (R154). -/
def openGiveBack (d : Nat) (r : AbortReason) (w : Swap) (s : State) : State :=
  writeProgress (modSwap (fun x => { x with step := .giveBack, abort := some r, resume := none })
    (startTimer .removal 60000 (setFocus (some d) (setLatch d true (setRole d .dock (some w.rid) s)))))

/-- GIVE_BACK is entered with its reason (R154). Leaving RELEASE_WAIT sets replan-pending (R76). -/
def giveBack (r : AbortReason) (w : Swap) (s : State) : State :=
  match w.dock with
  | some d =>
    match s.slot? d with
    | some sl =>
      if sl.role = .free ∧ sl.cond ≠ .empty then openGiveBack d r w s else endGiveBack r w (setReplan s)
    | none => endGiveBack r w (setReplan s)
  | none => endGiveBack r w (setReplan s)

/-- The better of two substitutes: the lower score, of equal scores the earlier, which has the lower number (R153). -/
def betterSubstitute (best : Option (Nat × Nat)) (c : Nat × Nat) : Option (Nat × Nat) :=
  match best with
  | none => some c
  | some b => if c.2 < b.2 then some c else some b

/-- The substitute's slot (R153): of the releasable FREE slots other than the one of the accepted return, the one with
the lowest score. -/
def substituteFor (cfg : Cfg) (k : PackClass) (dock : Option Nat) (slots : List Slot) : Option Nat :=
  ((((slots.zipIdx).filter (fun x =>
      releasable cfg k x.1 && decide (x.1.role = .free) && decide (dock ≠ some x.2))).map
        (fun x => (x.2, substituteScore x.1))).foldl betterSubstitute none).map (fun b => b.1)

/-- A substitution (R153). -/
def substitute (w : Swap) (e : Entry) (s : State) : State :=
  match substituteFor s.sul.cfg e.packClass w.dock s.slots with
  | some n =>
    let s1 := freeRelease w (setRole n .releasing (some w.rid) s)
    let s2 := syncRecord w.rid (modEntry w.rid (fun x => { x with heldSlot := some n }) s1)
    openRelease n w s2
  | none => giveBack .noPack w s

/-- RELEASE_WAIT (R155): the wait timer starts at the maximum wait of the rider class. -/
def openWait (e : Entry) (s : State) : State :=
  setReplan (writeProgress (modSwap (fun x => { x with step := .releaseWait, resume := none })
    (startTimer .wait (s.sul.cfg.maxWait e.rider * 60000) s)))

/-- RELEASE_READY: the release slot is judged from the live Slot Table (R152). -/
def releaseReady (w : Swap) (s : State) : State :=
  match s.entry? w.rid, s.slot? w.release with
  | some e, some sl =>
    if releasable s.sul.cfg e.packClass sl then openRelease w.release w s
    else if sound s.sul.cfg e.packClass sl then
      if 0 < s.sul.cfg.maxWait e.rider then openWait e s else giveBack .releaseWaitExceeded w s
    else substitute w e s
  | some e, none => substitute w e s
  | none, _ => s

/-- The release slot is judged again in RELEASE_WAIT (R155). -/
def judgeWaiting (w : Swap) (s : State) : State :=
  match s.entry? w.rid, s.slot? w.release with
  | some e, some sl =>
    if releasable s.sul.cfg e.packClass sl then openRelease w.release w s
    else if sound s.sul.cfg e.packClass sl then s
    else substitute w e s
  | _, _ => s

/-- The active swap stands in RELEASE_WAIT on slot `n`: it is judged again (R155). -/
def rejudge (n : Nat) (s : State) : State :=
  match s.seq.active with
  | some w => if w.step = .releaseWait ∧ w.release = n then judgeWaiting w s else s
  | none => s

/-! ### The return (R148 to R151) -/

/-- RETURN_CHECK: the check timer starts (R148). The focus stays on the dock. -/
def openCheck (s : State) : State :=
  writeProgress (modSwap (fun x => { x with step := .returnCheck, resume := none }) (startTimer .check 10000 s))

/-- REJECT_OUT: the dock stays or becomes unlocked and focused, the removal timer starts (R150, R174). -/
def openReject (d : Nat) (s : State) : State :=
  writeProgress (modSwap (fun x => { x with step := .rejectOut, resume := none })
    (startTimer .removal 60000 (setFocus (some d) (setLatch d true s))))

/-- The rejected pack has been taken back: the swap ends and the request is HELD again (R151). -/
def endReject (w : Swap) (s : State) : State :=
  endSwap .aborted (some .returnRejected) .held w (closeDock w { s with seq.timer := none })

/-- The return is accepted (R149). -/
def acceptReturn (p : Pack) (w : Swap) (s : State) : State :=
  let w' := { w with returned := some p.id }
  let s1 := setFocus none (closeDock w { s with seq.timer := none, seq.active := some w' })
  releaseReady w' (modEntry w.rid (fun e => { e with returnedId := some p.id }) s1)

/-- A returned pack is judged (R149). -/
def acceptable (cfg : Cfg) (e : Entry) (p : Pack) : Bool :=
  decide (p.cls = e.returnClass) && p.ok && decide (p.temp < (cfg.hotLimit : Int))

/-- An insertion at the dock `d`, with what the record carries (R149, R150). -/
def judgeReturn (cond : Cond) (pack : Option Pack) (d : Nat) (w : Swap) (s : State) : State :=
  match s.entry? w.rid, pack with
  | some e, some p =>
    if cond = .occupied ∧ acceptable s.sul.cfg e p = true then acceptReturn p w s else openReject d s
  | _, _ => openReject d s

/-! ### Reports, trips and the first pass (R17, R143, R155, R156, R174) -/

/-- SEQ takes a report of SVY on slot `n` by the step of the active swap (9.6, "Steps against events"). -/
def takeReport (n : Nat) (r : Report) (s : State) : State :=
  match s.seq.active with
  | none => s
  | some w =>
    match w.step with
    | .startingWait => s
    | .returnOpen => if w.dock = some n ∧ r.kind = .settling then openCheck s else s
    | .returnCheck => if w.dock = some n ∧ r.kind = .insertion then judgeReturn r.cond r.pack n w s else s
    | .rejectOut => if w.dock = some n ∧ r.kind = .removal then endReject w s else s
    | .releaseWait => if w.release = n then judgeWaiting w s else s
    | .releaseOpen =>
      if w.release = n ∧ r.kind = .removal then
        endSwap .done none .done w (setRole n .free none (setLatch n false { s with seq.timer := none }))
      else s
    | .giveBack =>
      if w.dock = some n ∧ r.kind = .removal then
        endGiveBack (w.abort.getD .noPack) w (closeDock w { s with seq.timer := none })
      else s

/-- A swap resumed in RETURN_OPEN or RETURN_CHECK, by the condition of its dock (R174). -/
def resumeReturn (d : Nat) (w : Swap) (s : State) : State :=
  match s.slot? d with
  | none => s
  | some sl =>
    match sl.cond with
    | .empty => openReturnAt d s
    | .settling => openCheck (setFocus (some d) (setLatch d true s))
    | .occupied => judgeReturn .occupied sl.pack d w s
    | .unreadable | .fault => openReject d s

/-- The condition of a slot is EMPTY. -/
def emptyAt (n : Nat) (s : State) : Bool :=
  match s.slot? n with
  | some sl => decide (sl.cond = .empty)
  | none => false

/-- A swap is resumed at the first-pass report by its resume step (R174). -/
def resumeSwap (p : ProgressStep) (w : Swap) (s : State) : State :=
  let d := w.dock.getD 0
  match p with
  | .returnOpen | .returnCheck => resumeReturn d w s
  | .rejectOut => if emptyAt d s then endReject w s else openReject d s
  | .releaseWait => releaseReady w s
  | .releaseOpen =>
    if emptyAt w.release s then
      endSwap .done none .done w (setRole w.release .free none (setLatch w.release false s))
    else openRelease w.release w s
  | .giveBackNoPack =>
    if emptyAt d s then endGiveBack .noPack w (closeDock w s) else openGiveBack d .noPack w s
  | .giveBackWaitExceeded =>
    if emptyAt d s then endGiveBack .releaseWaitExceeded w (closeDock w s)
    else openGiveBack d .releaseWaitExceeded w s

/-- SEQ takes the report of the first pass's end: a swap in STARTING_WAIT begins its first step or is resumed
(R143, R174). -/
def takeFirstPass (s : State) : State :=
  let s1 := { s with seq.firstPassSeen := true }
  match s.seq.active with
  | none => s1
  | some w =>
    if w.step = .startingWait then
      match w.resume with
      | none => lookAtQueue (openReturn w.rid s1)
      | some p => resumeSwap p w s1
    else s1

/-! ### BEGIN and CANCEL (R146, R160, R175) -/

/-- OFE makes the entry SERVING: the hold timer stops, slot and deadline are kept (R111, R146). -/
def Entry.serving (pos : ServePos) (e : Entry) : Entry :=
  { e with state := .serving, servePos := some pos, holdTimer := none }

/-- OFE settles a BEGIN by the first case that applies (R146). -/
def takeBegin (rid : ReqId) (s : State) : State :=
  match s.entry? rid with
  | none => decline rid .unknown s
  | some e =>
    if e.state ≠ .held then decline rid .unknown s
    else if s.sul.state = .withdrawn then decline rid .service s
    else if s.sul.state = .holdup then decline rid .supply s
    else if s.seq.active.isNone then lookAtQueue (startSwap rid (modEntry rid (Entry.serving .active) s))
    else if s.seq.queue.length < 2 then
      renumberQueue (modEntry rid (Entry.serving .queued1) { s with seq.queue := s.seq.queue ++ [rid] })
    else decline rid .busy s

/-- A SERVING request that has not begun at the slots is cancelled: its held slot is freed, its record removed, no CLOSE
(R160). -/
def cancelServing (rid : ReqId) (s : State) : State :=
  match s.entry? rid with
  | none => s
  | some e =>
    let s1 := match e.heldSlot with
      | some n => freeRole n .held rid s
      | none => s
    setReplan (removeRecord rid (modEntry rid (Entry.ended .cancelled s1.rhs.seconds) s1))

/-- A swap ends by a CANCEL before a pack is in the dock (R160, R175). -/
def endCancelled (w : Swap) (s : State) : State :=
  endSwap .aborted (some .cancelled) .aborted w (freeRelease w (closeDock w { s with seq.timer := none }))

/-- SEQ takes a CANCEL for a SERVING request by the request's place (R160, R175). -/
def cancelSwap (rid : ReqId) (s : State) : State :=
  match s.seq.active with
  | some w =>
    if w.rid = rid then
      match w.step with
      | .startingWait =>
        match w.resume with
        | none => lookAtQueue (cancelServing rid { s with seq.active := none })
        | some .returnOpen => endCancelled w s
        | some _ => s
      | .returnOpen => endCancelled w s
      | _ => s
    else if rid ∈ s.seq.queue then
      renumberQueue (cancelServing rid { s with seq.queue := s.seq.queue.filter (fun r => decide (r ≠ rid)) })
    else s
  | none =>
    if rid ∈ s.seq.queue then
      renumberQueue (cancelServing rid { s with seq.queue := s.seq.queue.filter (fun r => decide (r ≠ rid)) })
    else s

/-! ### Step timers -/

/-- The step timer `t` runs (9.1). -/
def timerRuns (t : StepTimer) (s : State) : Bool :=
  match s.seq.timer with
  | some (u, _) => decide (u = t)
  | none => false

/-- The active swap, when it stands in step `st`. -/
def State.swapIn (s : State) (st : SwapStep) : Option Swap := s.seq.active.filter (fun w => decide (w.step = st))

/-- RETURN_TIMER_EXPIRY (R148): the dock is locked and freed, the release slot freed, the swap ends. -/
def execReturnTimerExpiry (s : State) : Host.Outcome State Fault Refusal :=
  .next (if s.core && timerRuns .ret s then
    (match s.swapIn .returnOpen with
     | some w => settle (endSwap .aborted (some .returnTimeout) .aborted w
         (freeRelease w (closeDock w { s with seq.timer := none })))
     | none => s)
  else s)

/-- CHECK_TIMER_EXPIRY (R150): the return is rejected; with the dock EMPTY the removal is taken as made. -/
def execCheckTimerExpiry (s : State) : Host.Outcome State Fault Refusal :=
  .next (if s.core && timerRuns .check s then
    (match s.swapIn .returnCheck with
     | some w => settle (
         let d := w.dock.getD 0
         let s1 := openReject d { s with seq.timer := none }
         if emptyAt d s then endReject w s1 else s1)
     | none => s)
  else s)

/-- SVY puts a slot in FAULT(REJECT_ABANDONED) at SEQ's request: the pack record is dropped, the absent count kept
(R16, R93). -/
def abandonSlot (n : Nat) (s : State) : State :=
  setReplan (modSlot n (fun sl => Slot.afterSurvey s.sul.cfg
    { sl with cond := .fault, reason := some .rejectAbandoned, pack := none }) s)

/-- REMOVAL_TIMER_EXPIRY (R151, R154): in REJECT_OUT the dock is locked, faulted and freed and the request aborted; in
GIVE_BACK the slot is locked and freed and the swap ends. -/
def execRemovalTimerExpiry (s : State) : Host.Outcome State Fault Refusal :=
  .next (if s.core && timerRuns .removal s then
    (match s.swapIn .rejectOut with
     | some w =>
       let d := w.dock.getD 0
       let s1 := setRole d .free none (abandonSlot d (setLatch d false { s with seq.timer := none }))
       settle (endSwap .aborted (some .returnRejected) .aborted w (freeRelease w s1))
     | none =>
       match s.swapIn .giveBack with
       | some w => settle (endGiveBack (w.abort.getD .noPack) w (closeDock w { s with seq.timer := none }))
       | none => s)
  else s)

/-- WAIT_TIMER_EXPIRY (R155): GIVE_BACK with reason RELEASE_WAIT_EXCEEDED. -/
def execWaitTimerExpiry (s : State) : Host.Outcome State Fault Refusal :=
  .next (if s.core && timerRuns .wait s then
    (match s.swapIn .releaseWait with
     | some w => settle (giveBack .releaseWaitExceeded w { s with seq.timer := none })
     | none => s)
  else s)

/-- COLLECT_TIMER_EXPIRY (R157): the release slot is locked and freed, the swap ends UNCOLLECTED. -/
def execCollectTimerExpiry (s : State) : Host.Outcome State Fault Refusal :=
  .next (if s.core && timerRuns .collect s then
    (match s.swapIn .releaseOpen with
     | some w => settle (endSwap .uncollected none .done w
         (setRole w.release .free none (setLatch w.release false { s with seq.timer := none })))
     | none => s)
  else s)

end Sys2Proof.Machine
end

