-- ==== Sys2Proof/Machine/Offers.lean ====
section
/-! DEFINITION. The Offer Engine: requests, evaluations, contests, pledges, assignment, UPDATE and CANCEL (files 07
and 08). -/

namespace Sys2Proof.Machine

open Sys2Proof

/-! ### Taking a REQUEST (R113, R114) -/

/-- The entry a REQUEST makes: HEARD, every optional field absent (R111, R113). -/
def newEntry (rid : ReqId) (kindAndRider : Byte) (pc rc : PackClass) (eta attempt : Byte) : Entry :=
  { rid := rid, kind := requestKind kindAndRider, rider := riderClass kindAndRider, packClass := pc, returnClass := rc,
    eta := etaOf eta, attempt := attempt, state := .heard, offer := none, tries := 0, winner := none, heldSlot := none,
    deadline := none, servePos := none, returnedId := none, satOut := none, linger := none, pledgeTimer := none,
    holdTimer := none }

/-- A REQUEST with a higher attempt renews an entry in this state (R113). -/
def EntryState.renewable : EntryState → Bool
  | .satOut | .beaten | .elsewhere | .unassigned | .lapsed | .cancelled | .aborted => true
  | _ => false

/-- A REQUEST whose id is not in the book: entered at the tail, the oldest terminal entry evicted from a full book;
not entered when all 16 are live (R113, R118). -/
def enterRequest (e : Entry) (s : State) : State :=
  if s.ofe.book.length < 16 then { s with ofe.book := s.ofe.book ++ [e] }
  else if s.ofe.book.any (fun x => !x.state.live) then
    { s with ofe.book := removeFirst (fun x => !x.state.live) s.ofe.book ++ [e] }
  else closeStretch e.rid (bump .bookFull s)

/-- A renewal: the entry takes the REQUEST's fields and moves to the tail (R113). -/
def renewRequest (e : Entry) (s : State) : State :=
  { s with ofe.book := s.ofe.book.filter (fun x => decide (x.rid ≠ e.rid)) ++ [e] }

/-- OFE takes a REQUEST that has passed its content checks (R113, R114). -/
def enterOrRenew (e : Entry) (s : State) : State :=
  match s.entry? e.rid with
  | none => enterRequest e s
  | some old =>
    if old.state.renewable ∧ old.attempt < e.attempt then renewRequest e s
    else closeStretch e.rid (bump .duplicate s)

/-- OFE takes a REQUEST from station `source`: the content checks of R50, then R113. -/
def takeRequest (source : BitVec 4) (rid : ReqId) (kindAndRider packClass returnClass eta attempt : Byte) (s : State) :
    State :=
  match packClass? packClass, packClass? returnClass with
  | some pc, some rc =>
    if rid.term = source then enterOrRenew (newEntry rid kindAndRider pc rc eta attempt) s
    else barRequest rid (bump .malformed s)
  | _, _ => barRequest rid (bump .malformed s)

/-! ### The contest point and the stretch limit (R126) -/

/-- LIF reports a passed contest point or a reached stretch limit: an entry still HEARD or EVALUATING becomes SAT_OUT,
LATE (R126). -/
def late (rid : ReqId) (s : State) : State :=
  match s.entry? rid with
  | some e =>
    if e.state.open? then closeStretch rid (modEntry rid (Entry.satOutFor .late s.rhs.seconds) s) else s
  | none => s

/-! ### The end of an evaluation (R117, R128) -/

/-- The OFFER of a candidate (R55, R108). -/
def offerFrame (rid : ReqId) (c : Candidate) : TxFrame :=
  ⟨byteOf c.score, .offer, toAll,
    ridBytes rid ++ [byteOf c.slot, byteOf c.score] ++ bytes16 (halfOf c.minutes) ++ bytes16 (halfOf c.pack.soc) ++
      bytes32 c.pack.id⟩

/-- An entry becomes CONTENDING (R111, R128). -/
def Entry.contending (e : Entry) : Entry := { e with state := .contending, tries := 0 }

/-- A candidate was found: the own offer is written, and the entry becomes BEATEN, SAT_OUT or CONTENDING (R128). -/
def settleCandidate (e : Entry) (c : Candidate) (s : State) : State :=
  let s1 := modEntry e.rid (fun x => { x with offer := some ⟨c.slot, c.score, c.pack.id⟩ }) s
  if e.winner.isSome then modEntry e.rid (Entry.ended .beaten s.rhs.seconds) s1
  else if s.lif.register.isSome then modEntry e.rid (Entry.satOutFor .lost s.rhs.seconds) s1
  else modEntry e.rid Entry.contending { s1 with lif.register := some ⟨e.rid, offerFrame e.rid c⟩ }

/-- The result of an evaluation is applied to its entry (R117): discarded when the entry is no longer EVALUATING. -/
def endEvaluation (v : EvalView) (s : State) : State :=
  match s.entry? v.rid with
  | none => s
  | some e =>
    if e.state ≠ .evaluating then s
    else match evaluate s.sul.cfg v with
      | none => closeStretch v.rid (modEntry v.rid (Entry.satOutFor .noCandidate s.rhs.seconds) s)
      | some c => closeStretch v.rid (settleCandidate e c s)

/-- EVALUATION_END (R117): the evaluator becomes idle, and the next HEARD entry is taken. -/
def execEvaluationEnd (s : State) : Host.Outcome State Fault Refusal :=
  match s.ofe.evaluation with
  | some ev => .next (if s.core then settle (endEvaluation ev.view { s with ofe.evaluation := none }) else s)
  | none => .next s

/-! ### What becomes of an offer on the line (R129 to R132) -/

/-- The entry of a contest report: the CONTENDING entry of the OFFER's request (8.3). -/
def State.contender (s : State) (rid : ReqId) : Option Entry := (s.entry? rid).filter (fun e => decide (e.state = .contending))

/-- An entry becomes OFFERED with its pledge timer (R119, R129). -/
def Entry.pledged (e : Entry) : Entry := { e with state := .offered, tries := 0, pledgeTimer := some 3000 }

/-- WON: the slot is pledged when its role is FREE, else the entry is UNASSIGNED at once (R129). -/
def offerWon (rid : ReqId) (s : State) : State :=
  match s.contender rid with
  | none => s
  | some e =>
    match e.offer.bind (fun o => (s.slot? o.slot).map (fun sl => (o.slot, sl))) with
    | some (n, sl) =>
      if sl.role = .free then setRole n .pledged (some rid) (modEntry rid Entry.pledged s)
      else modEntry rid (Entry.ended .unassigned s.rhs.seconds) s
    | none => modEntry rid (Entry.ended .unassigned s.rhs.seconds) s

/-- LOST to an OFFER for the same request: BEATEN with the winner, the register cleared (R130). -/
def offerBeaten (rid : ReqId) (w : Winner) (s : State) : State :=
  match s.contender rid with
  | none => s
  | some _ =>
    clearRegister (modEntry rid (fun e => { Entry.ended .beaten s.rhs.seconds e with winner := some w }) s)

/-- Any other failure of a start is a try; at the third the entry sits out and the register is cleared (R131). -/
def offerTried (rid : ReqId) (s : State) : State :=
  match s.contender rid with
  | none => s
  | some e =>
    if 3 ≤ e.tries + 1 then clearRegister (modEntry rid (Entry.satOutFor .lost s.rhs.seconds) s)
    else modEntry rid (fun x => { x with tries := x.tries + 1 }) s

/-- CLASH: the entry sits out (R132). -/
def offerClashed (rid : ReqId) (s : State) : State :=
  match s.contender rid with
  | none => s
  | some _ => modEntry rid (Entry.satOutFor .lost s.rhs.seconds) s

/-! ### Foreign offers (R134) -/

/-- The winner is written unless one is recorded (R134). -/
def Entry.noteWinner (w : Winner) (e : Entry) : Entry := { e with winner := if e.winner.isSome then e.winner else some w }

/-- OFE takes a foreign OFFER (R50, R134). -/
def takeOffer (source : BitVec 4) (contest : Byte) (rid : ReqId) (score : Byte) (s : State) : State :=
  if score = 255 ∨ score ≠ contest then bump .malformed s
  else
    let w : Winner := ⟨source, some score.toNat⟩
    match s.entry? rid with
    | none => s
    | some e =>
      match e.state with
      | .offered | .held | .serving => s
      | .contending =>
        clearRegister (modEntry rid (fun x => { Entry.ended .beaten s.rhs.seconds x with winner := some w }) s)
      | _ => modEntry rid (Entry.noteWinner w) s

/-! ### The pledge and its end (R135 to R137) -/

/-- The pledged slot of an entry returns to FREE when it still has role PLEDGED with the request id (R135, R137,
R140). -/
def freePledge (e : Entry) (s : State) : State :=
  match e.offer with
  | some o => freeRole o.slot .pledged e.rid s
  | none => s

/-- PLEDGE_TIMER_EXPIRY (R135): the entry is UNASSIGNED and its slot FREE; a stopped timer does not expire (R119). -/
def execPledgeTimerExpiry (rid : ReqId) (s : State) : Host.Outcome State Fault Refusal :=
  .next (match s.entry? rid with
    | some e =>
      if s.core = true ∧ e.state = .offered ∧ e.pledgeTimer.isSome = true then
        settle (freePledge e (modEntry rid (Entry.ended .unassigned s.rhs.seconds) s))
      else s
    | none => s)

/-- The power conditions of the re-check: met outside ACTIVE and WITHDRAWN, else R_prosp at most 1022 and the wait
within the rider class's maximum (R109). -/
def recheckPower (e : Entry) (n : Nat) (p : Pack) (s : State) : Bool :=
  if s.sul.state = .active ∨ s.sul.state = .withdrawn then
    let minutes := prospectiveReady s.sul.cfg s.alw.grant s.views n p
    decide (minutes ≤ 1022) && decide (waitTerm minutes e.eta ≤ s.sul.cfg.maxWait e.rider)
  else true

/-- The pledged slot against the live Slot Table (R109). -/
def recheck (e : Entry) (o : OwnOffer) (s : State) : Bool :=
  match s.slot? o.slot with
  | none => false
  | some sl =>
    match sl.pack with
    | none => false
    | some p =>
      decide (sl.cond = .occupied) && p.ok && !sl.cut && decide (sl.role = .pledged) && decide (sl.rid = some e.rid) &&
        decide (p.id = o.packId) && decide (p.cls = e.packClass) &&
        decide ((s.sul.cfg.figures p.cls).minSoh ≤ p.soh) && recheckPower e o.slot p s

/-- The hold deadline of an ETA from the present second (R120). -/
def holdDeadline (eta : Nat) (s : State) : Word := inMinutes s.rhs.seconds (eta + s.sul.cfg.holdGrace)

/-- An entry becomes HELD from OFFERED (R111, R120, R136). -/
def Entry.held (n : Nat) (d : Word) (e : Entry) : Entry :=
  { e with state := .held, pledgeTimer := none, heldSlot := some n, deadline := some d, holdTimer := some d }

/-- OFE makes the hold (R136). -/
def makeHold (rid : ReqId) (e : Entry) (n : Nat) (s : State) : State :=
  syncRecord rid (modEntry rid (Entry.held n (holdDeadline e.eta s)) (setRole n .held (some rid) s))

/-- The decline reason of an ASSIGN for an entry that is not OFFERED (R138). -/
def assignRefusal : EntryState → DeclineReason
  | .unassigned => .late
  | _ => .notEligible

/-- OFE takes an ASSIGN that names this station (R136 to R138). -/
def takeAssignHere (rid : ReqId) (s : State) : State :=
  match s.entry? rid with
  | none => decline rid .unknown s
  | some e =>
    if e.state ≠ .offered then decline rid (assignRefusal e.state) s
    else match e.offer with
      | none => decline rid .notEligible (modEntry rid (Entry.ended .unassigned s.rhs.seconds) s)
      | some o =>
        if recheck e o s then makeHold rid e o.slot s
        else decline rid .notEligible (freePledge e (modEntry rid (Entry.ended .unassigned s.rhs.seconds) s))

/-! ### An ASSIGN naming another station (R140) -/

/-- The chosen station becomes the winner; the score is kept when the earlier winner was the same station (R140). -/
def Entry.chosen (st : BitVec 4) (e : Entry) : Entry :=
  { e with winner := some ⟨st, match e.winner with
      | some w => if w.station = st then w.score else none
      | none => none⟩ }

/-- An entry leaves SAT_OUT or BEATEN for ELSEWHERE, keeping its linger start (R111, R140). -/
def Entry.terminalElsewhere (st : BitVec 4) (e : Entry) : Entry :=
  { Entry.chosen st e with state := .elsewhere, satOut := none }

/-- A live entry becomes ELSEWHERE (R140). -/
def Entry.liveElsewhere (st : BitVec 4) (now : Word) (e : Entry) : Entry :=
  Entry.ended .elsewhere now (Entry.chosen st e)

/-- OFE takes an ASSIGN that names another station (R140). -/
def takeAssignElsewhere (rid : ReqId) (st : BitVec 4) (s : State) : State :=
  match s.entry? rid with
  | none => s
  | some e =>
    match e.state with
    | .heard | .evaluating => closeStretch rid (modEntry rid (Entry.liveElsewhere st s.rhs.seconds) s)
    | .contending => clearRegister (modEntry rid (Entry.liveElsewhere st s.rhs.seconds) s)
    | .offered => freePledge e (modEntry rid (Entry.liveElsewhere st s.rhs.seconds) s)
    | .satOut | .beaten => modEntry rid (Entry.terminalElsewhere st) s
    | .held | .serving => bump .assignConflict s
    | .unassigned | .elsewhere | .lapsed | .cancelled | .aborted | .done => s

/-- OFE takes an ASSIGN: malformed when the chosen station byte is above 15 (R50), else by the station it names (R52). -/
def takeAssign (rid : ReqId) (chosen : Byte) (s : State) : State :=
  if 15 < chosen.toNat then bump .malformed s
  else if chosen.toNat = s.sul.station.toNat then takeAssignHere rid s
  else takeAssignElsewhere rid (chosen.extractLsb' 0 4) s

/-! ### UPDATE and CANCEL (R121, R122) -/

/-- OFE takes an UPDATE (R53, R121). -/
def takeUpdate (rid : ReqId) (eta : Byte) (s : State) : State :=
  match s.entry? rid with
  | none => s
  | some e =>
    match e.state with
    | .heard | .evaluating | .contending | .offered => modEntry rid (fun x => { x with eta := etaOf eta }) s
    | .held =>
      let d := holdDeadline (etaOf eta) s
      setReplan (syncRecord rid (modEntry rid (fun x =>
        { x with eta := etaOf eta, deadline := some d, holdTimer := some d }) s))
    | _ => s

/-- OFE takes a CANCEL (R53, R122). -/
def takeCancel (rid : ReqId) (s : State) : State :=
  match s.entry? rid with
  | none => s
  | some e =>
    match e.state with
    | .heard | .evaluating => closeStretch rid (modEntry rid (Entry.ended .cancelled s.rhs.seconds) s)
    | .contending => clearRegister (modEntry rid (Entry.ended .cancelled s.rhs.seconds) s)
    | .offered => setReplan (freePledge e (modEntry rid (Entry.ended .cancelled s.rhs.seconds) s))
    | .held =>
      let s1 := match e.heldSlot with
        | some n => freeRole n .held rid s
        | none => s
      setReplan (removeRecord rid (modEntry rid (Entry.ended .cancelled s.rhs.seconds) s1))
    | .serving => cancelSwap rid s
    | _ => s

/-- OFE takes a BEGIN: malformed unless its target is this station's own number (R50, R54), else R146. -/
def takeBeginFrame (target : Byte) (rid : ReqId) (s : State) : State :=
  if target.toNat = s.sul.station.toNat then takeBegin rid s else bump .malformed s

end Sys2Proof.Machine
end

