-- ==== Sys2Proof/Machine/Status.lean ====
section
/-! DEFINITION. The Status Responder: the items of a status query, their valid indexes and contents, and the STATUS that
answers a QUERY (R60, R183 to R185, 12.2). -/

namespace Sys2Proof.Machine

open Sys2Proof

/-- An optional one-byte field, 0xFF when absent (12.2). -/
def byteOrFF : Option Nat → Byte
  | some n => byteOf n
  | none => 0xFF#8

/-- A Boolean field: 1 while set, 0 while clear (12.2, R186). -/
def boolByte (b : Bool) : Byte := if b then 1 else 0

/-- The content of SUMMARY 0: 19 bytes (12.2). -/
def summaryMain (s : State) : List Byte :=
  [byteOf s.sul.state.code, supplyFlags s, byteOf (haltCode s.sul.halt), byteOf s.lif.cond.code] ++
    bytes16 (halfOf s.alw.grant) ++ bytes16 (halfOf (s.alw.allowance / 10)) ++ bytes16 (halfOf s.pln.wanted) ++
    bytes16 (halfOf s.pln.urgent) ++
    [byteOf s.ofe.book.length, byteOf (s.ofe.book.countP (fun e => e.state.live)), byteOf s.seq.queue.length,
      byteOf (swapStepCode (s.seq.active.map (fun w => w.step))), boolByte s.lif.clashFlag] ++
    bytes16 (halfOf s.sul.clampCount)

/-- The content of SUMMARY 1: 11 bytes (12.2). -/
def summaryMeter (s : State) : List Byte :=
  bytes16 (halfOf (s.alw.meter.load / 10)) ++ bytes16 (halfOf (s.alw.meter.total / 10)) ++
    [boolByte s.alw.meter.fresh] ++ bytes16 (halfOf (ageOf s.rhs.seconds s.alw.meter.takenAt)) ++
    bytes32 s.rhs.seconds

/-- The content of a clamp record: 6 bytes; a value used that is absent carries 0xFF in each byte, a value read that is
absent 0 (12.2; log 22). -/
def clampContent (c : Clamp) : List Byte :=
  [byteOf c.offset, byteOf c.cause.code] ++ bytes16 (halfOf (c.read.getD 0)) ++
    bytes16 (halfOf (c.used.getD 0xFFFF))

/-- The pack fields of a SLOT reply, 0 without a pack record (R184). -/
def packContent : Option Pack → List Byte
  | some p =>
    bytes32 p.id ++ bytes16 (halfOf p.soc) ++ [byteOf p.soh, BitVec.ofInt 8 p.temp] ++ bytes16 p.cycles
  | none => bytes32 0 ++ bytes16 0 ++ [0, 0] ++ bytes16 0

/-- The content of a SLOT reply: 22 bytes (12.2, R184). -/
def slotContent (now : Word) (sl : Slot) : List Byte :=
  [byteOf sl.cond.code, byteOf (faultReasonCode sl.reason), slotFlags sl, byteOf sl.role.code, byteOf sl.tier.code] ++
    (match sl.rid with
     | some r => if sl.role = .free then bytes16 0 else ridBytes r
     | none => bytes16 0) ++
    [byteOf (sl.setpoint / 50)] ++ bytes16 (halfOf sl.ready) ++ packContent sl.pack ++
    bytes16 (halfOf (if sl.pack.isSome then ageOf now sl.goodAt else 0))

/-- The deadline field of a BOOK reply: the hold deadline of a HELD or SERVING entry, the linger start of a terminal
one, else 0 (R184). -/
def Entry.deadlineField (e : Entry) : Word :=
  if e.state.live then (if e.state = .held ∨ e.state = .serving then e.deadline.getD 0 else 0) else e.linger.getD 0

/-- The content of a BOOK reply: 22 bytes (12.2). -/
def entryContent (e : Entry) : List Byte :=
  ridBytes e.rid ++
    [byteOf e.state.code, kindAndRiderByte e.kind e.rider, byteOf (e.packClass.val * 16 + e.returnClass.val),
      byteOf e.eta, e.attempt, byteOf (satOutCode e.satOut), byteOrFF e.heldSlot] ++
    bytes32 e.deadlineField ++
    [byteOf (servePosCode e.servePos), byteOrFF (e.winner.map (fun w => w.station.toNat)),
      byteOrFF (e.winner.bind (fun w => w.score)), byteOrFF (e.offer.map (fun o => o.slot)),
      byteOrFF (e.offer.map (fun o => o.score))] ++
    bytes32 (e.returnedId.getD 0)

/-- The content of a COUNTERS reply: the eight counters of page `p`, 16 bytes (R185). -/
def pageContent (p : Nat) (s : State) : List Byte :=
  (List.range 8).flatMap (fun i => bytes16 (s.counters.getD (p * 8 + i) 0))

/-- The content of a PEER reply: 12 bytes (12.2). -/
def peerContent (now : Word) (p : Peer) : List Byte :=
  [byteOf p.state.code] ++ bytes16 (halfOf p.wanted) ++ bytes16 (halfOf p.urgent) ++
    bytes16 (halfOf (ageOf now p.lastHeard)) ++ [p.ready0, p.ready1, p.ready2, p.ready3, p.empty]

/-- The content of a SUMMARY reply, for a valid index (R184). -/
def summaryContent (index : Nat) (s : State) : Option (List Byte) :=
  if index = 0 then some (summaryMain s)
  else if index = 1 then some (summaryMeter s)
  else if index ≤ 17 then (s.sul.clamps[index - 2]?).map clampContent
  else none

/-- The content of the reply to an item and index; none where the item is unknown or the index is not valid in the state
held (R60, R184). -/
def replyContent (item index : Byte) (s : State) : Option (List Byte) :=
  match item.toNat with
  | 0 => summaryContent index.toNat s
  | 1 => (s.slot? index.toNat).map (slotContent s.rhs.seconds)
  | 2 => (s.ofe.book[index.toNat]?).map entryContent
  | 3 => if index.toNat < 4 then some (pageContent index.toNat s) else none
  | 4 =>
    if index.toNat = s.sul.station.toNat then none
    else ((s.alw.peers[index.toNat]?).join).map (peerContent s.rhs.seconds)
  | _ => none

/-- The data of the STATUS that answers a QUERY: item, index and content, or "none" with the index (R60). -/
def statusData (item index : Byte) (s : State) : List Byte :=
  match replyContent item index s with
  | some content => [item, index] ++ content
  | none => [0xFF#8, index]

/-- The STATUS that answers a QUERY from a station (R49, R60). -/
def statusFrame (source : BitVec 4) (item index : Byte) (s : State) : TxFrame :=
  ⟨Kind.status.contest, .status, byteOf source.toNat, statusData item index s⟩

/-- STR takes a QUERY: the STATUS is built from the state of the event and handed to the queue (R183). -/
def answerQuery (source : BitVec 4) (item index : Byte) (s : State) : State :=
  enqueue (statusFrame source item index s) s

end Sys2Proof.Machine
end

