-- ==== Sys2Proof/Machine/Line.lean ====
section
/-! DEFINITION. The Line Interface: the receive buffer and its dispatch, the reception of frames, start points,
transmissions and their outcomes, the contest stretch, line holds (file 02). -/

namespace Sys2Proof.Machine

open Sys2Proof

/-! ### The receive buffer (R36, R37, R41) -/

/-- The mark a stored frame makes: a REQUEST marks its contest point (R41). -/
def markOf (f : RxFrame) (old : Option Mark) : Option Mark :=
  match f.msg with
  | .request rid _ _ _ _ _ => some ⟨rid, false, false⟩
  | _ => old

/-- A good frame is stored behind the frames held, or lost to overrun (R36, R41). -/
def storeFrame (f : RxFrame) (s : State) : State :=
  if 2 ≤ s.lif.rxBuf.length then bump .overrun s
  else { s with lif.rxBuf := s.lif.rxBuf ++ [f], lif.mark := markOf f s.lif.mark }

/-- The owner of a frame's kind takes it (R47); in HALTED_CONFIG only a QUERY is taken (R37). -/
def takeFrame (f : RxFrame) (s : State) : State :=
  match f.msg with
  | .query item index => answerQuery f.source item index s
  | m =>
    if s.sul.state = .haltedConfig then s
    else match m with
    | .request rid kindAndRider pc rc eta attempt => takeRequest f.source rid kindAndRider pc rc eta attempt s
    | .offer rid _ score _ _ _ => takeOffer f.source f.contest rid score s
    | .assign rid chosen _ => takeAssign rid chosen s
    | .update rid eta => takeUpdate rid eta s
    | .beginSwap rid => takeBeginFrame f.target rid s
    | .cancel rid => takeCancel rid s
    | .demand wanted urgent _ r0 r1 r2 r3 empty _ =>
      takeDemand f.source (peerOf wanted urgent r0 r1 r2 r3 empty s.rhs.seconds) s
    | .meter load total => takeMeter load total s
    | .query _ _ | .untaken _ _ => s

/-- A frame leaves the buffer when its taking has ended (R37). -/
def dropHead (s : State) : State := { s with lif.rxBuf := s.lif.rxBuf.tail }

/-- The frames held are dispatched one at a time, the oldest first (R37); `n` of them at most. -/
def dispatch : Nat → State → State
  | 0, s => s
  | n + 1, s =>
    match s.lif.rxBuf with
    | [] => s
    | f :: _ => dispatch n (dropHead (takeFrame f s))

/-- A good frame comes to the receive buffer, and what the buffer holds is dispatched (R36, R37). -/
def deliver (f : RxFrame) (s : State) : State :=
  let s1 := storeFrame f s
  dispatch s1.lif.rxBuf.length s1

/-! ### Line condition (R30) -/

/-- A frame's end takes LIF to SPACE with a recessive count of 0 (R30). -/
def toSpace (s : State) : State := { s with lif.cond := .space, lif.recessive := 0, lif.malformed := false }

/-- LIF listens: it runs, sends nothing, and no hold, stretch or malformed frame is in progress (R24 to R29). -/
def listening (s : State) : Bool :=
  lifRuns s && s.lif.tx.isNone && decide (s.lif.cond ≠ .hold) && s.lif.stretch.isNone && !s.lif.malformed

/-- A frame of another station may be ending: LIF listens, and is in IDLE, where the frame began, or in FRAME, having lost to
it or clashed with it (R25, R30, R33). A dominant cell in SPACE begins no frame (R30; log 12). -/
def receiving (s : State) : Bool :=
  listening s && (decide (s.lif.cond = .idle) || decide (s.lif.cond = .frame))

/-! ### Loss reports (R35, R130, R131) -/

/-- What a loss report says of the winning frame to the entry of request `rid`: the winner, when the frame is a good
OFFER for that request (R35, R130; log 13). -/
def winnerIn (rid : ReqId) (f : LineFrame) : Option Winner :=
  if f.crcGood = true ∧ f.kindCode = Kind.offer.code ∧ f.data.length = 12 ∧
      ridOfBytes (f.data.getD 0 0) (f.data.getD 1 0) = rid then
    some ⟨f.source, some (f.data.getD 3 0).toNat⟩
  else none

/-- The same of a good frame as the receive buffer holds it (R35, R130). -/
def RxFrame.winner (f : RxFrame) (rid : ReqId) : Option Winner :=
  match f.msg with
  | .offer r _ score _ _ _ => if r = rid then some ⟨f.source, some score.toNat⟩ else none
  | _ => none

/-- What a loss report says of a frame that is unidentified, or ended by a hold (R35). -/
def unidentified (_ : ReqId) : Option Winner := none

/-- The loss report that waits for the winning frame's end is made (R35): beaten by an offer for the same request
(R130), else a try (R131). `winner` gives what the winning frame says of a request. -/
def reportLoss (winner : ReqId → Option Winner) (s : State) : State :=
  if s.lif.lossPending then
    let s1 := { s with lif.lossPending := false }
    match s.lif.register with
    | none => s1
    | some r =>
      match winner r.rid with
      | some w => offerBeaten r.rid w s1
      | none => offerTried r.rid s1
  else s

/-! ### Reception (R23 to R28) -/

/-- A target character that names this station: its number, its group, all; no group in HALTED_CONFIG (R28). -/
def targeted (s : State) (target : Byte) : Bool :=
  decide (target.toNat = s.sul.station.toNat) ||
    (decide (s.sul.state ≠ .haltedConfig) && decide (target.toNat = 0x20 + s.sul.cfg.group)) ||
    decide (target = toAll)

/-- The five steps of R28. -/
def handleFrame (f : LineFrame) (s : State) : State :=
  if f.crcGood = false then bump .crc s
  else if targeted s f.target = false then s
  else match Kind.ofCode f.kindCode with
    | none => bump .unknownKind s
    | some k =>
      if k.sizeFits f.data.length then deliver ⟨f.source, f.contest, f.target, message k f.data⟩ s
      else bump .malformed s

/-- The end of one good frame and its whole handling: SPACE, the loss report that waits, then for a frame that names this
station storage, dispatch and taking, and what begins at the end of the event (R28, R30, R35 to R37; log 1). -/
def receiveGood (f : RxFrame) (s : State) : State :=
  if receiving s then
    (let s1 := reportLoss f.winner (toSpace s)
     settle (if targeted s f.target then deliver f s1 else s1))
  else s

/-- The cells of a complete frame count: LIF receives it, or reads in SPACE the tail of a frame that it cannot place, which
fails its CRC (R25, R29, R30; log 12). -/
def takesCells (f : LineFrame) (s : State) : Bool := receiving s || (listening s && !f.crcGood)

/-- FRAME_RECEIVED (R22, R23, R25, R27 to R30, R35): cells that are no complete frame change nothing. That noise counts
in a tail read in SPACE (log 12) as in a frame is the model's choice, which R23, R29 and R30 leave open (log 45).
That after a station clash the cells this station sent before it can mark the frame noisy is the model's choice as well,
which R23 and R33 leave open (log 46). -/
def execFrameReceived (cells : List Cell) (s : State) : Host.Outcome State Fault Refusal :=
  .next (match readFrame (cells.map cellValue) with
    | some chars =>
      (let f := lineFrame chars
       if takesCells f s then
         settle (handleFrame f (reportLoss (fun rid => winnerIn rid f) (toSpace (bumpIf (cells.any cellNoisy) .noisy s))))
       else s)
    | none => s)

/-- The transmission in progress ends in a framing error or a cut: a queue frame stays and may retry; the register's
OFFER stays and its failure is reported, or is emptied without a report when OFE has cleared it (R33, R35, R40). -/
def failTransmission (s : State) : State :=
  match s.lif.tx with
  | none => s
  | some t =>
    let s1 := { s with lif.tx := none }
    match t.origin with
    | .queue o => queueRetries o s1
    | .register =>
      if s.lif.clearPending then { s1 with lif.register := none, lif.clearPending := false }
      else match s.lif.register with
        | some r => offerTried r.rid s1
        | none => s1

/-- FRAMING_ERROR (R24, R29, R33, R35): of a frame sent or received, or of a tail read in SPACE (log 12), whose noise
counts too by the model's choice (log 45). A dominant stop cell inside a malformed frame that is passed over is one as
well, and ends that frame: the model's choice between R24 and R25 (log 44). -/
def execFramingError (noisy : Bool) (s : State) : Host.Outcome State Fault Refusal :=
  .next (if lifRuns s && decide (s.lif.cond ≠ .hold) && s.lif.stretch.isNone then
    settle (reportLoss unidentified (toSpace (failTransmission
      (bumpIf (noisy && s.lif.tx.isNone) .noisy (bump .framing s)))))
  else s)

/-- TRUNCATED (R26, R29, R35): also of a tail read in SPACE (log 12), whose noise counts too by the model's choice (log
45). A malformed frame that is passed over is not truncated: it ends by MALFORMED_FRAME_END (R25). -/
def execTruncated (noisy : Bool) (s : State) : Host.Outcome State Fault Refusal :=
  .next (if listening s then
    settle (reportLoss unidentified (toSpace (bumpIf noisy .noisy (bump .truncated s))))
  else s)

/-- FRAME_MALFORMED_LENGTH (R25): counted at once; the frame is passed over until its end. -/
def execFrameMalformedLength (s : State) : Host.Outcome State Fault Refusal :=
  .next (if receiving s then { bump .malformed s with lif.malformed := true, lif.cond := .frame } else s)

/-- MALFORMED_FRAME_END (R25, R35): the line has been recessive for more than 20 cells. -/
def execMalformedFrameEnd (noisy : Bool) (s : State) : Host.Outcome State Fault Refusal :=
  .next (if lifRuns s && s.lif.malformed then
    settle (reportLoss unidentified (toSpace (bumpIf noisy .noisy s)))
  else s)

/-! ### Start points (R31, R32, R41) -/

/-- The station states in which the contest register may send and LIF may stretch (R32, R42). -/
def StationState.contests : StationState → Bool
  | .active | .withdrawn | .holdup => true
  | .starting | .joining | .haltedConfig => false

/-- A frame's transmission begins: it is given its CRC, and its start cell takes LIF to FRAME (R27, R30, R31). -/
def startFrame (o : TxOrigin) (f : TxFrame) (s : State) : State :=
  { s with lif.tx := some ⟨o, f.chars s.sul.station⟩, lif.cond := .frame }

/-- The register's OFFER, in the states in which it may be sent (R32). -/
def State.offer? (s : State) : Option Register := if s.sul.state.contests then s.lif.register else none

/-- The choice at the contest point of a request: its OFFER, or nothing, which it is too when the REQUEST was malformed
(R32, R50). -/
def startAtContest (m : Mark) (s : State) : State :=
  match s.offer? with
  | some r => if r.rid = m.rid ∧ m.barred = false then startFrame .register r.frame s else s
  | none => s

/-- The choice at any other start point: the lower contest value, the OFFER of equals (R32). -/
def startLowest (s : State) : State :=
  match s.lif.queue.head?, s.offer? with
  | none, none => s
  | some e, none => startFrame (.queue e.order) e.frame s
  | none, some r => startFrame .register r.frame s
  | some e, some r =>
    if e.frame.contest < r.frame.contest then startFrame (.queue e.order) e.frame s
    else startFrame .register r.frame s

/-- LIF enters IDLE, or stays there (R30, R31). -/
def toIdle (s : State) : State := { s with lif.cond := .idle, lif.recessive := 6 }

/-- One start point: the contest point of the request that is marked, which OFE is told has passed, or any other
(R31, R32, R41, R126). -/
def atStartPoint (s : State) : State :=
  match s.lif.mark with
  | some m => late m.rid { startAtContest m (toIdle s) with lif.mark := none }
  | none => startLowest (toIdle s)

/-- START_POINT (R31, R32, R41, R126). There is none in FRAME, in HOLD or in a stretch. -/
def execStartPoint (s : State) : Host.Outcome State Fault Refusal :=
  .next (if lifRuns s && s.lif.tx.isNone && s.lif.stretch.isNone &&
      (decide (s.lif.cond = .idle) || decide (s.lif.cond = .space)) then settle (atStartPoint s)
  else s)

/-! ### Outcomes of a transmission (R33 to R35) -/

/-- The register's OFFER ends its transmission when OFE has cleared it: emptied, no report (R40). -/
def emptyRegister (s : State) : State := { s with lif.register := none, lif.clearPending := false }

/-- The effect of a loss on the frame in transmission: it stays; the register's OFFER waits for its report (R33,
R35). -/
def loseTransmission (t : Transmission) (s : State) : State :=
  let s1 := { s with lif.tx := none, lif.cond := .frame }
  match t.origin with
  | .queue o => queueRetries o s1
  | .register => if s.lif.clearPending then emptyRegister s1 else { s1 with lif.lossPending := true }

/-- ARBITRATION_LOSS (R33): LIF goes on as a receiver. -/
def execArbitrationLoss (s : State) : Host.Outcome State Fault Refusal :=
  .next (match s.lif.tx with
    | some t => if lifRuns s then loseTransmission t s else s
    | none => s)

/-- The effect of a completed transmission: the queue frame is removed; the OFFER is removed and reported WON (R33,
R35, R40). -/
def completeTransmission (t : Transmission) (s : State) : State :=
  let s1 := toSpace { s with lif.tx := none }
  match t.origin with
  | .queue o => queueCompleted o s1
  | .register =>
    match s.lif.register with
    | some r => if s.lif.clearPending then emptyRegister s1 else offerWon r.rid (emptyRegister s1)
    | none => emptyRegister s1

/-- TRANSMISSION_COMPLETE (R33, R35, R129). -/
def execTransmissionComplete (s : State) : Host.Outcome State Fault Refusal :=
  .next (match s.lif.tx with
    | some t => if lifRuns s then settle (completeTransmission t s) else s
    | none => s)

/-- The effect of a station clash: the queue frame is abandoned; the OFFER is removed and reported CLASH (R33, R35,
R40). -/
def abandonTransmission (t : Transmission) (s : State) : State :=
  let s1 := { s with lif.tx := none, lif.cond := .frame }
  match t.origin with
  | .queue o => queueAbandoned o s1
  | .register =>
    match s.lif.register with
    | some r => if s.lif.clearPending then emptyRegister s1 else offerClashed r.rid (emptyRegister s1)
    | none => emptyRegister s1

/-- The clash flag is set and its timer starts at 60 s (R34). -/
def flagClash (s : State) : State := { s with lif.clashFlag := true, lif.clashTimer := some 60000 }

/-- STATION_CLASH (R33, R34): LIF goes on as a receiver of the frame on the line. -/
def execStationClash (s : State) : Host.Outcome State Fault Refusal :=
  .next (match s.lif.tx with
    | some t => if lifRuns s then abandonTransmission t (flagClash (bump .stationClash s)) else s
    | none => s)

/-- CLASH_TIMER_EXPIRY (R34). -/
def execClashTimerExpiry (s : State) : Host.Outcome State Fault Refusal :=
  .next (if lifRuns s && s.lif.clashTimer.isSome then { s with lif.clashFlag := false, lif.clashTimer := none } else s)

/-! ### The stretch (R42, R43) -/

/-- A frame of the buffer is the REQUEST of this id (R42). -/
def isRequest (rid : ReqId) (f : RxFrame) : Bool :=
  match f.msg with
  | .request r _ _ _ _ _ => decide (r = rid)
  | _ => false

/-- The evaluation of the marked request is open at gap cell 2 (R42). -/
def stretchOpen (m : Mark) (s : State) : Bool :=
  !m.closed && (s.lif.rxBuf.any (isRequest m.rid) ||
    match s.entry? m.rid with
    | some e => e.state.open?
    | none => false)

/-- STRETCH_START (R42): LIF drives the line dominant; the recessive count goes back to 0 (R30). -/
def execStretchStart (s : State) : Host.Outcome State Fault Refusal :=
  .next (match s.lif.mark with
    | some m =>
      if lifRuns s && s.sul.state.contests && decide (s.lif.cond = .space) && s.lif.stretch.isNone &&
          s.lif.tx.isNone && stretchOpen m s then
        { s with lif.stretch := some m.rid, lif.recessive := 0 }
      else s
    | none => s)

/-- STRETCH_LIMIT (R43, R126): LIF lets go and reports the limit; a line that still reads dominant is counted. -/
def execStretchLimit (stillDominant : Bool) (s : State) : Host.Outcome State Fault Refusal :=
  .next (match s.lif.stretch with
    | some rid =>
      if lifRuns s then settle (bumpIf stillDominant .stretchOverrun (late rid { s with lif.stretch := none })) else s
    | none => s)

/-! ### Line hold and line pause (R44, R45, R92) -/

/-- The line pause begins, unless it is already running: every setpoint is 0 and a planning pass is due (R44, R92). -/
def beginPause (s : State) : State :=
  if s.lif.linePause then s else setReplan (zeroAllSetpoints { s with lif.linePause := true })

/-- The counts of a frame that a hold ends (R23, R24, R33): a received frame marked noisy; a failed character later than
the first. In SPACE no frame is in progress. A frame being sent that is cut by a dominant stop cell in its first character
is counted as R24 counts it, not at all, though R33's table counts framing for every cut: the model's choice (log 14). -/
def countHold (noisy laterCharacter : Bool) (s : State) : State :=
  bumpIf (laterCharacter && decide (s.lif.cond ≠ .space)) .framing
    (bumpIf (noisy && s.lif.tx.isNone && decide (s.lif.cond ≠ .space)) .noisy s)

/-- LIF enters HOLD (R44). -/
def toHold (s : State) : State :=
  { s with lif.cond := .hold, lif.recessive := 0, lif.malformed := false, lif.pauseTimer := none }

/-- LINE_HOLD_START (R24, R33, R35, R44, R92): a frame sent ends as a cut, a loss that waits for its report is CUT, and
both count as a try (R131). -/
def execLineHoldStart (noisy laterCharacter : Bool) (s : State) : Host.Outcome State Fault Refusal :=
  .next (if lifRuns s && decide (s.lif.cond ≠ .hold) && s.lif.stretch.isNone then
    settle (beginPause (toHold (reportLoss unidentified (failTransmission (countHold noisy laterCharacter s)))))
  else s)

/-- LINE_HOLD_END (R30, R45): SPACE with a recessive count of 1; the pause timer starts at 2 s. -/
def execLineHoldEnd (s : State) : Host.Outcome State Fault Refusal :=
  .next (if lifRuns s && decide (s.lif.cond = .hold) then
    { s with lif.cond := .space, lif.recessive := 1, lif.pauseTimer := some 2000 }
  else s)

/-- PAUSE_TIMER_EXPIRY (R45): the line pause ends, and a planning pass is due. -/
def execPauseTimerExpiry (s : State) : Host.Outcome State Fault Refusal :=
  .next (if lifRuns s && s.lif.pauseTimer.isSome then
    settle (setReplan { s with lif.pauseTimer := none, lif.linePause := false })
  else s)

end Sys2Proof.Machine
end

