-- ==== Sys2Proof/Machine/Loader.lean ====
section
/-! DEFINITION. The configuration image: its fields, their clamping, the survey list, and the configuration it puts in
force (11.2, 11.3). -/

namespace Sys2Proof.Machine

open Sys2Proof

/-! ### Stage two: fields brought into range (R178) -/

/-- A field of the image: offset, two bytes or one, range and step in the stored unit, and its default if it has one
(11.2). -/
structure Field where
  offset : Nat
  wide : Bool
  lo : Nat
  hi : Nat
  step : Nat
  dflt : Option Nat
deriving DecidableEq, Repr

/-- The seven fields of the class whose first byte stands at `o` (11.2). -/
def classFields (o : Nat) : List Field :=
  [⟨o, false, 10, 120, 1, none⟩, ⟨o + 1, false, 100, 200, 1, some 160⟩, ⟨o + 2, false, 120, 200, 1, some 180⟩,
    ⟨o + 3, false, 120, 200, 1, some 190⟩, ⟨o + 4, false, 10, 66, 1, none⟩, ⟨o + 5, false, 25, 100, 1, some 50⟩,
    ⟨o + 6, false, 0, 100, 1, some 70⟩]

/-- The fields in offset order, the survey steps excepted (11.2, R178). -/
def fields : List Field :=
  [⟨0, false, 0, 7, 1, none⟩, ⟨1, false, 1, 8, 1, none⟩, ⟨2, false, 1, 16, 1, none⟩,
    ⟨11, false, 20, 200, 10, some 60⟩, ⟨12, true, 0, 5000, 1, some 500⟩] ++
  classFields 14 ++ classFields 21 ++ classFields 28 ++ classFields 35 ++
  [⟨42, false, 35, 55, 1, some 45⟩, ⟨43, false, 50, 70, 1, some 60⟩, ⟨44, false, 2, 20, 1, some 4⟩,
    ⟨45, true, 500, 20000, 1, none⟩, ⟨47, true, 0, 2000, 1, none⟩, ⟨49, true, 0, 20000, 1, none⟩,
    ⟨51, false, 0, 3, 1, some 1⟩, ⟨52, false, 0, 30, 1, some 10⟩, ⟨53, false, 0, 30, 1, some 20⟩,
    ⟨54, false, 2, 15, 1, some 5⟩, ⟨55, false, 30, 180, 1, some 90⟩, ⟨56, false, 30, 180, 1, some 60⟩]

/-- One byte of the image. -/
def imageByte (img : List Byte) (o : Nat) : Byte := img.getD o 0

/-- A field's value as read, most significant byte first (11.2). -/
def rawField (img : List Byte) (f : Field) : Nat :=
  if f.wide then (be16 (imageByte img f.offset) (imageByte img (f.offset + 1))).toNat
  else (imageByte img f.offset).toNat

/-- The all-ones value of a field (R178). -/
def Field.allOnes (f : Field) : Nat := if f.wide then 0xFFFF else 0xFF

/-- The value used of a field in the second stage, and the cause of its correction (R178). -/
def settleField (f : Field) (raw : Nat) : Nat × Option ClampCause :=
  match if raw = f.allOnes then f.dflt else none with
  | some d => (d, none)
  | none =>
    if raw < f.lo then (f.lo, some .raised)
    else if f.hi < raw then (f.hi, some .lowered)
    else if raw / f.step * f.step ≠ raw then (raw / f.step * f.step, some .rounded)
    else (raw, none)

/-- The value of the field at an offset after the second stage. -/
def imageValue (img : List Byte) (o : Nat) : Nat :=
  match fields.find? (fun f => f.offset == o) with
  | some f => (settleField f (rawField img f)).1
  | none => 0

/-- The correction of one field, if any (R178). -/
def fieldClamp (img : List Byte) (f : Field) : Option Clamp :=
  match settleField f (rawField img f) with
  | (used, some c) => some ⟨f.offset, c, some (rawField img f), some used⟩
  | (_, none) => none

/-! ### Stage three: ceilings (R179) -/

/-- The correction of the ceiling of the class whose first byte stands at `o` (R179). -/
def ceilingClamp (img : List Byte) (o : Nat) : Option Clamp :=
  if imageValue img (o + 3) < imageValue img (o + 2) then
    some ⟨o + 3, .ceilingRaised, some (imageValue img (o + 3)), some (imageValue img (o + 2))⟩
  else none

/-! ### Stage four: the survey list (R180) -/

/-- The slot number of survey step `i`, counted from 0: two per byte, upper half first (11.2). -/
def stepNibble (img : List Byte) (i : Nat) : Nat :=
  let b := imageByte img (3 + i / 2)
  (if i % 2 = 0 then b.extractLsb' 4 4 else b.extractLsb' 0 4).toNat

/-- The steps as read (R180). -/
def readSteps (img : List Byte) : List Nat := (List.range (imageValue img 2)).map (stepNibble img)

/-- The list without its last step whose slot is named by another step as well, and that slot (R180). -/
def removeDuplicate (l : List Nat) : Option (List Nat × Nat) :=
  match ((l.zipIdx).filter (fun x => decide (1 < l.count x.1))).getLast? with
  | some x => some (l.eraseIdx x.2, x.1)
  | none => none

/-- One fitted slot that the list does not name is appended, after a removal when the list holds 16 steps (R180). -/
def appendStep (acc : List Nat × List Clamp) (n : Nat) : List Nat × List Clamp :=
  if n ∈ acc.1 then acc
  else
    let appended : Clamp := ⟨3, .stepAppended, none, some n⟩
    if acc.1.length < 16 then (acc.1 ++ [n], acc.2 ++ [appended])
    else match removeDuplicate acc.1 with
      | some (l, r) => (l ++ [n], acc.2 ++ [⟨3, .stepRemoved, some r, none⟩, appended])
      | none => acc

/-- The survey list and its corrections (R180). -/
def buildSteps (img : List Byte) : List Nat × List Clamp :=
  let fitted := imageValue img 1
  let read := readSteps img
  let dropped := (read.filter (fun n => decide (fitted ≤ n))).map
    (fun n => ({ offset := 3, cause := .stepDropped, read := some n, used := none } : Clamp))
  (List.range fitted).foldl appendStep (read.filter (fun n => decide (n < fitted)), dropped)

/-! ### The result (R178 to R180) -/

/-- Every correction, in the order made (R178). -/
def corrections (img : List Byte) : List Clamp :=
  fields.filterMap (fieldClamp img) ++ [14, 21, 28, 35].filterMap (ceilingClamp img) ++ (buildSteps img).2

/-- The figures of the class whose first byte stands at `o`, in their own units (11.2, R179). -/
def classOf (img : List Byte) (o : Nat) : ClassFigures :=
  { capacity := imageValue img o * 50
    knee := imageValue img (o + 1) * 5
    release := imageValue img (o + 2) * 5
    ceiling := max (imageValue img (o + 3)) (imageValue img (o + 2)) * 5
    maxPower := imageValue img (o + 4) * 50
    taper := imageValue img (o + 5)
    minSoh := imageValue img (o + 6) }

/-- The configuration an image gives (11.2). -/
def cfgOf (img : List Byte) : Cfg :=
  { group := imageValue img 0
    fitted := imageValue img 1
    steps := (buildSteps img).1
    window := imageValue img 11
    passGap := imageValue img 12
    class0 := classOf img 14
    class1 := classOf img 21
    class2 := classOf img 28
    class3 := classOf img 35
    warmLimit := imageValue img 42
    hotLimit := imageValue img 43
    minPower := imageValue img 44 * 50
    contract := imageValue img 45 * 10
    margin := imageValue img 47 * 10
    fallback := imageValue img 49 * 10
    reserveFloor := imageValue img 51
    maxWaitStandard := imageValue img 52
    maxWaitFleet := imageValue img 53
    holdGrace := imageValue img 54
    returnTimer := imageValue img 55
    collectTimer := imageValue img 56 }

/-- How loading fails on the 66 bytes read, or that it does not: the CRC, then the fitted-slot count (R177, R178). -/
def imageFault (img : List Byte) : Option HaltCause :=
  if crc16 (img.take 64) ≠ be16 (imageByte img 64) (imageByte img 65) then some .badCrc
  else if imageByte img 1 = 0 then some .noFittedSlot
  else none

end Sys2Proof.Machine
end

