-- ==== Sys2Proof/Machine/Survey.lean ====
section
/-! DEFINITION. The Slot Survey: the condition machine, steps, passes, focus, door marks and the thermal cut
(file 01). -/

namespace Sys2Proof.Machine

open Sys2Proof

/-! ### The condition machine (1.4) -/

/-- What a visit makes of a slot's record: the record, a report, and whether one pack was exchanged for another, so that
the slot goes on to SETTLING (R13). -/
structure Visit where
  slot : Slot
  report : Option Report
  exchanged : Bool
deriving DecidableEq, Repr

/-- A slot enters FAULT: the pack record is dropped, the reason written (R16). -/
def Slot.faulted (r : FaultReason) (sl : Slot) : Slot := { sl with cond := .fault, reason := some r, pack := none }

/-- A slot takes a pack record and becomes OCCUPIED (R12, R15). -/
def Slot.occupiedBy (p : Pack) (now : Word) (sl : Slot) : Slot :=
  { sl with cond := .occupied, pack := some p, goodAt := now, reason := none }

/-- A slot becomes EMPTY (R14 to R16). -/
def Slot.emptied (sl : Slot) : Slot := { sl with cond := .empty, pack := none, reason := none, presentCount := 0 }

/-- The tamper test (R14). -/
def tampered (sl : Slot) : Bool := !sl.unlocked && sl.doorClear && decide (sl.role ≠ .releasing)

/-- A confirmed removal of an OCCUPIED slot: FAULT(TAMPER) or EMPTY, with its removal report (R14). -/
def confirmRemoval (exchanged : Bool) (sl : Slot) : Visit :=
  if tampered sl then
    ⟨{ sl.faulted .tamper with doorCycle := false, doorOpened := false },
      some ⟨.removal, .fault, some .tamper, none⟩, false⟩
  else ⟨sl.emptied, some ⟨.removal, .empty, none, none⟩, exchanged⟩

/-- A record taken where none was held: OCCUPIED, or FAULT when its status is PACK_FAULT; the report of the given kinds
(R12, R15). -/
def takePack (okKind faultKind : ReportKind) (p : Pack) (now : Word) (sl : Slot) : Visit :=
  if p.ok then ⟨sl.occupiedBy p now, some ⟨okKind, .occupied, none, some p⟩, false⟩
  else ⟨sl.faulted .packFault, some ⟨faultKind, .fault, some .packFault, some p⟩, false⟩

/-- A visit of a SETTLING slot that sees presence (R12). -/
def visitSettling (now : Word) (o : ReadOutcome) (sl : Slot) : Visit :=
  let sl' := { sl with presentCount := min 3 (sl.presentCount + 1) }
  match o with
  | .valid p => takePack .insertion .insertion p now sl'
  | _ =>
    if 3 ≤ sl.presentCount + 1 then
      ⟨{ sl' with cond := .unreadable }, some ⟨.insertion, .unreadable, none, none⟩, false⟩
    else ⟨sl', none, false⟩

/-- A visit of an OCCUPIED slot that sees presence (R13). -/
def visitOccupied (now : Word) (o : ReadOutcome) (sl : Slot) : Visit :=
  match o with
  | .valid p =>
    if sl.pack.map (fun q => q.id) = some p.id then
      if p.ok then ⟨sl.occupiedBy p now, none, false⟩
      else ⟨sl.faulted .packFault, some ⟨.fault, .fault, some .packFault, some p⟩, false⟩
    else confirmRemoval true sl
  | _ =>
    if 30 ≤ ageOf now sl.goodAt then
      ⟨sl.faulted .unreadableTimeout, some ⟨.fault, .fault, some .unreadableTimeout, none⟩, false⟩
    else ⟨sl, none, false⟩

/-- A visit that sees presence (R12, R13, R15, R16). The door-clear mark is set when the door is closed (R18), by its level at
the step's end, which is the model's choice (log 50). -/
def visitSeen (doorIsOpen : Bool) (now : Word) (o : ReadOutcome) (sl : Slot) : Visit :=
  let sl' := { sl with absentCount := 0, doorClear := sl.doorClear || !doorIsOpen }
  match sl.cond with
  | .empty => ⟨{ sl' with cond := .settling, presentCount := 1 }, some ⟨.settling, .settling, none, none⟩, false⟩
  | .settling => visitSettling now o sl'
  | .occupied => visitOccupied now o sl'
  | .unreadable =>
    match o with
    | .valid p => takePack .condition .fault p now sl'
    | _ => ⟨sl', none, false⟩
  | .fault => ⟨sl', none, false⟩

/-- A visit that does not see presence (R12, R14 to R16). -/
def visitAbsent (sl : Slot) : Visit :=
  let n := min 2 (sl.absentCount + 1)
  let sl' := { sl with absentCount := n }
  match sl.cond with
  | .empty => ⟨{ sl' with presentCount := 0 }, none, false⟩
  | .settling => ⟨{ sl' with cond := .empty, presentCount := 0, absentCount := 1 }, none, false⟩
  | .occupied => if n = 2 then confirmRemoval false sl' else ⟨sl', none, false⟩
  | .unreadable => if n = 2 then ⟨sl'.emptied, some ⟨.removal, .empty, none, none⟩, false⟩ else ⟨sl', none, false⟩
  | .fault =>
    if sl.reason = some .tamper then
      if n = 2 ∧ sl.doorCycle = true then ⟨sl'.emptied, some ⟨.cleared, .empty, none, none⟩, false⟩
      else ⟨sl', none, false⟩
    else if n = 2 then ⟨sl'.emptied, some ⟨.removal, .empty, none, none⟩, false⟩
    else ⟨sl', none, false⟩

/-- The presence field after a visit: present when seen, absent when the absent count is 2 or the slot is EMPTY (R6). -/
def Slot.presence (seen : Bool) (sl : Slot) : Slot :=
  { sl with present :=
      if seen then true else if sl.absentCount = 2 ∨ sl.cond = .empty then false else sl.present }

/-- The visit read a valid record at or below the hot limit less 5 °C (R20). -/
def coolRecord (cfg : Cfg) : ReadOutcome → Bool
  | .valid p => decide (p.temp ≤ (cfg.hotLimit : Int) - 5)
  | _ => false

/-- The thermal cut after a visit (R20). -/
def Slot.cooled (cfg : Cfg) (hot exchanged : Bool) (o : ReadOutcome) (sl : Slot) : Slot :=
  if !hot && !exchanged &&
      ((decide (sl.cond = .occupied) && coolRecord cfg o) || decide (sl.cond = .empty)) then
    { sl with cut := false }
  else sl

/-- A whole visit: the condition machine, the presence field, the thermal cut, and PLN's part of the write (R6, R20,
R91, R93). -/
def visit (cfg : Cfg) (doorIsOpen : Bool) (now : Word) (seen hot : Bool) (o : ReadOutcome) (sl : Slot) : Visit :=
  let v := if seen then visitSeen doorIsOpen now o sl else visitAbsent sl
  { v with slot := ((v.slot.presence seen).cooled cfg hot v.exchanged o).afterSurvey cfg }

/-! ### The end of a step (R6, R17) -/

/-- The counter a read's outcome names (R5). -/
def countOutcome (o : ReadOutcome) (s : State) : State :=
  match o with
  | .badCrc => bump .linkCrc s
  | .invalid | .noReply => bump .noReply s
  | .valid _ | .noRead => s

/-- The counter of slots that become UNREADABLE (R12). -/
def countUnreadable (v : Visit) (s : State) : State :=
  bumpIf (decide (v.report = some ⟨.insertion, .unreadable, none, none⟩)) .unreadable s

/-- A report of SVY goes to SEQ and OFE; OFE takes it as notice only (R17, R123). -/
def handReport (n : Nat) (r : Option Report) (s : State) : State :=
  match r with
  | some r => takeReport n r s
  | none => s

/-- After an exchange the slot goes at once to SETTLING, with its settling report (R13, R17). -/
def settleExchange (n : Nat) (v : Visit) (s : State) : State :=
  if v.exchanged then
    takeReport n ⟨.settling, .settling, none, none⟩
      (modSlot n (fun sl => { sl with cond := .settling, presentCount := 1, absentCount := 0, present := true }) s)
  else s

/-- The step makes a read attempt: presence was seen, on a slot that was not FAULT (R5). -/
def attempts (st : SurveyStep) (seen : Bool) : Bool := seen && st.readable

/-- What SVY drives on the slot's contact link in a step: the one read command, or nothing (R5, R9). -/
def linkSent (st : SurveyStep) (seen : Bool) : Option (Nat × List Bool) :=
  if attempts st seen then some (st.slot, linkChar readCommand) else none

/-- The outcome of the step's read attempt, from the levels that followed the command on the contact link (R5, R9). -/
def stepOutcome (st : SurveyStep) (seen : Bool) (levels : List Bool) : ReadOutcome :=
  if attempts st seen then readReply (linkChars levels) else .noRead

/-- The step's outcome is applied: the record, the counters, the reports, replan-pending, and the release slot judged again
(R6, R17, R155). The door's level is that of the step's ending event, also where the door has moved since presence was
sampled: the model's choice (R13, R18; log 50). -/
def applyStep (st : SurveyStep) (seen : Bool) (levels : List Bool) (hot : Bool) (s : State) : State :=
  match s.slot? st.slot with
  | none => setReplan s
  | some sl =>
    let o := stepOutcome st seen levels
    let v := visit s.sul.cfg s.sul.doorOpen s.rhs.seconds seen hot o sl
    let s1 := countUnreadable v (countOutcome o (modSlot st.slot (fun _ => v.slot) s))
    setReplan (rejudge st.slot (settleExchange st.slot v (handReport st.slot v.report s1)))

/-! ### The walk of the survey (R3, R4, R7, R8) -/

/-- The next regular step begins (R3). -/
def beginRegular (s : State) : State :=
  match s.sul.cfg.steps[s.svy.next]? with
  | some n => beginStep .regular n { s with svy.next := s.svy.next + 1 }
  | none => { s with svy.step := none }

/-- A pass begins with the first step of the list (R3, R7). -/
def beginSurveyPass (s : State) : State := beginRegular { s with svy.next := 0, svy.gap := .inPass }

/-- "Pass ended" goes to SEQ, at the end of the first pass as such (R7, R143). -/
def reportPassEnd (s : State) : State :=
  if s.svy.firstPassDone then s else takeFirstPass { s with svy.firstPassDone := true }

/-- The pass gap timer starts; with a gap of 0 the next pass is due at once (R7). -/
def startGap (s : State) : State :=
  { s with svy.gap := if s.sul.cfg.passGap = 0 then .due else .running s.sul.cfg.passGap }

/-- The focus slot, when it is another than the slot just visited (R8). -/
def otherFocus (n : Nat) (s : State) : Option Nat := s.svy.focus.filter (fun f => decide (f ≠ n))

/-- What follows the end of a pass whose last step visited slot `n` (R7, R8; log 26). -/
def afterPass (n : Nat) (s : State) : State :=
  match s.svy.gap with
  | .running _ =>
    match s.svy.focus with
    | some f => beginStep .focus f s
    | none => { s with svy.step := none }
  | _ =>
    match otherFocus n s with
    | some f => beginStep .focus f s
    | none => beginSurveyPass s

/-- What follows a regular step on slot `n` with its confirm step (R3, R7, R8). -/
def afterRegular (n : Nat) (s : State) : State :=
  if s.svy.next < s.sul.cfg.steps.length then
    match otherFocus n s with
    | some f => beginStep .focus f s
    | none => beginRegular s
  else afterPass n (startGap (reportPassEnd s))

/-- What follows a focus step (R7, R8). -/
def afterFocus (s : State) : State :=
  match s.svy.gap with
  | .inPass => beginRegular s
  | .due => beginSurveyPass s
  | .running _ =>
    match s.svy.focus with
    | some f => beginStep .focus f s
    | none => { s with svy.step := none }

/-- The slot has been visited by a regular step since the start (R4). -/
def visitedAt (n : Nat) (s : State) : Bool :=
  match s.slot? n with
  | some sl => sl.visited
  | none => true

/-- The survey goes on after a step (R4, R7, R8). -/
def nextStep (st : SurveyStep) (s : State) : State :=
  match st.kind with
  | .regular =>
    if visitedAt st.slot s then afterRegular st.slot s
    else beginStep .confirm st.slot (modSlot st.slot (fun sl => { sl with visited := true }) s)
  | .confirm => afterRegular st.slot s
  | .focus => afterFocus s

/-- SURVEY_STEP_END (R4 to R9, R12 to R17, R20): nothing ends when no step is in progress. What the step sent on the
contact link is recorded in this event (log 35). -/
def execSurveyStepEnd (seen : Bool) (levels : List Bool) (hot : Bool) (s : State) : Host.Outcome State Fault Refusal :=
  match s.svy.step with
  | some st =>
    .next (if operates s then
      settle (nextStep st (applyStep st seen levels hot { s with svy.step := none, svy.link := linkSent st seen }))
    else s)
  | none => .next s

/-- PASS_GAP_EXPIRY (R7): the next pass begins, or is due at the end of the focus step in progress. -/
def execPassGapExpiry (s : State) : Host.Outcome State Fault Refusal :=
  .next (match s.svy.gap with
    | .running _ =>
      if operates s then
        (if s.svy.step.isSome then { s with svy.gap := .due } else beginSurveyPass s)
      else s
    | _ => s)

/-! ### The thermal cut (R19) -/

/-- The cut of a slot trips: the setpoint is written as 0 (R19, R93). -/
def Slot.tripped (cfg : Cfg) (sl : Slot) : Slot := Slot.zeroed cfg { sl with cut := true }

/-- THERMAL_TRIP (R19, R93, R155): on a slot already tripped, or not fitted, nothing changes. -/
def execThermalTrip (slot : Nat) (s : State) : Host.Outcome State Fault Refusal :=
  .next (match s.slot? slot with
    | some sl =>
      if operates s = true ∧ sl.cut = false then
        settle (rejudge slot (setReplan (modSlot slot (Slot.tripped s.sul.cfg) s)))
      else s
    | none => s)

/-! ### Door marks (R16, R18) -/

/-- The open event on a slot: the door-clear mark is cleared; a slot in FAULT(TAMPER) has seen an open event (R18). -/
def Slot.doorOpens (sl : Slot) : Slot :=
  { sl with doorClear := false
            doorOpened := sl.doorOpened || (decide (sl.cond = .fault) && decide (sl.reason = some .tamper)) }

/-- The close event on a slot in FAULT(TAMPER) that has seen an open event: the door-cycle mark is set, and with two
absent visits made the slot is cleared (R16, R18). -/
def Slot.doorCloses (cfg : Cfg) (sl : Slot) : Slot :=
  if sl.cond = .fault ∧ sl.reason = some .tamper ∧ sl.doorOpened = true then
    let sl' := { sl with doorCycle := true }
    if sl.absentCount = 2 then (sl'.emptied).afterSurvey cfg else sl'
  else sl

/-- The slot is cleared by the close event (R16). -/
def clearsOnClose (sl : Slot) : Bool :=
  decide (sl.cond = .fault) && decide (sl.reason = some .tamper) && sl.doorOpened && decide (sl.absentCount = 2)

/-- The slots cleared by the close event report so, in slot order (R16, R17). -/
def reportCleared (cleared : List Nat) (s : State) : State :=
  cleared.foldl (fun st n => setReplan (takeReport n ⟨.cleared, .empty, none, none⟩ st)) s

/-- SVY's part of a close event (R18). -/
def surveyDoorCloses (s : State) : State :=
  let cleared := ((s.slots.zipIdx).filter (fun x => clearsOnClose x.1)).map (fun x => x.2)
  reportCleared cleared { s with slots := s.slots.map (Slot.doorCloses s.sul.cfg) }

end Sys2Proof.Machine
end

