-- ==== Sys2Proof/Machine/Station.lean ====
section
/-! DEFINITION. Starts, loading, station state, mains, door and core events, and the warm rebuild (files 10 and 11). -/

namespace Sys2Proof.Machine

open Sys2Proof

/-! ### Changes of station state (R164) -/

/-- The station state changes, and the new state is handed to PLN, then ALW, then SEQ (R164). -/
def changeState (new : StationState) (s : State) : State :=
  let s1 := allowanceHandOff s.sul.state (plannerHandOff { s with sul.state := new })
  if new = .active then lookAtQueue s1 else s1

/-- ACTIVE while the door's last level is closed, WITHDRAWN while it is open (R165). -/
def stateByDoor (s : State) : StationState := if s.sul.doorOpen then .withdrawn else .active

/-! ### A start (R172, R176, R177) -/

/-- SUL at the beginning of a start: straps sampled, the kind of start decided, the memory selected, the loading timer
started (R172, R176, R177). -/
def Sul.started (straps : BitVec 4) (clearHolds cold : Bool) : Sul :=
  { Sul.initial with station := straps, clearHolds := clearHolds, cold := cold, selected := true,
                     loadingTimer := some 50 }

/-- The start is cold: the marker is invalid or the clear-holds strap asserted (R172). -/
def startsCold (clearHolds : Bool) (s : State) : Bool := !s.rhs.valid || clearHolds

/-- START (R164, R172, R176, R177): the core begins from its initial values; a cold start clears the retained store
(log 27). -/
def execStart (straps : BitVec 4) (clearHolds : Bool) (s : State) : Host.Outcome State Fault Refusal :=
  .next { s.coreLost with
    core := true
    sul := Sul.started straps clearHolds (startsCold clearHolds s)
    rhs := if startsCold clearHolds s then Rhs.empty true else s.rhs }

/-- The configuration memory is being waited for or read: the loading timer runs in STARTING (R177). -/
def loading (s : State) : Bool := s.core && decide (s.sul.state = .starting) && s.sul.loadingTimer.isSome

/-- The read command from address 0 (R177). -/
def memoryReadCommand : List Byte := [0x03, 0x00, 0x00]

/-- The periods of CFCK of one read: SUL drives the command's bits on CFDA, most significant first, then releases CFDA, and
the memory drives the bits of the bytes (R177). -/
def memoryTransfer (bits : List Bool) : List CfdaCycle :=
  (memoryReadCommand.flatMap msbBits).map CfdaCycle.command ++ bits.map CfdaCycle.data

/-- CONFIG_MEMORY_READY (R177): the read command is clocked out and the bits of at most 66 bytes are clocked in, each byte
most significant bit first (log 28). -/
def execConfigMemoryReady (bits : List Bool) (s : State) : Host.Outcome State Fault Refusal :=
  .next (if loading s && s.sul.selected && s.sul.cfda.isEmpty then
    { s with sul.cfda := memoryTransfer (bits.take 528), sul.image := msbBytes (bits.take 528) }
  else s)

/-- The memory is deselected and the loading timer stops (R177). The rule states the deselection for a read that fails
without a response; that it happens at the end of a complete read as well, good CRC or bad, is the model's choice
(log 42). -/
def deselect (s : State) : State := { s with sul.selected := false, sul.loadingTimer := none }

/-- HALTED_CONFIG is entered with its cause: the Line Interface begins, every peer is ABSENT (R29, R61, R164, R181). -/
def haltConfig (c : HaltCause) (s : State) : State :=
  changeState .haltedConfig { s with
    sul.halt := some c
    lif := Lif.initial
    alw := { Alw.initial with peers := initialPeers s.sul.station } }

/-- LOADING_TIMER_EXPIRY (R177, R181). -/
def execLoadingTimerExpiry (s : State) : Host.Outcome State Fault Refusal :=
  .next (if loading s then haltConfig .noResponse (deselect s) else s)

/-! ### The warm rebuild (R124, R173) -/

/-- The hold records kept: of a fitted slot, and the first to name it (R173). `seen` holds the slots named so far. -/
def keepHolds (fitted : Nat) : List Nat → List (Option HoldRecord) → List (Option HoldRecord)
  | _, [] => []
  | seen, none :: rest => none :: keepHolds fitted seen rest
  | seen, some r :: rest =>
    if r.slot < fitted ∧ r.slot ∉ seen then some r :: keepHolds fitted (r.slot :: seen) rest
    else none :: keepHolds fitted seen rest

/-- The progress record kept (R173). -/
def keepProgress (fitted : Nat) (kept : List HoldRecord) (p : Option Progress) : Option Progress :=
  p.filter (fun p => kept.any (fun r => decide (r.rid = p.rid)) && decide (p.dock < fitted) &&
    decide (p.release < fitted) && decide (p.dock ≠ p.release))

/-- The order of rebuilt entries: deadline, then slot (R124; log 10). -/
def recordBefore (a b : HoldRecord) : Bool :=
  if a.deadline.toNat ≠ b.deadline.toNat then decide (a.deadline.toNat < b.deadline.toNat)
  else decide (a.slot < b.slot)

/-- The entry rebuilt from a hold record: HELD with its timer armed (R124). -/
def entryOf (r : HoldRecord) : Entry :=
  { rid := r.rid, kind := .walkUp, rider := r.rider, packClass := r.packClass, returnClass := r.returnClass,
    eta := r.eta, attempt := 0, state := .held, offer := none, tries := 0, winner := none, heldSlot := some r.slot,
    deadline := some r.deadline, servePos := none, returnedId := none, satOut := none, linger := none,
    pledgeTimer := none, holdTimer := some r.deadline }

/-- The rebuilt entry, SERVING when the progress record names its request (R124). -/
def rebuiltEntry (p : Option Progress) (r : HoldRecord) : Entry :=
  match p with
  | some q =>
    if q.rid = r.rid then { (entryOf r).serving .active with returnedId := q.returned } else entryOf r
  | none => entryOf r

/-- The roles of the dock and of the release slot that a resumed swap's step gives (R173; log 37). -/
def resumedRoles (p : Progress) (s : State) : State :=
  match p.step with
  | .returnOpen | .returnCheck | .rejectOut | .giveBackNoPack | .giveBackWaitExceeded =>
    setRole p.dock .dock (some p.rid) s
  | .releaseOpen => setRole p.release .releasing (some p.rid) s
  | .releaseWait => s

/-- SEQ becomes active with the progress record, in STARTING_WAIT (R174). -/
def resumeActive (p : Progress) (s : State) : State :=
  { s with seq.active := some ⟨p.rid, .startingWait, some p.dock, p.release, p.returned, none, none, some p.step⟩ }

/-- The promises are rebuilt from the retained store (R124, R173, R174). -/
def rebuild (s : State) : State :=
  let holds := keepHolds s.sul.cfg.fitted [] s.rhs.holds
  let kept := holds.filterMap id
  let progress := keepProgress s.sul.cfg.fitted kept s.rhs.progress
  let book := (sortBy recordBefore kept).map (rebuiltEntry progress)
  let s1 := { s with rhs.holds := holds, rhs.progress := progress, ofe.book := book }
  let s2 := kept.foldl (fun st r => setRole r.slot .held (some r.rid) st) s1
  lapseDue (match progress with
    | some p => resumeActive p (resumedRoles p s2)
    | none => s2)

/-! ### The end of loading (R2, R19, R182) -/

/-- A slot's record as it comes into being; an asserted comparator trips the cut at once (R2, R19). -/
def Slot.fresh (doorIsOpen hot : Bool) (now : Word) : Slot :=
  { cond := .empty, present := false, pack := none, goodAt := now, cut := hot, reason := none, role := .free,
    rid := none, unlocked := false, setpoint := 0, ready := 1023, tier := .none, cap := 0, presentCount := 0,
    absentCount := 0, doorClear := !doorIsOpen, doorCycle := false, doorOpened := false, visited := false }

/-- The records of the fitted slots (R1, R2). -/
def freshSlots (fitted : Nat) (doorIsOpen : Bool) (hot : BitVec 8) (now : Word) : List Slot :=
  (List.range fitted).map (fun n => Slot.fresh doorIsOpen (hot.getLsbD n) now)

/-- Steps 1 to 3 of R182: configuration, Slot Table, Peer Table, meter record, site allowance; every block stands at the
values it has after a start (R3, R8, R46, R75, R110, R115, R143). -/
def putInForce (doorIsOpen : Bool) (hot : BitVec 8) (s : State) : State :=
  recomputeAllowance { s with
    sul.cfg := cfgOf s.sul.image
    sul.clamps := (corrections s.sul.image).take 16
    sul.clampCount := (corrections s.sul.image).length
    slots := freshSlots (cfgOf s.sul.image).fitted doorIsOpen hot s.rhs.seconds
    lif := Lif.initial
    svy := Svy.initial
    alw := { Alw.initial with peers := initialPeers s.sul.station }
    pln := Pln.initial
    ofe := Ofe.initial
    seq := Seq.initial }

/-- Steps 5 and 6 of R182: JOINING with its timer, the first survey step, and HOLDUP when the mains is low. -/
def enterJoining (doorIsOpen mainsIsGood : Bool) (s : State) : State :=
  let s1 := changeState .joining { s with sul.doorOpen := doorIsOpen }
  let s2 := beginRegular { s1 with sul.joiningTimer := some 3000 }
  if mainsIsGood then s2 else changeState .holdup s2

/-- LOADING_END (R177 to R182): the 66 bytes have been read, the memory is deselected (log 42); the image is checked and
the part joins the line, or halts. -/
def execLoadingEnd (doorIsOpen : Bool) (hot : BitVec 8) (mainsIsGood : Bool) (s : State) :
    Host.Outcome State Fault Refusal :=
  .next (if loading s && decide (s.sul.image.length = 66) then
    (let s1 := deselect { s with sul.mainsGood := mainsIsGood }
     match imageFault s.sul.image with
     | some c => haltConfig c s1
     | none =>
       let s2 := putInForce doorIsOpen hot s1
       settle (enterJoining doorIsOpen mainsIsGood (if s.sul.cold then s2 else rebuild s2)))
  else s)

/-- JOINING_TIMER_EXPIRY (R167, R182). -/
def execJoiningTimerExpiry (s : State) : Host.Outcome State Fault Refusal :=
  .next (if s.core && s.sul.joiningTimer.isSome then
    (let s1 := { s with sul.joiningTimer := none }
     if s.sul.state = .joining then settle (changeState (stateByDoor s) s1) else s1)
  else s)

/-! ### Core and retained cell (R168, R171) -/

/-- The retained contents have no value to rely on (R171; log 6). -/
def spoilRetained (s : State) : State :=
  { s with
    rhs.seconds := Config.freeSeconds s.draw
    rhs.holds := (Config.freeHolds s.draw).toList
    rhs.progress := Config.freeProgress s.draw
    draw := s.draw + 1 }

/-- CORE_STOP (R168): all of the core's state is lost; the retained domain keeps its contents, also after a dip of its cell
while the core ran (R171). A cell that is low at the stop shows it by RETAINED_CELL_FAIL with the core off (log 5,
log 6). -/
def execCoreStop (s : State) : Host.Outcome State Fault Refusal := .next (if s.core then s.coreLost else s)

/-- RETAINED_CELL_FAIL (R171): the marker becomes invalid; with the core off the contents are lost (log 6). -/
def execRetainedCellFail (s : State) : Host.Outcome State Fault Refusal :=
  .next (let s1 := { s with rhs.valid := false }
    if s.core then s1 else spoilRetained s1)

/-! ### Mains (R166, R167) -/

/-- MAINS_GOOD_LOW (R166, R167): in STARTING and HALTED_CONFIG the input is sampled but changes nothing. -/
def execMainsGoodLow (s : State) : Host.Outcome State Fault Refusal :=
  .next (if s.core then
    (let s1 := { s with sul.mainsGood := false }
     match s.sul.state with
     | .joining | .active | .withdrawn => settle (changeState .holdup s1)
     | .holdup => { s1 with sul.mainsReturnTimer := none }
     | .starting | .haltedConfig => s1)
  else s)

/-- MAINS_GOOD_HIGH (R167): in HOLDUP the first high sample starts the mains-return timer. -/
def execMainsGoodHigh (s : State) : Host.Outcome State Fault Refusal :=
  .next (if s.core then
    (let s1 := { s with sul.mainsGood := true }
     if s.sul.state = .holdup ∧ s.sul.mainsReturnTimer.isNone = true then { s1 with sul.mainsReturnTimer := some 1000 }
     else s1)
  else s)

/-- The state that a mains return leads to (R167). -/
def stateAfterReturn (s : State) : StationState := if s.sul.joiningTimer.isSome then .joining else stateByDoor s

/-- MAINS_RETURN_TIMER_EXPIRY (R167). -/
def execMainsReturnTimerExpiry (s : State) : Host.Outcome State Fault Refusal :=
  .next (if s.core && decide (s.sul.state = .holdup) && s.sul.mainsReturnTimer.isSome then
    settle (changeState (stateAfterReturn s) { s with sul.mainsReturnTimer := none })
  else s)

/-! ### The service door (R18, R165) -/

/-- DOOR_OPEN (R18, R165): the marks, then the state. An input already held open makes no event. -/
def execDoorOpen (s : State) : Host.Outcome State Fault Refusal :=
  .next (if s.core && !s.sul.doorOpen then
    (let s1 := { s with slots := s.slots.map Slot.doorOpens, sul.doorOpen := true }
     settle (if s.sul.state = .active then changeState .withdrawn s1 else s1))
  else s)

/-- DOOR_CLOSE (R16, R18, R165): the marks and the slots they clear, then the state (log 17). -/
def execDoorClose (s : State) : Host.Outcome State Fault Refusal :=
  .next (if s.core && s.sul.doorOpen then
    (let s1 := surveyDoorCloses { s with sul.doorOpen := false }
     settle (if s1.sul.state = .withdrawn then changeState .active s1 else s1))
  else s)

end Sys2Proof.Machine
end

