-- ==== Sys2Proof/Machine/Takings.lean ====
section
/-! DEFINITION. The frames that blocks take, each as one command: the good frame ends, comes to the receive buffer, is
dispatched to its owner and taken in the same event (R30, R36, R37; log 1). -/

namespace Sys2Proof.Machine

open Sys2Proof

/-- A frame to all stations. -/
def frameToAll (source : BitVec 4) (k : Kind) (m : Message) : RxFrame := ⟨source, k.contest, toAll, m⟩

/-- A QUERY to this station (R60). -/
def queryFrame (source : BitVec 4) (item index : Byte) : RxFrame := frameToAll source .query (.query item index)

/-- REQUEST (R50, R51, R113). -/
def execRequest (source : BitVec 4) (rid : ReqId) (kindAndRider packClass returnClass eta attempt : Byte)
    (s : State) : Host.Outcome State Fault Refusal :=
  .next (receiveGood (frameToAll source .request (.request rid kindAndRider packClass returnClass eta attempt)) s)

/-- OFFER (R50, R55, R134): the contest character is the one received. -/
def execOffer (source : BitVec 4) (contest : Byte) (rid : ReqId) (slot score : Byte) (minutes soc : Half)
    (packId : Word) (s : State) : Host.Outcome State Fault Refusal :=
  .next (receiveGood ⟨source, contest, toAll, .offer rid slot score minutes soc packId⟩ s)

/-- ASSIGN (R50, R52, R136 to R138): acts by the chosen station byte (log 20). The source does not matter (R48). -/
def execAssign (rid : ReqId) (chosen slot : Byte) (s : State) : Host.Outcome State Fault Refusal :=
  .next (receiveGood (frameToAll 0 .assign (.assign rid chosen slot)) s)

/-- ASSIGN naming another station (R50, R52, R140): acts by the chosen station byte (log 20). -/
def execAssignOther (rid : ReqId) (chosen slot : Byte) (s : State) : Host.Outcome State Fault Refusal :=
  .next (receiveGood (frameToAll 0 .assign (.assign rid chosen slot)) s)

/-- UPDATE (R53, R121). -/
def execUpdate (rid : ReqId) (eta : Byte) (s : State) : Host.Outcome State Fault Refusal :=
  .next (receiveGood (frameToAll 0 .update (.update rid eta)) s)

/-- BEGIN (R28, R50, R54, R146): with the target character as received; one that names this station in no way is not
kept. -/
def execBeginSwap (target : Byte) (rid : ReqId) (s : State) : Host.Outcome State Fault Refusal :=
  .next (receiveGood ⟨0, Kind.beginSwap.contest, target, .beginSwap rid⟩ s)

/-- CANCEL (R53, R122). -/
def execCancel (rid : ReqId) (s : State) : Host.Outcome State Fault Refusal :=
  .next (receiveGood (frameToAll 0 .cancel (.cancel rid)) s)

/-- DEMAND (R58, R62). -/
def execDemand (source : BitVec 4) (wanted urgent grant : Half) (ready0 ready1 ready2 ready3 empty stateCode : Byte)
    (s : State) : Host.Outcome State Fault Refusal :=
  .next (receiveGood (frameToAll source .demand
    (.demand wanted urgent grant ready0 ready1 ready2 ready3 empty stateCode)) s)

/-- METER (R59, R64). -/
def execMeter (load total : Half) (s : State) : Host.Outcome State Fault Refusal :=
  .next (receiveGood (frameToAll 0 .meter (.meter load total)) s)

/-- QUERY, item SUMMARY (R60, R183, R184). -/
def execQuerySummary (source : BitVec 4) (index : Byte) (s : State) : Host.Outcome State Fault Refusal :=
  .next (receiveGood (queryFrame source 0 index) s)

/-- QUERY, item SLOT (R60, R183, R184). -/
def execQuerySlot (source : BitVec 4) (index : Byte) (s : State) : Host.Outcome State Fault Refusal :=
  .next (receiveGood (queryFrame source 1 index) s)

/-- QUERY, item BOOK (R60, R183, R184). -/
def execQueryBook (source : BitVec 4) (index : Byte) (s : State) : Host.Outcome State Fault Refusal :=
  .next (receiveGood (queryFrame source 2 index) s)

/-- QUERY, item COUNTERS (R60, R183 to R185). -/
def execQueryCounters (source : BitVec 4) (index : Byte) (s : State) : Host.Outcome State Fault Refusal :=
  .next (receiveGood (queryFrame source 3 index) s)

/-- QUERY, item PEER (R60, R183, R184). -/
def execQueryPeer (source : BitVec 4) (index : Byte) (s : State) : Host.Outcome State Fault Refusal :=
  .next (receiveGood (queryFrame source 4 index) s)

/-- QUERY with an unknown item or an index out of range (R60): a valid pair is answered as R183 gives (log 19). -/
def execQueryInvalid (source : BitVec 4) (item index : Byte) (s : State) : Host.Outcome State Fault Refusal :=
  .next (receiveGood (queryFrame source item index) s)

end Sys2Proof.Machine
end

