-- ==== Sys2Proof/Machine/Dispatch.lean ====
section
/-! DEFINITION. One arm per command: the meaning of each row of spec/opcode_table.json. -/

namespace Sys2Proof.Machine

open Sys2Proof

/-- The effect of a command on everything but the queue of waiting commands. -/
def exec (i : Instr) (s : State) : Host.Outcome State Fault Refusal :=
  match i with
  | .start straps clearHolds => Sys2Proof.Machine.execStart straps clearHolds s
  | .configMemoryReady bits => Sys2Proof.Machine.execConfigMemoryReady bits s
  | .loadingEnd doorIsOpen hot mainsIsGood => Sys2Proof.Machine.execLoadingEnd doorIsOpen hot mainsIsGood s
  | .loadingTimerExpiry => Sys2Proof.Machine.execLoadingTimerExpiry s
  | .joiningTimerExpiry => Sys2Proof.Machine.execJoiningTimerExpiry s
  | .coreStop => Sys2Proof.Machine.execCoreStop s
  | .mainsGoodLow => Sys2Proof.Machine.execMainsGoodLow s
  | .mainsGoodHigh => Sys2Proof.Machine.execMainsGoodHigh s
  | .mainsReturnTimerExpiry => Sys2Proof.Machine.execMainsReturnTimerExpiry s
  | .retainedCellFail => Sys2Proof.Machine.execRetainedCellFail s
  | .secondsTick => Sys2Proof.Machine.execSecondsTick s
  | .holdTimerExpiry => Sys2Proof.Machine.execHoldTimerExpiry s
  | .pledgeTimerExpiry rid => Sys2Proof.Machine.execPledgeTimerExpiry rid s
  | .surveyStepEnd seen levels hot => Sys2Proof.Machine.execSurveyStepEnd seen levels hot s
  | .passGapExpiry => Sys2Proof.Machine.execPassGapExpiry s
  | .doorOpen => Sys2Proof.Machine.execDoorOpen s
  | .doorClose => Sys2Proof.Machine.execDoorClose s
  | .thermalTrip slot => Sys2Proof.Machine.execThermalTrip slot s
  | .planningPassEnd => Sys2Proof.Machine.execPlanningPassEnd s
  | .evaluationEnd => Sys2Proof.Machine.execEvaluationEnd s
  | .demandTimerExpiry => Sys2Proof.Machine.execDemandTimerExpiry s
  | .spacingTimerExpiry => Sys2Proof.Machine.execSpacingTimerExpiry s
  | .freshnessTimerExpiry => Sys2Proof.Machine.execFreshnessTimerExpiry s
  | .frameReceived cells => Sys2Proof.Machine.execFrameReceived cells s
  | .framingError noisy => Sys2Proof.Machine.execFramingError noisy s
  | .truncated noisy => Sys2Proof.Machine.execTruncated noisy s
  | .frameMalformedLength => Sys2Proof.Machine.execFrameMalformedLength s
  | .startPoint => Sys2Proof.Machine.execStartPoint s
  | .arbitrationLoss => Sys2Proof.Machine.execArbitrationLoss s
  | .transmissionComplete => Sys2Proof.Machine.execTransmissionComplete s
  | .stationClash => Sys2Proof.Machine.execStationClash s
  | .clashTimerExpiry => Sys2Proof.Machine.execClashTimerExpiry s
  | .stretchStart => Sys2Proof.Machine.execStretchStart s
  | .stretchLimit stillDominant => Sys2Proof.Machine.execStretchLimit stillDominant s
  | .lineHoldStart noisy laterCharacter => Sys2Proof.Machine.execLineHoldStart noisy laterCharacter s
  | .lineHoldEnd => Sys2Proof.Machine.execLineHoldEnd s
  | .pauseTimerExpiry => Sys2Proof.Machine.execPauseTimerExpiry s
  | .request source rid kindAndRider packClass returnClass eta attempt => Sys2Proof.Machine.execRequest source rid kindAndRider packClass returnClass eta attempt s
  | .offer source contest rid slot score minutes soc packId => Sys2Proof.Machine.execOffer source contest rid slot score minutes soc packId s
  | .assign rid chosen slot => Sys2Proof.Machine.execAssign rid chosen slot s
  | .assignOther rid chosen slot => Sys2Proof.Machine.execAssignOther rid chosen slot s
  | .update rid eta => Sys2Proof.Machine.execUpdate rid eta s
  | .beginSwap target rid => Sys2Proof.Machine.execBeginSwap target rid s
  | .cancel rid => Sys2Proof.Machine.execCancel rid s
  | .demand source wanted urgent grant ready0 ready1 ready2 ready3 empty stateCode => Sys2Proof.Machine.execDemand source wanted urgent grant ready0 ready1 ready2 ready3 empty stateCode s
  | .meter load total => Sys2Proof.Machine.execMeter load total s
  | .querySummary source index => Sys2Proof.Machine.execQuerySummary source index s
  | .querySlot source index => Sys2Proof.Machine.execQuerySlot source index s
  | .queryBook source index => Sys2Proof.Machine.execQueryBook source index s
  | .queryCounters source index => Sys2Proof.Machine.execQueryCounters source index s
  | .queryPeer source index => Sys2Proof.Machine.execQueryPeer source index s
  | .queryInvalid source item index => Sys2Proof.Machine.execQueryInvalid source item index s
  | .returnTimerExpiry => Sys2Proof.Machine.execReturnTimerExpiry s
  | .checkTimerExpiry => Sys2Proof.Machine.execCheckTimerExpiry s
  | .removalTimerExpiry => Sys2Proof.Machine.execRemovalTimerExpiry s
  | .waitTimerExpiry => Sys2Proof.Machine.execWaitTimerExpiry s
  | .collectTimerExpiry => Sys2Proof.Machine.execCollectTimerExpiry s
  | .malformedFrameEnd noisy => Sys2Proof.Machine.execMalformedFrameEnd noisy s

end Sys2Proof.Machine
end

