-- ==== Sys2Proof/Safety.lean ====
section
/-! DEFINITION. What a sound state of the part is, in the terms the claims use: properties that every step keeps. -/

namespace Sys2Proof

open Sys2Proof.Machine

/-! ### Charging (R90) -/

/-- A slot whose charger must not be driven: its cut is tripped, it is being released, or no pack is OCCUPIED there
(R90, R93). -/
def mustNotCharge (sl : Slot) : Bool :=
  sl.cut || decide (sl.role = .releasing) || decide (sl.cond ≠ .occupied)

/-- No charging anywhere: the line pause runs, or the station state is not ACTIVE or WITHDRAWN (R90, R92). -/
def chargingStopped (s : State) : Bool :=
  s.lif.linePause || !(decide (s.sul.state = .active) || decide (s.sul.state = .withdrawn))

/-- The setpoints R90 demands to be 0 are 0. -/
abbrev SetpointsSafe (s : State) : Prop :=
  ∀ sl ∈ s.slots, (mustNotCharge sl = true ∨ chargingStopped s = true) → sl.setpoint = 0

/-! ### Latches (R158) -/

/-- At most one slot latch is UNLOCKED (R158). -/
abbrev OneLatch (s : State) : Prop :=
  (s.slots.filter (fun sl => sl.unlocked)).length ≤ 1

/-- The slot that the active swap's step holds open: the dock in RETURN_OPEN, RETURN_CHECK, REJECT_OUT and GIVE_BACK,
the release slot in RELEASE_OPEN (R158). -/
def openSlot : Option Swap → Option Nat
  | none => none
  | some w =>
    match w.step with
    | .returnOpen | .returnCheck | .rejectOut | .giveBack => w.dock
    | .releaseOpen => some w.release
    | .startingWait | .releaseWait => none

/-- An UNLOCKED latch is the one that the active swap's step holds open; a swap past its beginning, or resumed, knows its
dock (R158, R174). -/
abbrev LatchesFollowSwap (s : State) : Prop :=
  (∀ x ∈ s.slots.zipIdx, x.1.unlocked = true → openSlot s.seq.active = some x.2) ∧
    (∀ w ∈ s.seq.active, (w.step ≠ .startingWait ∨ w.resume.isSome = true) → w.dock.isSome = true)

/-! ### Capacities (the Holds column of 00_scope.md, "Blocks") -/

/-- No structure holds more than its places: 2 received frames, 4 queued frames with at most one DEMAND, 2 queued swaps,
16 book entries, 8 hold record places, 16 clamp records, 8 slots, 32 counters (R1, R36, R38, R110, R145, R169, R178,
R185). -/
abbrev WithinCapacity (s : State) : Prop :=
  s.lif.rxBuf.length ≤ 2 ∧ s.lif.queue.length ≤ 4 ∧
    s.lif.queue.countP (fun e => decide (e.frame.kind = .demand)) ≤ 1 ∧ s.seq.queue.length ≤ 2 ∧
    s.ofe.book.length ≤ 16 ∧ s.rhs.holds.length = 8 ∧ s.sul.clamps.length ≤ 16 ∧ s.slots.length ≤ 8 ∧
    s.counters.length = 32

/-- Once LIF runs, the Peer Table holds an entry for every station number but the own, and none for the own (R61). -/
abbrev PeerPlaces (s : State) : Prop :=
  s.alw.peers.length = 16 ∧
    (lifRuns s = true → ∀ x ∈ s.alw.peers.zipIdx, (x.1 = none ↔ x.2 = s.sul.station.toNat))

/-! ### The transmit queue (R38) -/

/-- The order of two queue entries: contest value, then enqueue order (R38). -/
abbrev txBefore (a b : TxEntry) : Prop :=
  a.frame.contest < b.frame.contest ∨ (a.frame.contest = b.frame.contest ∧ a.order < b.order)

/-- The queue stands in its order, every entry is older than the next to be enqueued, and a DEMAND has its contest value
(R38, R47). -/
abbrev QueueInOrder (s : State) : Prop :=
  s.lif.queue.Pairwise txBefore ∧ (∀ e ∈ s.lif.queue, e.order < s.lif.nextOrder) ∧
    (∀ e ∈ s.lif.queue, e.frame.kind = .demand → e.frame.contest = 0x40#8)

/-! ### Request ids (R110, R169) -/

/-- No two book entries and no two hold records have the same request id; the store is not relied on when its marker is
invalid and the core is off (R110, R169, R171). -/
abbrev RequestIdsUnique (s : State) : Prop :=
  (s.ofe.book.map (fun e => e.rid)).Nodup ∧
    ((s.rhs.valid = true ∨ s.core = true) → ((s.rhs.holds.filterMap id).map (fun r => r.rid)).Nodup)

/-! ### The end of a frame (R30, R35 to R37) -/

/-- A frame may end here with nothing left of an earlier one: LIF receives, no loss report waits and the receive buffer is
empty (R25, R35, R37). -/
abbrev FrameMayEnd (s : State) : Prop := receiving s = true ∧ s.lif.lossPending = false ∧ s.lif.rxBuf = []

/-- LIF as a frame's end leaves it: in SPACE with a recessive count of 0 (R30). -/
abbrev atFrameEnd (l : Lif) : Lif := { l with cond := .space, recessive := 0, malformed := false }

/-! ### What a planning pass writes (R79 to R89) -/

/-- The cap and the tier of a slot of a snapshot: P_max, halved and rounded down to 50 W in a warm pack; none for a slot that
is no candidate, else tier C from the release threshold on, below it A for a promised slot and B for any other (R79 to
R81). -/
abbrev CapAndTier (cfg : Cfg) (x : SnapSlot) : Prop :=
  (x.cond ≠ .occupied → capOf cfg x = 0 ∧ tierOf cfg x = .none) ∧
    ∀ k, x.cond = .occupied → x.pack = some k →
      let f := cfg.figures k.cls
      let candidate : Prop := k.ok = true ∧ x.cut = false ∧ x.role ≠ .releasing ∧ k.soc < f.ceiling
      let promised : Prop := x.role = .held ∨ x.waiting = true
      capOf cfg x = (if (cfg.warmLimit : Int) ≤ k.temp then f.maxPower / 2 / 50 * 50 else f.maxPower) ∧
      (¬ candidate → tierOf cfg x = .none) ∧ (candidate → f.release ≤ k.soc → tierOf cfg x = .c) ∧
      (candidate → k.soc < f.release → (promised → tierOf cfg x = .a) ∧ (¬ promised → tierOf cfg x = .b))

/-- Of two tier A slots, the one that is walked first: RELEASE_WAIT, then the deadline, the rider class, the slot number
(R82; log 10). -/
abbrev AheadInA (x y : Numbered) : Prop :=
  (x.1.waiting = true ∧ y.1.waiting = false) ∨ (x.1.waiting = y.1.waiting ∧
    (deadlineKey x < deadlineKey y ∨ (deadlineKey x = deadlineKey y ∧
      (riderKey x < riderKey y ∨ (riderKey x = riderKey y ∧ x.2 < y.2)))))

/-- Of two tier B slots, the one that is walked first: the higher SoC, then the lower slot number (R83). -/
abbrev AheadInB (x y : Numbered) : Prop := socKey y < socKey x ∨ (socKey x = socKey y ∧ x.2 < y.2)

/-- The walk of the fill: the slots of tier A, of tier B and of tier C, each in its order, with their caps (R82, R83,
R85). -/
abbrev WalkFollowsTheTiers (cfg : Cfg) (sn : Snapshot) : Prop :=
  ∃ a b c : List Numbered, walkOf cfg sn = (a ++ b ++ c).map (fun x => (x.2, capOf cfg x.1)) ∧
    (∀ x, x ∈ a ↔ sn.slots[x.2]? = some x.1 ∧ tierOf cfg x.1 = .a) ∧ a.Pairwise AheadInA ∧
    (∀ x, x ∈ b ↔ sn.slots[x.2]? = some x.1 ∧ tierOf cfg x.1 = .b) ∧ b.Pairwise AheadInB ∧
    (∀ x, x ∈ c ↔ sn.slots[x.2]? = some x.1 ∧ tierOf cfg x.1 = .c) ∧ c.Pairwise (fun x y => x.2 < y.2)

/-- A plan fills from `r` along a walk of slot numbers with caps: each slot is planned at the smaller of what the slots
before it leave and its cap, or at 0 where that is below P_min; a slot that is not walked is planned at 0 (R85). -/
abbrev FillsFrom (minPower : Nat) (walk plan : List (Nat × Nat)) (r : Nat) : Prop :=
  (∀ k n cap, walk[k]? = some (n, cap) →
    let amount := min (r - ((walk.take k).map (fun x => planned plan x.1)).sum) cap
    planned plan n = if amount < minPower then 0 else amount) ∧
    ∀ n, (∀ x ∈ walk, x.1 ≠ n) → planned plan n = 0

/-- The plan of a snapshot: the fill of its G, or 0 for every slot where its state or pause forbids charging; where the end
G is below the plan's sum, the walk is filled again from the end G, and else the plan stands (R85, R86, R88). -/
abbrev PlanFillsTheGrant (cfg : Cfg) (sn : Snapshot) (endGrant : Nat) : Prop :=
  let charges : Prop := sn.pause = false ∧ (sn.station = .active ∨ sn.station = .withdrawn)
  let sum := ((walkOf cfg sn).map (fun x => planned (planOf cfg sn) x.1)).sum
  (charges → FillsFrom cfg.minPower (walkOf cfg sn) (planOf cfg sn) sn.grant) ∧
    (¬ charges → ∀ n, planned (planOf cfg sn) n = 0) ∧
    (endGrant < sum → FillsFrom cfg.minPower (walkOf cfg sn) (limitPlan cfg sn endGrant) endGrant) ∧
    (sum ≤ endGrant → ∀ n, planned (limitPlan cfg sn endGrant) n = planned (planOf cfg sn) n)

/-- What the end of a pass, in the event from `s` to `t`, writes into every slot: cap and tier of the snapshot `sn`, the ready
estimate in step, and the planned setpoint under the G that now holds, or 0 where charging is forbidden now, the cut is
tripped, the role RELEASING, no pack OCCUPIED, or the pack another than the snapshot's (R89 to R91; log 47). -/
abbrev PlanWritten (s t : State) (sn : Snapshot) : Prop :=
  ∀ n sl, s.slots[n]? = some sl →
    let x := sn.slots[n]?
    let charges : Prop := s.lif.linePause = false ∧ (s.sul.state = .active ∨ s.sul.state = .withdrawn)
    let zeroed : Prop := ¬ charges ∨ sl.cut = true ∨ sl.role = .releasing ∨ sl.cond ≠ .occupied ∨
      sl.pack.map (fun p => p.id) ≠ (x.bind (fun y => y.pack)).map (fun p => p.id)
    ∃ y, t.slots[n]? = some y ∧ y.cap = (x.map (capOf s.sul.cfg)).getD 0 ∧
      y.tier = (x.map (tierOf s.sul.cfg)).getD .none ∧ y.ready = y.readyNow s.sul.cfg ∧
      (zeroed → y.setpoint = 0) ∧
      (¬ zeroed → y.setpoint = planned (limitPlan s.sul.cfg sn t.alw.grant) n)

/-! ### Where a swap comes to stand (R148 to R156, R159) -/

/-- A swap in RELEASE_OPEN on slot `n`, which stood as `x`: RELEASING, UNLOCKED, setpoint 0, focused, the collect timer
started, the pack id and the progress record written; `t` is the state after `s` (R156). -/
abbrev ReleaseOpened (s t : State) (w : Swap) (d n : Nat) (x : Slot) : Prop :=
  t.seq.active = some { w with
    step := .releaseOpen, release := n, resume := none
    released := if x.cond = .occupied then x.pack.map (fun p => p.id) else none } ∧
    t.seq.timer = some (.collect, s.sul.cfg.collectTimer * 1000) ∧ t.svy.focus = some n ∧
    t.rhs.progress = some ⟨w.rid, .releaseOpen, d, n, w.returned⟩ ∧ t.lif = s.lif ∧
    ∃ y, t.slots[n]? = some y ∧ y.role = .releasing ∧ y.rid = some w.rid ∧ y.unlocked = true ∧ y.setpoint = 0 ∧
      y.cond = x.cond ∧ y.pack = x.pack

/-- A swap in RELEASE_WAIT, its wait timer started at the rider class's maximum wait (R155). -/
abbrev ReleaseWaits (s t : State) (w : Swap) (d : Nat) (e : Entry) : Prop :=
  t.seq.active = some { w with step := .releaseWait, resume := none } ∧
    t.seq.timer = some (.wait, s.sul.cfg.maxWait e.rider * 60000) ∧
    t.rhs.progress = some ⟨w.rid, .releaseWait, d, w.release, w.returned⟩ ∧ t.lif = s.lif

/-- A swap in GIVE_BACK with its reason: the accepted return's slot `d` DOCK, UNLOCKED and focused, the removal timer at
60 s (R154). -/
abbrev GivesBack (s t : State) (w : Swap) (d : Nat) (r : AbortReason) : Prop :=
  t.seq.active = some { w with step := .giveBack, abort := some r, resume := none } ∧
    t.seq.timer = some (.removal, 60000) ∧ t.svy.focus = some d ∧
    t.rhs.progress = some ⟨w.rid, (if r = .releaseWaitExceeded then .giveBackWaitExceeded else .giveBackNoPack), d,
      w.release, w.returned⟩ ∧ t.lif = s.lif ∧
    ∃ y, t.slots[d]? = some y ∧ y.role = .dock ∧ y.rid = some w.rid ∧ y.unlocked = true

/-- A swap in REJECT_OUT: the dock `d` UNLOCKED and focused, the removal timer at 60 s (R150, R174). -/
abbrev RejectsOut (s t : State) (w : Swap) (d : Nat) : Prop :=
  t.seq.active = some { w with step := .rejectOut, resume := none } ∧ t.seq.timer = some (.removal, 60000) ∧
    t.svy.focus = some d ∧ t.rhs.progress = some ⟨w.rid, .rejectOut, d, w.release, w.returned⟩ ∧ t.lif = s.lif ∧
    ∃ y, t.slots[d]? = some y ∧ y.unlocked = true

/-- A swap has ended: its entry in the state `st`, its CLOSE produced and counted, SEQ idle, record and focus cleared; an
entry not HELD again has no hold record (R159). -/
abbrev SwapEnded (s t : State) (w : Swap) (o : Outcome) (abort : Option AbortReason) (st : EntryState) : Prop :=
  t.seq.active = none ∧ t.seq.timer = none ∧ t.rhs.progress = none ∧ t.svy.focus = none ∧
    (∃ e, t.entry? w.rid = some e ∧ e.state = st ∧
      (st = .held → e.deadline = some (inMinutes s.rhs.seconds s.sul.cfg.holdGrace))) ∧
    (st ≠ .held → ∀ h, some h ∈ t.rhs.holds → h.rid ≠ w.rid) ∧
    t.lif = (enqueue (closeFrame w.rid o abort w.released w.returned) s).lif ∧
    t.counters = (enqueue (closeFrame w.rid o abort w.released w.returned) (bumpClose o abort s)).counters

/-- A slot that is locked and belongs to no request. -/
abbrev LockedFree (t : State) (n : Nat) : Prop :=
  ∃ y, t.slots[n]? = some y ∧ y.unlocked = false ∧ y.role = .free ∧ y.rid = none

/-- GIVE_BACK with reason `r` has nothing to hand back, since the slot of the accepted return is no longer FREE or is EMPTY:
the swap ends in the entry event, no latch is opened, and the release slot, which stood as `x`, is FREE again if it was
HELD (R154, second case). -/
abbrev GiveBackEndsAtOnce (s t : State) (w : Swap) (r : AbortReason) (x : Slot) : Prop :=
  SwapEnded s t w .aborted (some r) .aborted ∧
    (∀ (n : Nat) (y : Slot), s.slots[n]? = some y → ∃ y' : Slot, t.slots[n]? = some y' ∧ y'.unlocked = y.unlocked) ∧
    (x.role = .held → ∃ z, t.slots[w.release]? = some z ∧ z.role = .free ∧ z.rid = none)

/-- Slot `n` is the substitute for a request of class `k` whose return was accepted into slot `d`: of the releasable FREE
slots the one with the lowest score, and of equal scores the lowest slot number (R153). -/
abbrev IsSubstitute (s : State) (k : PackClass) (d n : Nat) (x : Slot) : Prop :=
  s.slots[n]? = some x ∧ n ≠ d ∧ x.role = .free ∧ releasable s.sul.cfg k x = true ∧
    ∀ m y, s.slots[m]? = some y → m ≠ d → y.role = .free → releasable s.sul.cfg k y = true →
      substituteScore x < substituteScore y ∨ (substituteScore x = substituteScore y ∧ n ≤ m)

/-- No slot can stand in for the release slot (R153). -/
abbrev NoSubstitute (s : State) (k : PackClass) (d : Nat) : Prop :=
  ∀ m y, s.slots[m]? = some y → m ≠ d → y.role = .free → releasable s.sul.cfg k y = false

/-- GIVE_BACK is entered with reason `r`; the slot `d` of the accepted return stands as `ds`, the release slot as `x`: the
return is handed back, or the swap ends at once (R154). -/
abbrev GiveBackEntered (s t : State) (w : Swap) (d : Nat) (r : AbortReason) (ds x : Slot) : Prop :=
  (ds.role = .free → ds.cond ≠ .empty → GivesBack s t w d r) ∧
    ((ds.role ≠ .free ∨ ds.cond = .empty) → s.seq.queue = [] → GiveBackEndsAtOnce s t w r x)

/-- A substitution for the release slot, which stood as `x`: RELEASE_OPEN on the substitute, which is the entry's held slot,
or GIVE_BACK with reason NO_PACK when there is none; the slot of the accepted return stands as `ds` (R153). -/
abbrev Substituted (s t : State) (w : Swap) (e : Entry) (d : Nat) (ds x : Slot) : Prop :=
  (∀ n y, IsSubstitute s e.packClass d n y → ReleaseOpened s t w d n y ∧
    (∃ e', t.entry? w.rid = some e' ∧ e'.heldSlot = some n) ∧
    (x.role = .held → ∃ z, t.slots[w.release]? = some z ∧ z.role = .free ∧ z.rid = none)) ∧
    (NoSubstitute s e.packClass d → GiveBackEntered s t w d .noPack ds x)

/-- RELEASE_READY: the release slot, which stands as `x`, is judged; the slot of the accepted return stands as `ds` (R152). -/
abbrev ReleaseJudged (s t : State) (w : Swap) (e : Entry) (d : Nat) (ds x : Slot) : Prop :=
  (releasable s.sul.cfg e.packClass x = true → ReleaseOpened s t w d w.release x) ∧
    (releasable s.sul.cfg e.packClass x = false → sound s.sul.cfg e.packClass x = true →
      (0 < s.sul.cfg.maxWait e.rider → ReleaseWaits s t w d e) ∧
      (s.sul.cfg.maxWait e.rider = 0 → GiveBackEntered s t w d .releaseWaitExceeded ds x)) ∧
    (sound s.sul.cfg e.packClass x = false → Substituted s t w e d ds x)

/-! ### The dock and the serve queue (R145 to R147) -/

/-- Slot `d` is the one that RETURN_OPEN chooses from these records: the lowest-numbered EMPTY, FREE one (R147). -/
abbrev IsDock (slots : List Slot) (d : Nat) : Prop :=
  (∃ x, slots[d]? = some x ∧ x.cond = .empty ∧ x.role = .free) ∧
    ∀ m y, m < d → slots[m]? = some y → ¬ (y.cond = .empty ∧ y.role = .free)

/-- The swap `w` in RETURN_OPEN on dock `d` (DOCK, UNLOCKED and focused), the return timer started, the progress record
written; the Slot Table stood as `slots` (R147). -/
abbrev ReturnOpened (s t : State) (slots : List Slot) (w : Swap) (d : Nat) : Prop :=
  t.seq.active = some { w with step := .returnOpen, dock := some d, resume := none } ∧
    t.seq.timer = some (.ret, s.sul.cfg.returnTimer * 1000) ∧ t.svy.focus = some d ∧
    t.rhs.progress = some ⟨w.rid, .returnOpen, d, w.release, w.returned⟩ ∧
    t.slots = slots.modify d (fun x => { x with role := .dock, rid := some w.rid, unlocked := true })

/-- A request handed back before its return is opened, whose entry stood as `e`: HELD with a fresh deadline, in its slot,
without a serve position (R147). -/
abbrev HandedBack (s t : State) (e : Entry) : Prop :=
  ∃ e', t.entry? e.rid = some e' ∧ e'.state = .held ∧ e'.heldSlot = e.heldSlot ∧ e'.servePos = none ∧
    e'.deadline = some (inMinutes s.rhs.seconds s.sul.cfg.holdGrace)

/-- SEQ, idle as `q`, has looked at the serve queue in the event from `s` to `t`, in which the Slot Table came to stand as
`slots`. Outside ACTIVE, or with nothing queued, nothing starts. Else the oldest request becomes the active swap, in
STARTING_WAIT or in RETURN_OPEN, and the one behind it moves up; without a dock each queued request is handed back
(R143, R145 to R147). -/
abbrev QueueLookedAt (s t : State) (q : Seq) (slots : List Slot) : Prop :=
  ((t.sul.state ≠ .active ∨ q.queue = []) → t.seq = q ∧ t.slots = slots) ∧
    (∀ rid rest e n, t.sul.state = .active → q.queue = rid :: rest → s.entry? rid = some e →
      e.state = .serving → e.heldSlot = some n →
      let w : Swap := ⟨rid, .startingWait, none, n, none, none, none, none⟩
      (q.firstPassSeen = false → t.seq = { q with active := some w, queue := rest } ∧ t.slots = slots) ∧
      (∀ d, q.firstPassSeen = true → IsDock slots d → ReturnOpened s t slots w d ∧ t.seq.queue = rest) ∧
      ((q.firstPassSeen = false ∨ ∃ x ∈ slots, x.cond = .empty ∧ x.role = .free) →
        t.entry? rid = some { e with servePos := some .active } ∧
        ∀ next e2, rest.head? = some next → next ≠ rid → s.entry? next = some e2 → e2.state = .serving →
          t.entry? next = some { e2 with servePos := some .queued1 })) ∧
    (t.sul.state = .active → q.queue ≠ [] → q.firstPassSeen = true →
      (∀ x ∈ slots, ¬ (x.cond = .empty ∧ x.role = .free)) →
      t.seq = { q with queue := [], timer := none } ∧ t.slots = slots ∧ t.rhs.progress = none ∧
        ∀ rid ∈ q.queue, ∀ e, s.entry? rid = some e → HandedBack s t e)

/-! ### The configuration image (11.2, R178 to R180) -/

/-- The rows of 11.2 for the class whose first byte stands at `o`. -/
abbrev classRows (o : Nat) : List Field :=
  [⟨o, false, 10, 120, 1, none⟩, ⟨o + 1, false, 100, 200, 1, some 160⟩, ⟨o + 2, false, 120, 200, 1, some 180⟩,
    ⟨o + 3, false, 120, 200, 1, some 190⟩, ⟨o + 4, false, 10, 66, 1, none⟩, ⟨o + 5, false, 25, 100, 1, some 50⟩,
    ⟨o + 6, false, 0, 100, 1, some 70⟩]

/-- The table of 11.2 in offset order, the survey steps excepted: offset, two bytes or one, range, step and default. -/
abbrev imageRows : List Field :=
  [⟨0, false, 0, 7, 1, none⟩, ⟨1, false, 1, 8, 1, none⟩, ⟨2, false, 1, 16, 1, none⟩,
    ⟨11, false, 20, 200, 10, some 60⟩, ⟨12, true, 0, 5000, 1, some 500⟩] ++
  [14, 21, 28, 35].flatMap classRows ++
  [⟨42, false, 35, 55, 1, some 45⟩, ⟨43, false, 50, 70, 1, some 60⟩, ⟨44, false, 2, 20, 1, some 4⟩,
    ⟨45, true, 500, 20000, 1, none⟩, ⟨47, true, 0, 2000, 1, none⟩, ⟨49, true, 0, 20000, 1, none⟩,
    ⟨51, false, 0, 3, 1, some 1⟩, ⟨52, false, 0, 30, 1, some 10⟩, ⟨53, false, 0, 30, 1, some 20⟩,
    ⟨54, false, 2, 15, 1, some 5⟩, ⟨55, false, 30, 180, 1, some 90⟩, ⟨56, false, 30, 180, 1, some 60⟩]

/-- A byte of the image as a number. -/
abbrev byteAt (img : List Byte) (o : Nat) : Nat := (img.getD o 0).toNat

/-- A row's value as read, most significant byte first. -/
abbrev valueRead (img : List Byte) (r : Field) : Nat :=
  if r.wide then byteAt img r.offset * 256 + byteAt img (r.offset + 1) else byteAt img r.offset

/-- A row read as `raw` holds its all-ones value and has a default (R178). -/
abbrev TakesDefault (r : Field) (raw : Nat) : Prop := raw = (if r.wide then 0xFFFF else 0xFF) ∧ r.dflt.isSome = true

/-- A row read as `raw` is used as `used`, and corrected with `cause`: the default for the all-ones value, the bound for a
value outside the range, the step below a value off its step, else the value itself (R178). -/
abbrev BroughtIntoRange (r : Field) (raw used : Nat) (cause : Option ClampCause) : Prop :=
  (TakesDefault r raw → r.dflt = some used ∧ cause = none) ∧
    (¬ TakesDefault r raw →
      (raw < r.lo → used = r.lo ∧ cause = some .raised) ∧ (r.hi < raw → used = r.hi ∧ cause = some .lowered) ∧
      (r.lo ≤ raw → raw ≤ r.hi →
        (raw % r.step ≠ 0 → used = raw - raw % r.step ∧ cause = some .rounded) ∧
        (raw % r.step = 0 → used = raw ∧ cause = none)))

/-- The missing fitted slots are appended to a survey list one after another, with the records this makes and the list that
results: beyond 16 steps the last step whose slot another step names as well is removed first (R180). -/
def AppendsMissing : List Nat → List Nat → List Clamp → List Nat → Prop
  | [], list, records, result => records = [] ∧ result = list
  | n :: missing, list, records, result =>
    let appended : Clamp := ⟨3, .stepAppended, none, some n⟩
    (list.length < 16 →
      ∃ rest, records = appended :: rest ∧ AppendsMissing missing (list ++ [n]) rest result) ∧
      (16 ≤ list.length → ∃ before r behind rest, list = before ++ r :: behind ∧ r ∈ before ++ behind ∧
        (∀ x ∈ behind, list.count x = 1) ∧ records = ⟨3, .stepRemoved, some r, none⟩ :: appended :: rest ∧
        AppendsMissing missing (before ++ behind ++ [n]) rest result)

/-- The figures of a class, whose first byte stands at `o`, from the values used: each in its own unit, the ceiling no lower
than T (11.2, R179). -/
abbrev FiguresFrom (used : Nat → Nat) (o : Nat) (f : ClassFigures) : Prop :=
  f.capacity = used o * 50 ∧ f.knee = used (o + 1) * 5 ∧ f.release = used (o + 2) * 5 ∧
    f.ceiling = max (used (o + 3)) (used (o + 2)) * 5 ∧ f.maxPower = used (o + 4) * 50 ∧ f.taper = used (o + 5) ∧
    f.minSoh = used (o + 6)

/-- An image is in force: its fields brought into range, the ceilings raised to T, unfitted steps dropped and missing slots
appended; the corrections make the clamp list, the first 16 of them, and the clamp count, all of them (R178 to R180; that
the records of the steps stand in this order is the model's reading, log 38). -/
abbrev ImageInForce (img : List Byte) (u : Sul) : Prop :=
  ∃ (used : Nat → Nat) (cause : Nat → Option ClampCause) (edits : List Clamp),
    (∀ r ∈ imageRows, BroughtIntoRange r (valueRead img r) (used r.offset) (cause r.offset)) ∧
    (let ranges : List Clamp := imageRows.filterMap (fun r =>
       (cause r.offset).map (fun c => ⟨r.offset, c, some (valueRead img r), some (used r.offset)⟩))
     let ceilings : List Clamp := [17, 24, 31, 38].filterMap (fun o =>
       if used o < used (o - 1) then some ⟨o, .ceilingRaised, some (used o), some (used (o - 1))⟩ else none)
     let steps : List Nat := (List.range (used 2)).map (fun i =>
       if i % 2 = 0 then byteAt img (3 + i / 2) / 16 else byteAt img (3 + i / 2) % 16)
     let kept := steps.filter (fun n => decide (n < used 1))
     let dropped : List Clamp := (steps.filter (fun n => decide (used 1 ≤ n))).map
       (fun n => ⟨3, .stepDropped, some n, none⟩)
     let all := ranges ++ ceilings ++ dropped ++ edits
     AppendsMissing ((List.range (used 1)).filter (fun n => decide (n ∉ kept))) kept edits u.cfg.steps ∧
       u.clamps = all.take 16 ∧ u.clampCount = all.length) ∧
    FiguresFrom used 14 u.cfg.class0 ∧ FiguresFrom used 21 u.cfg.class1 ∧ FiguresFrom used 28 u.cfg.class2 ∧
    FiguresFrom used 35 u.cfg.class3 ∧
    u.cfg.group = used 0 ∧ u.cfg.fitted = used 1 ∧ u.cfg.window = used 11 ∧ u.cfg.passGap = used 12 ∧
    u.cfg.warmLimit = used 42 ∧ u.cfg.hotLimit = used 43 ∧ u.cfg.minPower = used 44 * 50 ∧
    u.cfg.contract = used 45 * 10 ∧ u.cfg.margin = used 47 * 10 ∧ u.cfg.fallback = used 49 * 10 ∧
    u.cfg.reserveFloor = used 51 ∧ u.cfg.maxWaitStandard = used 52 ∧ u.cfg.maxWaitFleet = used 53 ∧
    u.cfg.holdGrace = used 54 ∧ u.cfg.returnTimer = used 55 ∧ u.cfg.collectTimer = used 56

/-! ### What a request asks of a slot (R100, R104, R106, R109) -/

/-- The prospective power of slot `n` with pack `p`: the smaller of its evaluation cap and its share of G among itself and
the other slots in tier A, rounded down to 50 W, or 0 below P_min (R99, R100). -/
abbrev PowerShared (cfg : Cfg) (grant : Nat) (slots : List SlotView) (n : Nat) (p : Pack) (power : Nat) : Prop :=
  let h := (slots.zipIdx.filter (fun x => decide (x.2 ≠ n) && decide (x.1.tier = .a))).length
  let most := (cfg.figures p.cls).maxPower
  let cap := if (cfg.warmLimit : Int) ≤ p.temp then most / 2 / 50 * 50 else most
  let share := min cap (grant / (h + 1)) / 50 * 50
  (share < cfg.minPower → power = 0) ∧ (cfg.minPower ≤ share → power = share)

/-- A pack would be ready in time for a rider: R_prosp at most 1022, and the wait after the ETA at most the maximum wait of
the rider class (R106, R109). -/
abbrev ReadyInTime (cfg : Cfg) (minutes eta : Nat) (rider : RiderClass) : Prop :=
  minutes ≤ 1022 ∧ (rider = .standard → minutes - eta ≤ cfg.maxWaitStandard) ∧
    (rider = .fleet → minutes - eta ≤ cfg.maxWaitFleet)

/-- A slot of the view is eligible for the request of the view (R106). -/
abbrev Eligible (cfg : Cfg) (v : EvalView) (n : Nat) (sv : SlotView) : Prop :=
  ∃ p, sv.pack = some p ∧ sv.cond = .occupied ∧ p.ok = true ∧ sv.cut = false ∧ sv.role = .free ∧
    p.cls = v.packClass ∧ (cfg.figures v.packClass).minSoh ≤ p.soh ∧
    ReadyInTime cfg (prospectiveReady cfg v.grant v.slots n p) v.eta v.rider

/-- The pledged slot of an entry passes the re-check against the live Slot Table (R109). -/
abbrev PassesRecheck (e : Entry) (o : OwnOffer) (s : State) : Prop :=
  ∃ sl p, s.slots[o.slot]? = some sl ∧ sl.pack = some p ∧ sl.cond = .occupied ∧ p.ok = true ∧ sl.cut = false ∧
    sl.role = .pledged ∧ sl.rid = some e.rid ∧ p.id = o.packId ∧ p.cls = e.packClass ∧
    (s.sul.cfg.figures e.packClass).minSoh ≤ p.soh ∧
    ((s.sul.state = .active ∨ s.sul.state = .withdrawn) →
      ReadyInTime s.sul.cfg (prospectiveReady s.sul.cfg s.alw.grant s.views o.slot p) e.eta e.rider)

/-- A slot whose pack of class `k` could be released now: the definition behind the ready counts (R58). -/
abbrev ReadyForRelease (cfg : Cfg) (k : PackClass) (sv : SlotView) : Bool :=
  sv.pack.any (fun p => decide (sv.cond = .occupied ∧ sv.role = .free ∧ p.ok = true ∧ sv.cut = false ∧ p.cls = k ∧
    (cfg.figures k).release ≤ p.soc))

/-- A request whose offer carries the reserve penalty: a reservation of a standard rider with an ETA above 0, of whose class
the releasable FREE packs less 1 are fewer than the reserve floor (R58, R104). -/
abbrev TakesReserve (cfg : Cfg) (v : EvalView) : Prop :=
  v.kind = .reservation ∧ v.rider = .standard ∧ 0 < v.eta ∧
    (v.slots.filter (ReadyForRelease cfg v.packClass)).length < cfg.reserveFloor + 1

/-! ### What a STATUS carries (12.2) -/

/-- A two-byte field, most significant byte first. -/
abbrev twoBytes (n : Nat) : List Byte := [BitVec.ofNat 8 (n / 256), BitVec.ofNat 8 n]

/-- A four-byte field, most significant byte first. -/
abbrev fourBytes (n : Nat) : List Byte := twoBytes (n / 65536) ++ twoBytes n

/-- An optional one-byte field that carries 0xFF when absent. -/
abbrev orAllOnes (o : Option Nat) : Byte := BitVec.ofNat 8 (o.getD 0xFF)

/-- Flags, bit 0 first. -/
abbrev flagsByte (bits : List Bool) : Byte := BitVec.ofNat 8 (bits.foldr (fun b n => 2 * n + b.toNat) 0)

/-- A field coded from 0 in the order listed. -/
abbrev codeIn {α : Type} [BEq α] (order : List α) (x : α) : Byte := BitVec.ofNat 8 (order.idxOf x)

/-- The data of a DEMAND in state `s` that announces `wanted` and `urgent`: both with G in W, the ready counts, 0 in WITHDRAWN,
the empty slots, the station state (R58, R70). -/
abbrev demandBytes (wanted urgent : Nat) (s : State) : List Byte :=
  let ready (k : PackClass) : Byte := if s.sul.state = .withdrawn then 0 else
    BitVec.ofNat 8 (s.views.filter (ReadyForRelease s.sul.cfg k)).length
  twoBytes wanted ++ twoBytes urgent ++ twoBytes s.alw.grant ++ [ready 0, ready 1, ready 2, ready 3,
    BitVec.ofNat 8 (s.slots.filter (fun sl => decide (sl.cond = .empty ∧ sl.role = .free))).length,
    codeIn [StationState.starting, .joining, .active, .withdrawn, .holdup, .haltedConfig] s.sul.state]

/-- The data of a CLOSE: the outcome, the marks of the ids present with the abort reason, the two ids (R57; bits 5 and 4 of the
reason byte, log 41). -/
abbrev closeBytes (rid : ReqId) (o : Outcome) (abort : Option AbortReason) (released returned : Option Word) : List Byte :=
  let id (x : Option Word) : List Byte := fourBytes ((x.map (fun w => w.toNat)).getD 0)
  ridBytes rid ++ [codeIn [Outcome.done, .lapsed, .uncollected, .aborted] o,
    BitVec.ofNat 8 (128 * released.isSome.toNat + 64 * returned.isSome.toNat) ||| codeIn [none,
      some AbortReason.cancelled, some .returnTimeout, some .returnRejected, some .noPack, some .releaseWaitExceeded]
      abort] ++ id released ++ id returned

/-- The pack that the twelve record bytes of a reply give, its fields clamped (1.3, R9, R11). -/
abbrev PackRead (chars : List Byte) (p : Pack) : Prop :=
  let b (i : Nat) : Nat := (chars.getD i 0).toNat
  p.id.toNat = ((b 0 * 256 + b 1) * 256 + b 2) * 256 + b 3 ∧ p.cls.val = b 4 ∧ p.soc = min 1000 (b 5 * 256 + b 6) ∧
    p.soh = min 100 (b 7) ∧ p.temp = max (-40) (min 100 (chars.getD 8 0).toInt) ∧
    p.cycles.toNat = b 9 * 256 + b 10 ∧ (p.ok = true ↔ b 11 = 0)

/-- SUMMARY 0 (R58, 12.2; bits 4 to 7 of the supply flags, log 41). -/
abbrev summaryBytes (s : State) : List Byte :=
  [codeIn [StationState.starting, .joining, .active, .withdrawn, .holdup, .haltedConfig] s.sul.state,
    flagsByte [s.sul.mainsGood, s.rhs.valid, s.lif.linePause, s.sul.joiningTimer.isSome],
    orAllOnes (s.sul.halt.map (fun c => [HaltCause.noResponse, .badCrc, .noFittedSlot].idxOf c)),
    codeIn [LineCond.idle, .frame, .space, .hold] s.lif.cond] ++
  twoBytes s.alw.grant ++ twoBytes (s.alw.allowance / 10) ++ twoBytes s.pln.wanted ++ twoBytes s.pln.urgent ++
  [BitVec.ofNat 8 s.ofe.book.length,
    BitVec.ofNat 8 (s.ofe.book.filter (fun e =>
      [EntryState.heard, .evaluating, .contending, .offered, .held, .serving].contains e.state)).length,
    BitVec.ofNat 8 s.seq.queue.length,
    codeIn [none, some SwapStep.startingWait, some .returnOpen, some .returnCheck, some .rejectOut,
      some .releaseWait, some .releaseOpen, some .giveBack] (s.seq.active.map (fun w => w.step)),
    BitVec.ofNat 8 s.lif.clashFlag.toNat] ++
  twoBytes s.sul.clampCount

/-- SUMMARY 1 (12.2). -/
abbrev meterBytes (s : State) : List Byte :=
  twoBytes (s.alw.meter.load / 10) ++ twoBytes (s.alw.meter.total / 10) ++ [BitVec.ofNat 8 s.alw.meter.fresh.toNat] ++
    twoBytes (min 65535 (s.rhs.seconds - s.alw.meter.takenAt).toNat) ++ fourBytes s.rhs.seconds.toNat

/-- A clamp record (12.2; a value read that is absent, log 22). -/
abbrev clampBytes (c : Clamp) : List Byte :=
  [BitVec.ofNat 8 c.offset, codeIn [ClampCause.raised, .lowered, .rounded, .ceilingRaised, .stepDropped, .stepAppended,
    .stepRemoved] c.cause] ++ twoBytes (c.read.getD 0) ++ twoBytes (c.used.getD 0xFFFF)

/-- SLOT: the pack fields 0 without a record, the request id 0 when the role is FREE (R184, 12.2; bits 6 and 7 of the slot
flags, log 41). -/
abbrev slotBytes (now : Word) (sl : Slot) : List Byte :=
  let field (f : Pack → Nat) : Nat := (sl.pack.map f).getD 0
  [codeIn [Cond.empty, .settling, .occupied, .unreadable, .fault] sl.cond,
    codeIn [none, some FaultReason.packFault, some .tamper, some .unreadableTimeout, some .rejectAbandoned] sl.reason,
    flagsByte [sl.present, sl.cut, sl.unlocked, sl.pack.isSome] ||| BitVec.ofNat 8 (16 * field (fun p => p.cls.val)),
    codeIn [Role.free, .pledged, .held, .dock, .releasing] sl.role, codeIn [Tier.none, .a, .b, .c] sl.tier] ++
  (if sl.role = .free then [0, 0] else (sl.rid.map ridBytes).getD [0, 0]) ++
  [BitVec.ofNat 8 (sl.setpoint / 50)] ++ twoBytes sl.ready ++ fourBytes (field (fun p => p.id.toNat)) ++
  twoBytes (field (fun p => p.soc)) ++
  [BitVec.ofNat 8 (field (fun p => p.soh)), (sl.pack.map (fun p => BitVec.ofInt 8 p.temp)).getD 0] ++
  twoBytes (field (fun p => p.cycles.toNat)) ++
  twoBytes (field (fun _ => min 65535 (now - sl.goodAt).toNat))

/-- BOOK: the deadline of a HELD or SERVING entry, the linger start of a terminal one (R51, R184, 12.2; the six upper bits
of the kind and rider class byte, log 41). -/
abbrev bookBytes (e : Entry) : List Byte :=
  let time : Option Word :=
    if e.state = .held ∨ e.state = .serving then e.deadline
    else if e.state = .heard ∨ e.state = .evaluating ∨ e.state = .contending ∨ e.state = .offered then none
    else e.linger
  ridBytes e.rid ++
  [codeIn [EntryState.heard, .evaluating, .contending, .offered, .held, .serving, .satOut, .beaten, .elsewhere,
      .unassigned, .done, .lapsed, .cancelled, .aborted] e.state,
    flagsByte [e.kind == .reservation, e.rider == .fleet],
    BitVec.ofNat 8 (16 * e.packClass.val + e.returnClass.val), BitVec.ofNat 8 e.eta, e.attempt,
    codeIn [none, some SatOutCause.noCandidate, some .late, some .lost] e.satOut, orAllOnes e.heldSlot] ++
  fourBytes (time.map (fun w => w.toNat) |>.getD 0) ++
  [codeIn [none, some ServePos.active, some .queued1, some .queued2] e.servePos,
    orAllOnes (e.winner.map (fun w => w.station.toNat)), orAllOnes (e.winner.bind (fun w => w.score)),
    orAllOnes (e.offer.map (fun o => o.slot)), orAllOnes (e.offer.map (fun o => o.score))] ++
  fourBytes ((e.returnedId.map (fun w => w.toNat)).getD 0)

/-- PEER (12.2; the age of a peer never heard, log 22). -/
abbrev peerBytes (now : Word) (p : Peer) : List Byte :=
  [codeIn [PeerState.absent, .present, .stale] p.state] ++ twoBytes p.wanted ++ twoBytes p.urgent ++
    twoBytes (min 65535 (now - p.lastHeard).toNat) ++ [p.ready0, p.ready1, p.ready2, p.ready3, p.empty]

/-! ### What begins at once (R7, R77, R115) -/

/-- While the part is at work, no planning pass, no evaluation and no focus step of the pass gap is due that has not begun
(R7, R77, R115). -/
abbrev NothingDue (s : State) : Prop :=
  operates s = true →
    (s.pln.replan = true → s.pln.pass.isSome = true) ∧
      (s.ofe.evaluation = none → ∀ e ∈ s.ofe.book, e.state ≠ .heard) ∧
      (s.svy.step = none → s.svy.focus.isSome = true → ∀ ms, s.svy.gap ≠ .running ms)

end Sys2Proof
end

