-- ==== Sys2Proof/Certificates/Slice0/Obligations.lean ====
section
/-! DEFINITION. The statements for the provers. Where one says that `exec` answers `settle u`, the command has made `u` of
the state, and what is due then begins in the same event; SettleBeginsWhatIsDue says what that is. -/

open Sys2Proof Sys2Proof.Machine

/-! ### The machine -/

/-- A step takes the command at the front of the queue and is that command's exec with the queue's rest; on an empty queue
the block idles (the model's choice, log 4). -/
def Obligations.StepRunsFrontCommand : Prop :=
  (∀ (c : Instr) (rest : List Instr) (s : State), s.pending = c :: rest →
    step s = exec c { s with pending := rest }) ∧
  ∀ s : State, s.pending = [] → step s = .next s

/-- Every command answers a next state, whatever its operands and the state: no command faults or is refused, the model's
reading of a manual that stops none (log 39). -/
def Obligations.NoCommandStops : Prop := ∀ (c : Instr) (s : State), ∃ t, exec c s = .next t

/-- A command leaves the queue of waiting commands as it is. -/
def Obligations.CommandsLeaveTheQueue : Prop :=
  ∀ (c : Instr) (s t : State), exec c s = .next t → t.pending = s.pending

/-- What begins at the end of an event (R7, R77, R115; that it begins there, in the same event, is the model's reading, log
24): a planning pass with its snapshot, the evaluation of the HEARD entry nearest the head with its view, a focus step in
the pass gap; nothing else changes. -/
def Obligations.SettleBeginsWhatIsDue : Prop :=
  ∀ s : State,
    settle s = { s with pln := (settle s).pln, ofe := (settle s).ofe, svy := (settle s).svy } ∧
    (settle s).pln = (if operates s = true ∧ s.pln.replan = true ∧ s.pln.pass = none then
      { s.pln with replan := false, pass := some ⟨takeSnapshot s, 200 + 150 * s.slots.length⟩ } else s.pln) ∧
    (∀ e, operates s = true → s.ofe.evaluation = none → s.ofe.book.find? (fun e => decide (e.state = .heard)) = some e →
      (settle s).ofe.evaluation = some ⟨takeView e s, 250 * s.slots.length⟩ ∧
      (settle s).ofe.book =
        s.ofe.book.map (fun x => if x.rid = e.rid then { x with state := .evaluating } else x)) ∧
    ((operates s = false ∨ s.ofe.evaluation.isSome = true ∨ ∀ e ∈ s.ofe.book, e.state ≠ .heard) →
      (settle s).ofe = s.ofe) ∧
    (∀ f ms, operates s = true → s.svy.step = none → s.svy.gap = .running ms → s.svy.focus = some f →
      (settle s).svy = { s.svy with step := some ⟨f, .focus, (match s.slots[f]? with
        | some sl => decide (sl.cond ≠ .fault)
        | none => false), s.sul.cfg.window⟩ }) ∧
    ((operates s = false ∨ s.svy.step.isSome = true ∨ s.svy.focus = none ∨ s.svy.gap = .inPass ∨ s.svy.gap = .due) →
      (settle s).svy = s.svy)

/-! ### What every step keeps -/

/-- The state after reset meets each of the seven invariants: safe setpoints, latches that follow the swap, capacities, the
Peer Table's places, the transmit queue's order, unique request ids, and nothing due that has not begun. That the reset
state is the part with its reset pin held is the model's choice (log 3). -/
def Obligations.ResetMeetsTheInvariants : Prop :=
  SetpointsSafe State.reset ∧ LatchesFollowSwap State.reset ∧ WithinCapacity State.reset ∧ PeerPlaces State.reset ∧
    QueueInOrder State.reset ∧ RequestIdsUnique State.reset ∧ NothingDue State.reset

/-- No step drives a charger where R90 demands 0: a tripped cut, a RELEASING slot, a slot without an OCCUPIED pack, the
line pause, and every station state but ACTIVE and WITHDRAWN. -/
def Obligations.SetpointsStaySafe : Prop :=
  ∀ s t : State, SetpointsSafe s → step s = .next t → SetpointsSafe t

/-- Every UNLOCKED latch is the one the active swap's step holds open, in every step. -/
def Obligations.LatchesStayWithTheSwap : Prop :=
  ∀ s t : State, LatchesFollowSwap s → step s = .next t → LatchesFollowSwap t

/-- With the latches following the swap, at most one is UNLOCKED (R158). -/
def Obligations.AtMostOneLatchOpen : Prop := ∀ s : State, LatchesFollowSwap s → OneLatch s

/-- No step makes a structure hold more than its places, and the Peer Table keeps exactly its fifteen entries, none for the
own number. -/
def Obligations.CapacitiesStayWithin : Prop :=
  (∀ s t : State, WithinCapacity s → step s = .next t → WithinCapacity t) ∧
    ∀ s t : State, PeerPlaces s → step s = .next t → PeerPlaces t

/-- The transmit queue stays ordered by contest value, then enqueue order, in every step. -/
def Obligations.TransmitQueueStaysInOrder : Prop :=
  ∀ s t : State, QueueInOrder s → step s = .next t → QueueInOrder t

/-- No step makes two book entries, or two hold records, of one request id. -/
def Obligations.RequestIdsStayUnique : Prop :=
  ∀ s t : State, RequestIdsUnique s → step s = .next t → RequestIdsUnique t

/-- After every step nothing is due that has not begun: no planning pass, no evaluation, no focus step of the gap. That each
begins at the end of the event that makes it due is the model's reading (log 24). -/
def Obligations.NothingDueWaits : Prop := ∀ s t : State, NothingDue s → step s = .next t → NothingDue t

/-! ### Whole-machine rules -/

/-- No command but a start, a core stop and the end of loading changes the configuration in force (R179). -/
def Obligations.ConfigurationStaysFixed : Prop :=
  ∀ (c : Instr) (s t : State), exec c s = .next t →
    (∀ straps clr, c ≠ .start straps clr) → c ≠ .coreStop → (∀ d h m, c ≠ .loadingEnd d h m) →
    t.sul.cfg = s.sul.cfg ∧ t.sul.station = s.sul.station ∧ t.sul.clamps = s.sul.clamps ∧
      t.sul.clampCount = s.sul.clampCount

/-- The retained-valid marker becomes invalid only when the retained cell fails, and valid only by a start, which always
leaves it valid (R171, R172); the seconds counter goes up by one at a tick, is 0 after a cold start and kept by a warm one,
and is otherwise moved only by a failing retained cell while the core is off. That a START with the core running does the
same is the model's choice (log 27). -/
def Obligations.RetainedMarkerAndCounterChangeOnlyByTheirRules : Prop :=
  ∀ (c : Instr) (s t : State), exec c s = .next t →
    (t.rhs.valid = false → s.rhs.valid = false ∨ c = .retainedCellFail) ∧
    (t.rhs.valid = true → s.rhs.valid = true ∨ ∃ straps clr, c = .start straps clr) ∧
    (c = .retainedCellFail → t.rhs.valid = false) ∧
    (∀ straps clr, c = .start straps clr → t.rhs.valid = true ∧
      t.rhs.seconds = if s.rhs.valid = true ∧ clr = false then s.rhs.seconds else 0) ∧
    (c = .secondsTick → t.rhs.seconds = s.rhs.seconds + 1) ∧
    ((∀ straps clr, c ≠ .start straps clr) → c ≠ .secondsTick → (c = .retainedCellFail → s.core = true) →
      t.rhs.seconds = s.rhs.seconds)

/-- No command but a start and a core stop decreases a counter (R185). -/
def Obligations.CountersNeverDecrease : Prop :=
  ∀ (c : Instr) (s t : State) (k : Counter), exec c s = .next t →
    (∀ straps clr, c ≠ .start straps clr) → c ≠ .coreStop →
    (s.count k).toNat ≤ (t.count k).toNat

/-- The commands that open no latch: with nothing held in the receive buffer, a slot whose latch is UNLOCKED after one of
these was UNLOCKED before it (R158). -/
def Obligations.OnlySwapCommandsOpenLatches : Prop :=
  ∀ (c : Instr) (s t : State), exec c s = .next t → s.lif.rxBuf = [] →
    (match c with
      | .planningPassEnd | .evaluationEnd | .demandTimerExpiry | .spacingTimerExpiry | .freshnessTimerExpiry
      | .secondsTick | .holdTimerExpiry | .pledgeTimerExpiry _ | .passGapExpiry | .doorOpen | .mainsGoodLow
      | .mainsGoodHigh | .retainedCellFail | .coreStop | .start _ _ | .loadingTimerExpiry | .framingError _
      | .truncated _ | .frameMalformedLength | .malformedFrameEnd _ | .startPoint | .arbitrationLoss
      | .transmissionComplete | .stationClash | .clashTimerExpiry | .stretchStart | .stretchLimit _
      | .lineHoldStart _ _ | .lineHoldEnd | .pauseTimerExpiry | .request .. | .offer .. | .assign .. | .assignOther ..
      | .update .. | .demand .. | .meter .. | .querySummary .. | .querySlot .. | .queryBook .. | .queryCounters ..
      | .queryPeer .. | .queryInvalid .. => True
      | _ => False) →
    ∀ (n : Nat) (sl : Slot), t.slots[n]? = some sl → sl.unlocked = true →
      ∃ sl' : Slot, s.slots[n]? = some sl' ∧ sl'.unlocked = true

/-! ### The line: frames (files 02 and 03) -/

/-- Reading back: the cells of every complete frame, whose length character gives its size, are read as its characters
(R22, R25). -/
def Obligations.SentCharactersAreReadBack : Prop :=
  ∀ chars : List Byte, 6 ≤ chars.length → (chars.getD 3 0).toNat ≤ 24 →
    chars.length = 6 + (chars.getD 3 0).toNat → readFrame ((onLine chars).map cellValue) = some chars

/-- Every frame this station sends with at most 24 data characters is complete and good, and is received with the contest
character, kind, source, target and data it was given (R27, R28, R49). -/
def Obligations.SentFramesAreGood : Prop :=
  ∀ (f : TxFrame) (source : BitVec 4), f.data.length ≤ 24 →
    readFrame ((onLine (f.chars source)).map cellValue) = some (f.chars source) ∧
    lineFrame (f.chars source) = ⟨f.contest, f.kind.code, source, f.target, f.data, true⟩ ∧
    Kind.ofCode f.kind.code = some f.kind

/-- A complete frame goes through the five steps of R28, in their order; a frame with noisy cells is counted as noisy
whatever becomes of it (R23). That noise in any cell given counts, the cells this station itself sent before among
them, is the model's reading after a loss (log 18) and its choice after a station clash (log 46). No loss report waits
here. A good frame goes behind a frame held, and the frames held are dispatched oldest first; with two held it is
discarded and counted as overrun (R36, R37). In SPACE no frame begins (R30): a complete run of cells there is the tail
of a frame that LIF cannot place, which counts as a CRC failure (R29), and changes nothing when its CRC happens to be
good (the model's reading of the two rules, log 12); that the noise of a tail counts is the model's choice (log 45). -/
def Obligations.CompleteFrameIsFiltered : Prop :=
  (∀ (cells : List Cell) (chars : List Byte) (s : State), readFrame (cells.map cellValue) = some chars →
    receiving s = true → s.lif.lossPending = false →
    let f := lineFrame chars
    let u : State := bumpIf (cells.any cellNoisy) .noisy { s with lif.cond := .space, lif.recessive := 0 }
    (f.crcGood = false → exec (.frameReceived cells) s = .next (settle (bump .crc u))) ∧
    (f.crcGood = true → targeted s f.target = false → exec (.frameReceived cells) s = .next (settle u)) ∧
    (f.crcGood = true → targeted s f.target = true → 12 ≤ f.kindCode.toNat →
      exec (.frameReceived cells) s = .next (settle (bump .unknownKind u))) ∧
    (∀ k, f.crcGood = true → targeted s f.target = true → Kind.ofCode f.kindCode = some k →
      (k.sizeFits f.data.length = false → exec (.frameReceived cells) s = .next (settle (bump .malformed u))) ∧
      (k.sizeFits f.data.length = true → 2 ≤ s.lif.rxBuf.length →
        exec (.frameReceived cells) s =
          .next (settle (dispatch s.lif.rxBuf.length (bump .overrun u)))) ∧
      (k.sizeFits f.data.length = true →
        let g : RxFrame := ⟨f.source, f.contest, f.target, message k f.data⟩
        (s.lif.rxBuf = [] → exec (.frameReceived cells) s = .next (settle (dropHead (takeFrame g
          { u with lif.rxBuf := [g], lif.mark := markOf g s.lif.mark })))) ∧
        (∀ h, s.lif.rxBuf = [h] → exec (.frameReceived cells) s = .next (settle (dispatch 2
          { u with lif.rxBuf := [h, g], lif.mark := markOf g s.lif.mark })))))) ∧
  (∀ (cells : List Cell) (chars : List Byte) (s : State), readFrame (cells.map cellValue) = some chars →
    listening s = true → s.lif.cond = .space → s.lif.lossPending = false →
    ((lineFrame chars).crcGood = true → exec (.frameReceived cells) s = .next s) ∧
    ((lineFrame chars).crcGood = false → exec (.frameReceived cells) s =
      .next (settle (bump .crc (bumpIf (cells.any cellNoisy) .noisy { s with lif := atFrameEnd s.lif })))))

/-- Errors of a received frame are counted whatever its target, also those of a tail read in SPACE, and take LIF to
SPACE; a length character above 24 is counted at once, and the frame is passed over to its end; in SPACE no frame
begins, so no length character is collected there (R23 to R26, R29, R30; log 12). The same counts are made when a loss
waits for its report, and a framing error of a frame this station sends is counted too, its noise never (R23, R33).
That the noise of a tail counts is the model's choice (log 45), and so it is that the noise given may come from cells
this station sent before a station clash (log 46); after a loss that is the model's reading (log 18). That a framing
error may end a malformed frame that is passed over is the model's choice too (log 44). -/
def Obligations.ReceptionErrorsAreCounted : Prop :=
  ∀ (noisy : Bool) (s : State),
    let u : State := { s with lif.cond := .space, lif.recessive := 0, lif.malformed := false }
    (s.lif.lossPending = false →
      (listening s = true →
        exec (.truncated noisy) s = .next (settle (bumpIf noisy .noisy (bump .truncated u))) ∧
        exec (.framingError noisy) s = .next (settle (bumpIf noisy .noisy (bump .framing u)))) ∧
      (lifRuns s = true → s.lif.malformed = true →
        exec (.malformedFrameEnd noisy) s = .next (settle (bumpIf noisy .noisy u)))) ∧
    (receiving s = true → exec .frameMalformedLength s =
        .next { bump .malformed s with lif.malformed := true, lif.cond := .frame }) ∧
    (s.lif.cond = .space → exec .frameMalformedLength s = .next s) ∧
    (listening s = true → ∃ t, exec (.truncated noisy) s = .next t ∧ t.lif.cond = .space ∧
      t.counters = (bumpIf noisy .noisy (bump .truncated s)).counters) ∧
    (lifRuns s = true → s.lif.cond ≠ .hold → s.lif.stretch = none →
      ∃ t, exec (.framingError noisy) s = .next t ∧ t.lif.cond = .space ∧ t.lif.tx = none ∧
        t.counters = (bumpIf (noisy && s.lif.tx.isNone) .noisy (bump .framing s)).counters) ∧
    (lifRuns s = true → s.lif.malformed = true →
      ∃ t, exec (.malformedFrameEnd noisy) s = .next t ∧ t.lif.cond = .space ∧
        t.counters = (bumpIf noisy .noisy s).counters)

/-- A start point that is no contest point starts the lower contest value of the queue's head and the register's OFFER, the
OFFER of equals; in JOINING and HALTED_CONFIG the register may not send (R27, R31, R32). -/
def Obligations.StartPointSendsTheLower : Prop :=
  ∀ s : State, lifRuns s = true → s.lif.tx = none → s.lif.stretch = none → s.lif.mark = none →
    (s.lif.cond = .idle ∨ s.lif.cond = .space) →
    let sends (o : TxOrigin) (f : TxFrame) : Prop :=
      exec .startPoint s = .next (settle { s with
        lif.cond := .frame, lif.recessive := 6, lif.tx := some ⟨o, f.chars s.sul.station⟩ })
    let mayOffer : Prop := s.sul.state = .active ∨ s.sul.state = .withdrawn ∨ s.sul.state = .holdup
    (∀ e rest, s.lif.queue = e :: rest → (s.lif.register = none ∨ ¬ mayOffer) → sends (.queue e.order) e.frame) ∧
    (∀ r, s.lif.queue = [] → s.lif.register = some r → mayOffer → sends .register r.frame) ∧
    (∀ e rest r, s.lif.queue = e :: rest → s.lif.register = some r → mayOffer →
      (e.frame.contest < r.frame.contest → sends (.queue e.order) e.frame) ∧
      (¬ e.frame.contest < r.frame.contest → sends .register r.frame)) ∧
    (s.lif.queue = [] → (s.lif.register = none ∨ ¬ mayOffer) →
      exec .startPoint s = .next (settle { s with lif.cond := .idle, lif.recessive := 6 }))

/-- At the contest point of a request only its own OFFER starts, and none when the REQUEST was malformed; the transmit queue
waits, and an entry still HEARD or EVALUATING becomes SAT_OUT with cause LATE (R32, R41, R50, R126). -/
def Obligations.ContestPointIsForItsOffer : Prop :=
  ∀ (s : State) (m : Mark), lifRuns s = true → s.lif.tx = none → s.lif.stretch = none → s.lif.mark = some m →
    (s.lif.cond = .idle ∨ s.lif.cond = .space) →
    ∃ t, exec .startPoint s = .next t ∧ t.lif.mark = none ∧ t.lif.queue = s.lif.queue ∧
      t.lif.register = s.lif.register ∧
      t.lif.tx = (match s.lif.register with
        | some r => if r.rid = m.rid ∧ m.barred = false ∧
            (s.sul.state = .active ∨ s.sul.state = .withdrawn ∨ s.sul.state = .holdup) then
              some ⟨.register, r.frame.chars s.sul.station⟩ else none
        | none => none) ∧
      (∀ e, s.entry? m.rid = some e → (e.state = .heard ∨ e.state = .evaluating) →
        ∃ e', t.entry? m.rid = some e' ∧ e'.state = .satOut ∧ e'.satOut = some .late ∧
          e'.linger = some s.rhs.seconds) ∧
      t = { s with lif := t.lif, pln := t.pln, ofe := t.ofe, svy := t.svy }

/-- What becomes of a queue frame in transmission: after a loss, a framing error or a cut it stays and takes figures
kept beside it; complete, it leaves, or with figures kept beside it becomes a DEMAND with the newest order; after a
clash it leaves and is not retried, the figures kept are offered to the queue as a new DEMAND, and the clash is counted
(R33, R39). A framing error is counted, and so is a cut after the frame's first character; noise in cells this station
sends never is (R23, R24, R33). That a cut in the first character counts nothing, as R24 has it, where R33's table
counts framing for every cut, and that in SPACE nothing counts, is the model's choice (log 14). -/
def Obligations.QueueFrameOutcomes : Prop :=
  ∀ (s : State) (o : Nat) (chars : List Byte), lifRuns s = true → s.lif.tx = some ⟨.queue o, chars⟩ →
    let stays : List TxEntry := s.lif.queue.map (fun e =>
      if e.order = o then { e with frame.data := e.kept.getD e.frame.data, kept := none } else e)
    let leaves : List TxEntry := s.lif.queue.filter (fun e => decide (e.order ≠ o))
    let clashed : State := bump .stationClash { s with
      lif.tx := none, lif.cond := .frame, lif.queue := leaves, lif.clashFlag := true, lif.clashTimer := some 60000 }
    exec .arbitrationLoss s = .next { s with lif.tx := none, lif.cond := .frame, lif.queue := stays } ∧
    (s.lif.cond ≠ .hold → s.lif.stretch = none → s.lif.lossPending = false → ∀ noisy,
      exec (.framingError noisy) s = .next (settle (bump .framing { s with
        lif.tx := none, lif.cond := .space, lif.recessive := 0, lif.malformed := false, lif.queue := stays }))) ∧
    (s.lif.cond ≠ .hold → s.lif.stretch = none → s.lif.lossPending = false → ∀ noisy later,
      ∃ t, exec (.lineHoldStart noisy later) s = .next t ∧
        t.lif = { s.lif with tx := none, cond := .hold, recessive := 0, malformed := false, linePause := true,
                             pauseTimer := none, queue := stays } ∧
        t.counters = (bumpIf (later && decide (s.lif.cond ≠ .space)) .framing s).counters ∧
        t = { s with lif := t.lif, counters := t.counters, slots := t.slots, pln := t.pln, ofe := t.ofe,
                     svy := t.svy }) ∧
    (∀ e, s.lif.queue.find? (fun e => e.order == o) = some e → e.kept = none →
      exec .transmissionComplete s = .next (settle { s with
        lif.tx := none, lif.cond := .space, lif.recessive := 0, lif.malformed := false, lif.queue := leaves }) ∧
      exec .stationClash s = .next clashed) ∧
    (∀ e d, s.lif.queue.find? (fun e => e.order == o) = some e → e.kept = some d →
      (∃ t, exec .transmissionComplete s = .next t ∧ t.lif.tx = none ∧ t.lif.cond = .space ∧
        t.lif.queue.Perm (⟨{ e.frame with data := d }, s.lif.nextOrder, none⟩ :: leaves) ∧
        t.lif.nextOrder = s.lif.nextOrder + 1 ∧ t.counters = s.counters) ∧
      exec .stationClash s = .next (enqueue { e.frame with data := d } clashed))

/-- The OFFER in transmission: WON makes a CONTENDING entry OFFERED, its FREE slot PLEDGED, the pledge timer 3,000 ms; a slot
that is not FREE makes the entry UNASSIGNED (R33, R119, R129). -/
def Obligations.OfferWonPledgesItsSlot : Prop :=
  ∀ (s : State) (chars : List Byte) (r : Register) (e : Entry) (o : OwnOffer) (sl : Slot), lifRuns s = true →
    s.lif.tx = some ⟨.register, chars⟩ → s.lif.register = some r → s.lif.clearPending = false →
    s.entry? r.rid = some e → e.state = .contending → e.offer = some o → s.slots[o.slot]? = some sl →
    ∃ t, exec .transmissionComplete s = .next t ∧
      t.lif = { s.lif with tx := none, register := none, cond := .space, recessive := 0, malformed := false } ∧
      (sl.role = .free →
        t.entry? r.rid = some { e with state := .offered, tries := 0, pledgeTimer := some 3000 } ∧
        t.slots = s.slots.modify o.slot (fun x => { x with role := .pledged, rid := some r.rid }) ∧
        (operates s = true → t.pln.pass.isSome = true)) ∧
      (sl.role ≠ .free → t.slots = s.slots ∧
        ∃ e', t.entry? r.rid = some e' ∧ e'.state = .unassigned ∧ e'.pledgeTimer = none) ∧
      t = { s with lif := t.lif, slots := t.slots, pln := t.pln, ofe := t.ofe, svy := t.svy }

/-- An OFFER that loses in arbitration stays in the register and waits for its report; one that OFE has cleared leaves
without a report, at the loss as at its completion (R33, R35, R40). That a cleared OFFER leaves at a loss is the model's
reading (log 31): R40 speaks of a frame sent to its end. -/
def Obligations.LostOfferWaitsForItsReport : Prop :=
  ∀ (s : State) (chars : List Byte) (r : Register), lifRuns s = true → s.lif.tx = some ⟨.register, chars⟩ →
    s.lif.register = some r →
    (s.lif.clearPending = false →
      exec .arbitrationLoss s = .next { s with lif.tx := none, lif.cond := .frame, lif.lossPending := true }) ∧
    (s.lif.clearPending = true →
      exec .arbitrationLoss s =
        .next { s with lif.tx := none, lif.cond := .frame, lif.register := none, lif.clearPending := false } ∧
      exec .transmissionComplete s = .next (settle { s with
        lif.tx := none, lif.cond := .space, lif.recessive := 0, lif.malformed := false, lif.register := none,
        lif.clearPending := false }))

/-- The loss report at the end of a good OFFER for the same request makes the entry BEATEN with its source and score,
and empties the register (R35, R130). Any other failure of the OFFER is a try: a framing error or a cut of its own
frame, and a winning frame that ends in an error, a truncation, a length above 24, a hold, a bad CRC, as an OFFER for
another request or as any other kind; below three tries the entry stays CONTENDING and the OFFER waits in the register,
at the third the entry is SAT_OUT with cause LOST and the register empty (R131). Each winning frame that is no OFFER
for the same request then does what it does from the state with the report made; where it acts on no request of the
book, or is an OFFER for another, the state after it is stated too. That a good-CRC OFFER whose length is not 12 is a
try too, even when its first bytes name the same request, is the model's reading (log 13), since R35 has the report
carry the request id of an OFFER with a good CRC. That a framing error, or a hold, inside a malformed frame that is
passed over ends it, and so makes the report, is the model's choice between R24 and R25 (log 44). -/
def Obligations.LossToSameRequestBeats : Prop :=
  (∀ (s : State) (cells : List Cell) (chars : List Byte) (r : Register) (e : Entry),
    readFrame (cells.map cellValue) = some chars → receiving s = true → s.lif.lossPending = true →
    s.lif.rxBuf = [] → s.lif.register = some r → s.entry? r.rid = some e → e.state = .contending →
    (lineFrame chars).crcGood = true → (lineFrame chars).kindCode = 1#4 → (lineFrame chars).data.length = 12 →
    ridOfBytes ((lineFrame chars).data.getD 0 0) ((lineFrame chars).data.getD 1 0) = r.rid →
    ∃ t e', exec (.frameReceived cells) s = .next t ∧ t.lif.register = none ∧ t.lif.lossPending = false ∧
      t.entry? r.rid = some e' ∧ e'.state = .beaten ∧
      e'.winner = some ⟨(lineFrame chars).source, some ((lineFrame chars).data.getD 3 0).toNat⟩ ∧
      t.slots = s.slots ∧ t.alw = s.alw ∧ t.seq = s.seq ∧ t.rhs = s.rhs ∧ t.sul = s.sul) ∧
  (∀ (s : State) (r : Register) (e : Entry) (source : BitVec 4) (contest slot score : Byte) (minutes soc : Half)
    (packId : Word), receiving s = true → s.lif.lossPending = true → s.lif.rxBuf = [] → s.lif.register = some r →
    s.entry? r.rid = some e → e.state = .contending →
    ∃ t e', exec (.offer source contest r.rid slot score minutes soc packId) s = .next t ∧
      t.lif.register = none ∧ t.lif.lossPending = false ∧ t.lif.cond = .space ∧ t.entry? r.rid = some e' ∧
      e'.state = .beaten ∧ e'.winner = some ⟨source, some score.toNat⟩) ∧
  (∀ (s : State) (cells : List Cell) (chars : List Byte) (r : Register) (e : Entry),
    readFrame (cells.map cellValue) = some chars → receiving s = true → s.lif.lossPending = true →
    s.lif.register = some r → s.entry? r.rid = some e → e.state = .contending →
    let f := lineFrame chars
    ¬ (f.crcGood = true ∧ f.kindCode = 1#4 ∧ f.data.length = 12 ∧
      ridOfBytes (f.data.getD 0 0) (f.data.getD 1 0) = r.rid) →
    let reported (x : Entry) : Entry := if e.tries < 2 then { x with tries := x.tries + 1 } else { x with
      state := .satOut, satOut := some .lost, tries := 0, heldSlot := none, deadline := none, servePos := none,
      linger := some s.rhs.seconds, pledgeTimer := none, holdTimer := none }
    exec (.frameReceived cells) s = exec (.frameReceived cells) { s with
      lif.lossPending := false, lif.register := if e.tries < 2 then some r else none,
      ofe.book := s.ofe.book.map (fun x => if x.rid = r.rid then reported x else x) }) ∧
  (∀ (s : State) (r : Register) (e : Entry) (noisy later : Bool), lifRuns s = true → NothingDue s →
    s.lif.register = some r → s.entry? r.rid = some e → e.state = .contending → s.lif.clearPending = false →
    s.lif.cond ≠ .hold → s.lif.stretch = none →
    let tried (c : Instr) : Prop := ∃ t, exec c s = .next t ∧ t.lif.lossPending = false ∧ t.lif.tx = none ∧
      (e.tries < 2 → t.lif.register = some r ∧ t.entry? r.rid = some { e with tries := e.tries + 1 }) ∧
      (2 ≤ e.tries → t.lif.register = none ∧
        ∃ e', t.entry? r.rid = some e' ∧ e'.state = .satOut ∧ e'.satOut = some .lost)
    (∀ chars, s.lif.tx = some ⟨.register, chars⟩ → s.lif.lossPending = false →
      tried (.framingError noisy) ∧ tried (.lineHoldStart noisy later)) ∧
    (s.lif.tx = none → s.lif.lossPending = true →
      tried (.framingError noisy) ∧ tried (.lineHoldStart noisy later) ∧
      (s.lif.malformed = false → tried (.truncated noisy)) ∧
      (s.lif.malformed = true → tried (.malformedFrameEnd noisy)) ∧
      (receiving s = true → s.lif.rxBuf = [] → (∀ load total, tried (.meter load total)) ∧
        ∀ (cells : List Cell) (chars : List Byte), readFrame (cells.map cellValue) = some chars →
          let f := lineFrame chars
          let rid := ridOfBytes (f.data.getD 0 0) (f.data.getD 1 0)
          ((f.crcGood = false → tried (.frameReceived cells)) ∧
            (12 ≤ f.kindCode.toNat → tried (.frameReceived cells)) ∧
            ∀ k, Kind.ofCode f.kindCode = some k →
              ((targeted s f.target = false → k ≠ .offer → tried (.frameReceived cells)) ∧
              (k.sizeFits f.data.length = false → tried (.frameReceived cells)) ∧
              ((k = .demand ∨ k = .meter ∨ k = .query ∨ k = .decline ∨ k = .close ∨ k = .status) →
                tried (.frameReceived cells)) ∧
              (k = .offer → rid ≠ r.rid → (∀ x, s.entry? rid = some x → x.state ≠ .contending) →
                tried (.frameReceived cells)))))))

/-- A station clash sets the clash flag and starts the clash timer at 60 s, also while it runs; its expiry clears the
flag; the lamp is lit and SUMMARY 0 reports 1 while the flag is set; both are clear after a start (R34), and that they
are so after a START with the core running too is the model's choice (log 27). An OFFER that clashed is removed and
its entry SAT_OUT with cause LOST in the reporting event, the clash counted and flagged (R132). -/
def Obligations.StationClashIsFlaggedAndNotRetried : Prop :=
  (∀ (s : State) (tr : Transmission), lifRuns s = true → s.lif.tx = some tr →
    ∃ t, exec .stationClash s = .next t ∧ t.lif.clashFlag = true ∧ t.lif.clashTimer = some 60000) ∧
  (∀ s : State, lifRuns s = true → s.lif.clashTimer.isSome = true →
    exec .clashTimerExpiry s = .next { s with lif.clashFlag := false, lif.clashTimer := none }) ∧
  (∀ s : State, lifRuns s = true → s.lif.clashFlag = true → s.faultLamp = true) ∧
  (∀ s : State, (summaryMain s).getD 16 0 = (if s.lif.clashFlag = true then 1#8 else 0#8)) ∧
  (∀ straps clr (s t : State), exec (.start straps clr) s = .next t →
    t.lif.clashFlag = false ∧ t.lif.clashTimer = none) ∧
  (∀ (s : State) (chars : List Byte) (r : Register) (e : Entry), lifRuns s = true →
    s.lif.tx = some ⟨.register, chars⟩ → s.lif.register = some r → s.lif.clearPending = false →
    s.entry? r.rid = some e → e.state = .contending → s.counters.length = 32 →
    ∃ t e', exec .stationClash s = .next t ∧ t.lif.register = none ∧ t.lif.tx = none ∧ t.lif.clashFlag = true ∧
      t.count .stationClash = satInc (s.count .stationClash) ∧
      t.entry? r.rid = some e' ∧ e'.state = .satOut ∧ e'.satOut = some .lost ∧
      t = { s with lif := t.lif, ofe := t.ofe, counters := t.counters })

/-- The stretch: LIF drives the line while the marked request is HEARD or EVALUATING, in ACTIVE, WITHDRAWN and HOLDUP; at the
limit it lets go, the entry is SAT_OUT with cause LATE, and a line still dominant is counted; it lets go when the
evaluation ends (R42, R43, R126). While it drives the line no frame can end here, and that a CANCEL or an ASSIGN given then
changes nothing is the model's choice for a command whose event cannot occur (log 2, log 12). -/
def Obligations.StretchDrivesAndLetsGo : Prop :=
  (∀ (s : State) (m : Mark) (e : Entry), lifRuns s = true → s.lif.cond = .space → s.lif.tx = none →
    s.lif.stretch = none → s.lif.mark = some m → m.closed = false → s.entry? m.rid = some e →
    (e.state = .heard ∨ e.state = .evaluating) →
    ((s.sul.state = .active ∨ s.sul.state = .withdrawn ∨ s.sul.state = .holdup) →
      exec .stretchStart s = .next { s with lif.stretch := some m.rid, lif.recessive := 0 }) ∧
    ((s.sul.state = .joining ∨ s.sul.state = .haltedConfig) → exec .stretchStart s = .next s)) ∧
  (∀ (s : State) (rid : ReqId) (e : Entry) (still : Bool), lifRuns s = true → s.lif.stretch = some rid →
    s.entry? rid = some e → (e.state = .heard ∨ e.state = .evaluating) → s.counters.length = 32 →
    ∃ t e', exec (.stretchLimit still) s = .next t ∧ t.lif.stretch = none ∧
      t.count .stretchOverrun = (if still then satInc (s.count .stretchOverrun) else s.count .stretchOverrun) ∧
      t.entry? rid = some e' ∧ e'.state = .satOut ∧ e'.satOut = some .late ∧
      t = { s with lif := t.lif, counters := t.counters, pln := t.pln, ofe := t.ofe, svy := t.svy }) ∧
  (∀ (s : State) (ev : Evaluation) (e : Entry), s.core = true → s.ofe.evaluation = some ev →
    s.lif.stretch = some ev.view.rid → s.entry? ev.view.rid = some e → e.state = .evaluating →
    ∃ t, exec .evaluationEnd s = .next t ∧ t.lif.stretch = none) ∧
  (∀ (s : State) (rid rid' : ReqId) (chosen slot : Byte), s.lif.stretch = some rid →
    exec (.cancel rid') s = .next s ∧ exec (.assign rid' chosen slot) s = .next s ∧
      exec (.assignOther rid' chosen slot) s = .next s)

/-- A line hold begins the line pause and zeroes every setpoint; its end starts the 2 s timer; a new hold stops it and
the pause goes on; the timer's expiry ends the pause (R44, R45, R92). The frame that the hold ends is counted, whatever
its kind: as noisy when it was received and marked so, and as a framing error when the failed character was later than
its first (R23, R24, R33, R44). That nothing counts for a frame this station sends that is cut in its first character,
where R33's table counts framing for every cut, and nothing in SPACE, is the model's choice (log 14). -/
def Obligations.LineHoldPausesCharging : Prop :=
  (∀ (s : State) (noisy later : Bool), lifRuns s = true → s.lif.cond ≠ .hold → s.lif.stretch = none →
    s.lif.tx = none → s.lif.lossPending = false →
    ∃ t, exec (.lineHoldStart noisy later) s = .next t ∧ t.lif = { s.lif with
        cond := .hold, recessive := 0, malformed := false, linePause := true, pauseTimer := none } ∧
      t.counters = (bumpIf (later && decide (s.lif.cond ≠ .space)) .framing
        (bumpIf (noisy && decide (s.lif.cond ≠ .space)) .noisy s)).counters ∧
      (s.lif.linePause = false → (∀ sl ∈ t.slots, sl.setpoint = 0) ∧
        (operates s = true → t.pln.pass.isSome = true)) ∧
      (s.lif.linePause = true → t.slots = s.slots) ∧
      t.alw = s.alw ∧ t.pln.wanted = s.pln.wanted ∧ t.pln.urgent = s.pln.urgent ∧
      t = { s with lif := t.lif, counters := t.counters, slots := t.slots, pln := t.pln, ofe := t.ofe,
                   svy := t.svy }) ∧
  (∀ (s : State) (noisy later : Bool), lifRuns s = true → s.lif.cond ≠ .hold → s.lif.stretch = none →
    let inFrame : Bool := decide (s.lif.cond ≠ .space)
    ∃ t, exec (.lineHoldStart noisy later) s = .next t ∧ t.lif.cond = .hold ∧ t.lif.linePause = true ∧
      t.lif.tx = none ∧ t.lif.lossPending = false ∧
      t.counters = (bumpIf (later && inFrame) .framing
        (bumpIf (noisy && s.lif.tx.isNone && inFrame) .noisy s)).counters) ∧
  (∀ s : State, lifRuns s = true → s.lif.cond = .hold →
    exec .lineHoldEnd s =
      .next { s with lif.cond := .space, lif.recessive := 1, lif.pauseTimer := some 2000 }) ∧
  (∀ s : State, lifRuns s = true → s.lif.pauseTimer.isSome = true →
    exec .pauseTimerExpiry s = .next (settle { s with
      lif.pauseTimer := none, lif.linePause := false, pln.replan := true }))

/-! ### The receive buffer and the queue (R36 to R39) -/

/-- A frame offered to the transmit queue: a DEMAND beside a queued DEMAND takes its place, or stands beside it while it is
in transmission; with room a frame enters; in a full queue a CLOSE or a DECLINE displaces the newest STATUS not in
transmission, and any other frame is dropped, each counted as transmit dropped (R39). -/
def Obligations.EnqueuePlacesByTheRule : Prop :=
  ∀ (f : TxFrame) (s : State), s.counters.length = 32 →
    let hasDemand : Prop := ∃ e ∈ s.lif.queue, e.frame.kind = .demand
    let displaced := newestStatus s.lif
    (f.kind = .demand → hasDemand →
      (enqueue f s).lif.queue.map (fun e => e.order) = s.lif.queue.map (fun e => e.order) ∧
      (∀ e ∈ (enqueue f s).lif.queue, e.frame.kind = .demand →
        (inTransmission s.lif.tx e = false → e.frame = f) ∧
        (inTransmission s.lif.tx e = true → e.kept = some f.data)) ∧
      (enqueue f s).counters = s.counters) ∧
    (¬ (f.kind = .demand ∧ hasDemand) → s.lif.queue.length < 4 →
      (enqueue f s).lif.queue.Perm (⟨f, s.lif.nextOrder, none⟩ :: s.lif.queue) ∧
      (enqueue f s).counters = s.counters) ∧
    (¬ (f.kind = .demand ∧ hasDemand) → 4 ≤ s.lif.queue.length →
      (enqueue f s).count .transmitDropped = satInc (s.count .transmitDropped) ∧
      (∀ o, (f.kind = .close ∨ f.kind = .decline) → displaced = some o →
        (enqueue f s).lif.queue.Perm
          (⟨f, s.lif.nextOrder, none⟩ :: s.lif.queue.filter (fun e => decide (e.order ≠ o)))) ∧
      ((f.kind = .close ∨ f.kind = .decline) → displaced = none → (enqueue f s).lif = s.lif) ∧
      (f.kind ≠ .close → f.kind ≠ .decline → (enqueue f s).lif = s.lif))

/-! ### Requests, offers, assignment (files 06 to 08) -/

/-- A REQUEST that passes its checks is entered at the tail when its id is not in the book and a place is free, or the oldest
terminal entry can be evicted, and renews an entry SAT_OUT, BEATEN, ELSEWHERE, UNASSIGNED, LAPSED, CANCELLED or ABORTED of
its id with a lower attempt: EVALUATING at once when the evaluator is idle and no entry is HEARD, else HEARD; its contest
point is marked, and LIF stands in SPACE (R30, R41, R51, R113, R115). -/
def Obligations.RequestEntersTheBook : Prop :=
  ∀ (s : State) (source : BitVec 4) (serial : BitVec 12) (kr pc rc eta attempt : Byte) (rest : List Entry),
    operates s = true → FrameMayEnd s → pc.toNat < 4 → rc.toNat < 4 →
    ((s.entry? ⟨source, serial⟩ = none ∧ s.ofe.book.length < 16 ∧ rest = s.ofe.book) ∨
      (s.entry? ⟨source, serial⟩ = none ∧ 16 ≤ s.ofe.book.length ∧ ∃ front x back,
        s.ofe.book = front ++ x :: back ∧ (∀ y ∈ front, y.state.live = true) ∧ x.state.live = false ∧
        rest = front ++ back) ∨
      (∃ old, s.entry? ⟨source, serial⟩ = some old ∧ old.attempt < attempt ∧
        (old.state = .satOut ∨ old.state = .beaten ∨ old.state = .elsewhere ∨ old.state = .unassigned ∨
          old.state = .lapsed ∨ old.state = .cancelled ∨ old.state = .aborted) ∧
        rest = s.ofe.book.filter (fun x => decide (x.rid ≠ ⟨source, serial⟩)))) →
    ∃ t e, exec (.request source ⟨source, serial⟩ kr pc rc eta attempt) s = .next t ∧
      t.lif = { atFrameEnd s.lif with mark := some ⟨⟨source, serial⟩, false, false⟩ } ∧
      e.rid = ⟨source, serial⟩ ∧ e.kind = (if kr.getLsbD 0 then .reservation else .walkUp) ∧
      e.rider = (if kr.getLsbD 1 then .fleet else .standard) ∧ e.packClass.val = pc.toNat ∧
      e.returnClass.val = rc.toNat ∧ e.eta = min 60 eta.toNat ∧ e.attempt = attempt ∧ e.offer = none ∧
      e.winner = none ∧
      (s.ofe.evaluation.isSome = true → t.ofe.book = rest ++ [e] ∧ e.state = .heard) ∧
      (s.ofe.evaluation = none → (∀ x ∈ rest, x.state ≠ .heard) →
        t.ofe.book = rest ++ [e] ∧ e.state = .evaluating ∧
        ∃ ev, t.ofe.evaluation = some ev ∧ ev.view.rid = e.rid ∧ ev.view.grant = s.alw.grant) ∧
      t = { s with lif := t.lif, pln := t.pln, ofe := t.ofe, svy := t.svy }

/-- A REQUEST that is malformed, a duplicate (of a live entry, of a DONE one, or with an attempt not above the entry's), or
finds a book full of live entries changes no entry: it is counted, and its contest point is marked and closed for the
stretch; after a malformed one no offer is sent there (R30, R50, R113, R114). That a duplicate's new mark is closed also
where the entry is still HEARD or EVALUATING, for which R42 keeps a stretch open, is the model's reading of R114 (log 21). -/
def Obligations.RequestNotEntered : Prop :=
  ∀ (s : State) (source : BitVec 4) (rid : ReqId) (kr pc rc eta attempt : Byte), operates s = true →
    FrameMayEnd s → NothingDue s →
    let notEntered (k : Counter) (barred : Bool) : Prop :=
      exec (.request source rid kr pc rc eta attempt) s = .next { bump k s with
        lif := { atFrameEnd s.lif with mark := some ⟨rid, true, barred⟩ } }
    ((rid.term ≠ source ∨ 4 ≤ pc.toNat ∨ 4 ≤ rc.toNat) → notEntered .malformed true) ∧
    (rid.term = source → pc.toNat < 4 → rc.toNat < 4 →
      (∀ e, s.entry? rid = some e → (e.state.live = true ∨ e.state = .done ∨ attempt ≤ e.attempt) →
        notEntered .duplicate false) ∧
      (s.entry? rid = none → 16 ≤ s.ofe.book.length → (∀ e ∈ s.ofe.book, e.state.live = true) →
        notEntered .bookFull false))

/-- An evaluation's end for an entry still EVALUATING: without a candidate SAT_OUT with cause NO_CANDIDATE; with one, BEATEN
where a foreign OFFER has been recorded as winner, which is kept; SAT_OUT with cause LOST where the register is occupied;
else CONTENDING with its OFFER in the register. In all but the last the register stays as it is. For an entry no longer
EVALUATING the result is discarded: the evaluator becomes idle, and only what is due begins (R108, R117, R128). -/
def Obligations.EvaluationEndSettlesTheEntry : Prop :=
  (∀ (s : State) (ev : Evaluation) (e : Entry), operates s = true → s.ofe.evaluation = some ev →
    s.entry? ev.view.rid = some e → e.state = .evaluating →
    ∃ t, exec .evaluationEnd s = .next t ∧
      (evaluate s.sul.cfg ev.view = none →
        t.lif.register = s.lif.register ∧
        ∃ e', t.entry? ev.view.rid = some e' ∧ e'.state = .satOut ∧ e'.satOut = some .noCandidate ∧
          e'.linger = some s.rhs.seconds) ∧
      (∀ c, evaluate s.sul.cfg ev.view = some c → e.winner.isSome = true →
        t.lif.register = s.lif.register ∧
        ∃ e', t.entry? ev.view.rid = some e' ∧ e'.state = .beaten ∧ e'.winner = e.winner ∧
          e'.offer = some ⟨c.slot, c.score, c.pack.id⟩ ∧ e'.linger = some s.rhs.seconds) ∧
      (∀ c, evaluate s.sul.cfg ev.view = some c → e.winner = none → s.lif.register = none →
        t.entry? ev.view.rid = some { e with state := .contending, tries := 0,
                                             offer := some ⟨c.slot, c.score, c.pack.id⟩ } ∧
        t.lif.register = some ⟨ev.view.rid, ⟨byteOf c.score, .offer, 0x3F#8,
          ridBytes ev.view.rid ++ [byteOf c.slot, byteOf c.score] ++ bytes16 (halfOf c.minutes) ++
            bytes16 (halfOf c.pack.soc) ++ bytes32 c.pack.id⟩⟩) ∧
      (∀ c, evaluate s.sul.cfg ev.view = some c → e.winner = none → s.lif.register.isSome = true →
        t.lif.register = s.lif.register ∧
        ∃ e', t.entry? ev.view.rid = some e' ∧ e'.state = .satOut ∧ e'.satOut = some .lost) ∧
      t = { s with lif := t.lif, pln := t.pln, ofe := t.ofe, svy := t.svy }) ∧
  (∀ (s : State) (ev : Evaluation), s.core = true → s.ofe.evaluation = some ev →
    (∀ e, s.entry? ev.view.rid = some e → e.state ≠ .evaluating) →
    exec .evaluationEnd s = .next (settle { s with ofe.evaluation := none }))

/-- The candidate of an evaluation is eligible and has the lowest score, and of equal scores the lowest slot number;
there is none outside ACTIVE or without a dock; every score lies in 0 to 254 (R105 to R108). A slot is eligible
exactly when it is OCCUPIED and FREE, its cut clear, its pack OK, of the requested class, at or above that class's
minimum SoH, with R_prosp at most 1022 and the wait within the maximum wait of the rider class (R106). The dock
count is the EMPTY, FREE slots less the entries OFFERED or HELD and those SERVING in the serve queue, as the view
counted them (R98, R107). -/
def Obligations.CandidateIsTheBestEligible : Prop :=
  (∀ (cfg : Cfg) (v : EvalView) (n : Nat) (sv : SlotView),
    ((judgeSlot cfg v n sv).isSome = true ↔ Eligible cfg v n sv) ∧
    ∀ c, judgeSlot cfg v n sv = some c → c.slot = n ∧ sv.pack = some c.pack ∧
      c.minutes = prospectiveReady cfg v.grant v.slots n c.pack) ∧
  (∀ v : EvalView, dockCount v = ((v.slots.filter (fun sv => decide (sv.cond = .empty ∧ sv.role = .free))).length : Int) -
    v.promised - v.queued) ∧
  (∀ (e : Entry) (s : State),
    (takeView e s).promised = (s.ofe.book.filter (fun x => decide (x.state = .offered ∨ x.state = .held))).length ∧
    (takeView e s).queued = (s.ofe.book.filter (fun x => decide (x.state = .serving ∧
      (x.servePos = some .queued1 ∨ x.servePos = some .queued2)))).length ∧
    (takeView e s).grant = s.alw.grant ∧ (takeView e s).station = s.sul.state ∧
    (takeView e s).packClass = e.packClass ∧ (takeView e s).rider = e.rider ∧ (takeView e s).kind = e.kind) ∧
  ∀ (cfg : Cfg) (v : EvalView),
    (∀ c, evaluate cfg v = some c → v.station = .active ∧ 1 ≤ dockCount v ∧ c.score ≤ 254 ∧
      (∃ sv, v.slots[c.slot]? = some sv ∧ judgeSlot cfg v c.slot sv = some c ∧ sv.cond = .occupied ∧
        sv.role = .free ∧ sv.cut = false) ∧
      ∀ (n : Nat) (sv : SlotView) (d : Candidate), v.slots[n]? = some sv → judgeSlot cfg v n sv = some d →
        c.score ≤ d.score ∧ (d.score = c.score → c.slot ≤ n)) ∧
    (evaluate cfg v = none → v.station = .active → 1 ≤ dockCount v →
      ∀ (n : Nat) (sv : SlotView), v.slots[n]? = some sv → judgeSlot cfg v n sv = none)

/-- The wait term: R_prosp less the ETA from the view, which is the entry's, or 0; with R_prosp 1023 it is at least 963
for every ETA, and such a slot is given no score (R102). The wear term is the cycle count divided by 256, at most 15,
which it reaches at 3,840 cycles; the fill term is 1000 less the SoC divided by 40: 0 for 961 to 1000, 24 for 1 to 40,
25 for 0; both are those of the pack record in the view, the SoC clamped to 1000 when read (R103). The reserve term is
32 for a reservation of a standard rider with an ETA above 0, when the ready count of the class less 1 is below the
reserve floor, and else 0 (R104). R_prosp is the ready estimate at the prospective power, which is the smaller of the
evaluation cap and the slot's share of G with the other slots in tier A, rounded down to 50 W, or 0 below P_min (R99 to
R101). -/
def Obligations.WaitWearAndFillTerms : Prop :=
  (∀ r e : Nat, waitTerm r e = if r ≤ e then 0 else r - e) ∧ (∀ e : Nat, e ≤ 60 → 963 ≤ waitTerm 1023 e) ∧
  (∀ (cfg : Cfg) (v : EvalView) (n : Nat) (sv : SlotView) (p : Pack), sv.pack = some p →
    prospectiveReady cfg v.grant v.slots n p = 1023 → judgeSlot cfg v n sv = none) ∧
  (∀ (cfg : Cfg) (v : EvalView) (n : Nat) (sv : SlotView) (c : Candidate), judgeSlot cfg v n sv = some c →
    ∃ p, sv.pack = some p ∧ c.score = min 254 (8 * waitTerm (prospectiveReady cfg v.grant v.slots n p) v.eta +
      wearTerm p.cycles + fillTerm p.soc + reserveTerm cfg v)) ∧
  (∀ (e : Entry) (s : State), (takeView e s).eta = e.eta ∧
    ∀ (n : Nat) (sl : Slot), s.slots[n]? = some sl → sl.cond = .occupied →
      ∃ sv : SlotView, (takeView e s).slots[n]? = some sv ∧ sv.pack = sl.pack) ∧
  (∀ (cfg : Cfg) (v : EvalView), (TakesReserve cfg v → reserveTerm cfg v = 32) ∧
    (¬ TakesReserve cfg v → reserveTerm cfg v = 0)) ∧
  (∀ (cfg : Cfg) (grant : Nat) (slots : List SlotView) (n : Nat) (p : Pack), ∃ power,
    PowerShared cfg grant slots n p power ∧
    prospectiveReady cfg grant slots n p = readyEstimate (cfg.figures p.cls) p.soc power) ∧
  (∀ b : Byte, etaOf b ≤ 60) ∧ (∀ (r : List Byte) (k : PackClass), (packOf r k).soc ≤ 1000) ∧
  (∀ c : Half, wearTerm c = min 15 (c.toNat / 256) ∧ (wearTerm c = 15 ↔ 3840 ≤ c.toNat)) ∧
  ∀ soc : Nat, soc ≤ 1000 → fillTerm soc = (1000 - soc) / 40 ∧ (fillTerm soc = 0 ↔ 961 ≤ soc) ∧
    (fillTerm soc = 24 ↔ 1 ≤ soc ∧ soc ≤ 40) ∧ (fillTerm soc = 25 ↔ soc = 0)

/-- The ready estimate: 0 at or above T, 1023 below T without power, else the quotient of R96's numerator and denominator
rounded up, which is at least 1, and 1022 where that gives more than 1022 (R96). -/
def Obligations.ReadyEstimateCoversTheCharge : Prop :=
  ∀ (f : ClassFigures) (soc p : Nat),
    (f.release ≤ soc → readyEstimate f soc p = 0) ∧
    (soc < f.release → readyEstimate f soc 0 = 1023) ∧
    (soc < f.release → 0 < p → 0 < f.capacity →
      let pt := max 1 (p * f.taper / 100)
      let work := (min f.release f.knee - soc) * f.capacity * 60 * pt +
        (f.release - max soc f.knee) * f.capacity * 60 * p
      1 ≤ readyEstimate f soc p ∧ readyEstimate f soc p ≤ 1022 ∧
      (readyEstimate f soc p - 1) * (1000 * p * pt) < work ∧
      (readyEstimate f soc p < 1022 → work ≤ readyEstimate f soc p * (1000 * p * pt)))

/-- A foreign OFFER for a CONTENDING entry makes it BEATEN with that winner and clears the register; one for an entry that is
OFFERED, HELD or SERVING changes no entry; for an entry in any other state its source and score are written as the winner
unless one is recorded, and the state is kept; without an entry nothing changes; a score of 255 or unlike the contest
character is malformed; each ends in SPACE (R30, R50, R116, R134). -/
def Obligations.ForeignOfferBeatsAContender : Prop :=
  ∀ (s : State) (source : BitVec 4) (contest : Byte) (rid : ReqId) (slot score : Byte) (minutes soc : Half)
    (packId : Word), operates s = true → FrameMayEnd s → NothingDue s →
    ((score = 255#8 ∨ score ≠ contest) →
      exec (.offer source contest rid slot score minutes soc packId) s =
        .next (bump .malformed { s with lif := atFrameEnd s.lif })) ∧
    (score ≠ 255#8 → score = contest → s.entry? rid = none →
      exec (.offer source contest rid slot score minutes soc packId) s = .next { s with lif := atFrameEnd s.lif }) ∧
    (∀ e, score ≠ 255#8 → score = contest → s.entry? rid = some e →
      (e.state = .contending →
        ∃ t e', exec (.offer source contest rid slot score minutes soc packId) s = .next t ∧
          t.lif = { atFrameEnd s.lif with register := none } ∧ t.entry? rid = some e' ∧ e'.state = .beaten ∧
          e'.winner = some ⟨source, some score.toNat⟩ ∧ t = { s with lif := t.lif, ofe := t.ofe }) ∧
      ((e.state = .offered ∨ e.state = .held ∨ e.state = .serving) →
        exec (.offer source contest rid slot score minutes soc packId) s =
          .next { s with lif := atFrameEnd s.lif }) ∧
      (e.state ≠ .contending → e.state ≠ .offered → e.state ≠ .held → e.state ≠ .serving →
        ∃ t, exec (.offer source contest rid slot score minutes soc packId) s = .next t ∧
          t.entry? rid = some { e with winner := some (e.winner.getD ⟨source, some score.toNat⟩) } ∧
          (∀ r, r ≠ rid → t.entry? r = s.entry? r) ∧
          t = { s with lif := atFrameEnd s.lif, ofe.book := t.ofe.book }))

/-- An ASSIGN naming this station, for an OFFERED entry whose pledged slot passes the re-check, makes the hold: role
HELD, deadline the present second plus ETA and grace, hold timer armed, hold record written in the lowest empty place;
when the slot fails, the entry is UNASSIGNED, a pledge still standing is FREE, and DECLINE NOT_ELIGIBLE is produced and
counted (R109, R120, R136, R137, R169). The slot passes exactly when it is OCCUPIED, PLEDGED for the request, its cut
clear, its pack OK, the one offered, of the requested class and at or above the minimum SoH, and in ACTIVE and
WITHDRAWN also ready in time by the present figures (R109). -/
def Obligations.AssignMakesTheHold : Prop :=
  (∀ (e : Entry) (o : OwnOffer) (s : State), recheck e o s = true ↔ PassesRecheck e o s) ∧
  ∀ (s : State) (rid : ReqId) (chosen slot : Byte) (e : Entry) (o : OwnOffer), operates s = true →
    FrameMayEnd s → chosen.toNat = s.sul.station.toNat → s.entry? rid = some e → e.state = .offered →
    e.offer = some o →
    (recheck e o s = true → (∀ r, some r ∈ s.rhs.holds → r.rid ≠ rid) →
      let d : Word := s.rhs.seconds + BitVec.ofNat 32 ((e.eta + s.sul.cfg.holdGrace) * 60)
      ∃ t, exec (.assign rid chosen slot) s = .next t ∧
        t.entry? rid = some { e with state := .held, pledgeTimer := none, heldSlot := some o.slot,
                                     deadline := some d, holdTimer := some d } ∧
        t.slots = s.slots.modify o.slot (fun x => { x with role := .held, rid := some rid }) ∧
        (∀ before after, s.rhs.holds = before ++ none :: after → none ∉ before →
          t.rhs.holds = before ++ some ⟨rid, o.slot, d, e.packClass, e.returnClass, e.rider, e.eta⟩ :: after) ∧
        t.pln.pass.isSome = true ∧ t.lif = atFrameEnd s.lif ∧
        t = { s with lif := t.lif, slots := t.slots, pln := t.pln, ofe := t.ofe, svy := t.svy,
                     rhs.holds := t.rhs.holds }) ∧
    (∀ sl, recheck e o s = false → s.slots[o.slot]? = some sl →
      let declined : State := enqueue ⟨0x0C#8, .decline, 0x3F#8, ridBytes rid ++ [2]⟩
        (bump .declineNotEligible { s with lif := atFrameEnd s.lif })
      ∃ t e', exec (.assign rid chosen slot) s = .next t ∧ t.entry? rid = some e' ∧ e'.state = .unassigned ∧
        e'.pledgeTimer = none ∧ e'.linger = some s.rhs.seconds ∧
        (sl.role = .pledged → sl.rid = some rid →
          t.slots = s.slots.modify o.slot (fun x => { x with role := .free, rid := none })) ∧
        (¬ (sl.role = .pledged ∧ sl.rid = some rid) → t.slots = s.slots) ∧ t.lif = declined.lif ∧
        t.counters = declined.counters ∧
        t = { s with lif := t.lif, counters := t.counters, slots := t.slots, pln := t.pln, ofe := t.ofe,
                     svy := t.svy })

/-- An ASSIGN naming another station ends this station's interest: an entry HEARD or EVALUATING becomes ELSEWHERE and is
closed for the stretch, a CONTENDING one and the register is cleared, an OFFERED one and its pledge is FREE, one SAT_OUT or
BEATEN with its linger start kept. The chosen station is the winner, with the score of an earlier winner that was the same
station. A HELD or SERVING entry keeps its hold and a conflict is counted; any other, and an unknown id, changes nothing;
each ends in SPACE (R30, R116, R140). -/
def Obligations.AssignElsewhereEndsInterest : Prop :=
  ∀ (s : State) (rid : ReqId) (chosen slot : Byte), operates s = true → FrameMayEnd s →
    NothingDue s → chosen.toNat ≤ 15 → chosen.toNat ≠ s.sul.station.toNat →
    (s.entry? rid = none → exec (.assignOther rid chosen slot) s = .next { s with lif := atFrameEnd s.lif }) ∧
    (∀ e, s.entry? rid = some e →
      let named (e' : Entry) : Prop := ∃ w, e'.winner = some w ∧ w.station.toNat = chosen.toNat ∧
        (∀ v, e.winner = some v → v.station.toNat = chosen.toNat → w.score = v.score) ∧
        ((∀ v, e.winner = some v → v.station.toNat ≠ chosen.toNat) → w.score = none)
      ((e.state = .held ∨ e.state = .serving) →
        exec (.assignOther rid chosen slot) s = .next (bump .assignConflict { s with lif := atFrameEnd s.lif })) ∧
      ((e.state = .heard ∨ e.state = .evaluating) →
        ∃ t e', exec (.assignOther rid chosen slot) s = .next t ∧ t.entry? rid = some e' ∧ e'.state = .elsewhere ∧
          named e' ∧ e'.linger = some s.rhs.seconds ∧ (∀ r, r ≠ rid → t.entry? r = s.entry? r) ∧
          t = { s with ofe.book := t.ofe.book, lif := { atFrameEnd s.lif with
            mark := s.lif.mark.map (fun m => if m.rid = rid then { m with closed := true } else m) } }) ∧
      (e.state = .contending →
        ∃ t e', exec (.assignOther rid chosen slot) s = .next t ∧ t.entry? rid = some e' ∧ e'.state = .elsewhere ∧
          named e' ∧ e'.tries = 0 ∧ e'.linger = some s.rhs.seconds ∧ (∀ r, r ≠ rid → t.entry? r = s.entry? r) ∧
          t = { s with ofe.book := t.ofe.book, lif := { atFrameEnd s.lif with register := none } }) ∧
      (∀ o sl, e.state = .offered → e.offer = some o → s.slots[o.slot]? = some sl → sl.role = .pledged →
        sl.rid = some rid →
        ∃ t e', exec (.assignOther rid chosen slot) s = .next t ∧ t.entry? rid = some e' ∧ e'.state = .elsewhere ∧
          named e' ∧ e'.pledgeTimer = none ∧
          t.slots = s.slots.modify o.slot (fun x => { x with role := .free, rid := none }) ∧
          t.pln.pass.isSome = true ∧
          t.lif = atFrameEnd s.lif ∧ t = { s with lif := t.lif, slots := t.slots, pln := t.pln, ofe := t.ofe }) ∧
      ((e.state = .satOut ∨ e.state = .beaten) →
        ∃ t e', exec (.assignOther rid chosen slot) s = .next t ∧ t.entry? rid = some e' ∧ e'.state = .elsewhere ∧
          named e' ∧ e'.linger = e.linger ∧ (∀ r, r ≠ rid → t.entry? r = s.entry? r) ∧
          t = { s with ofe.book := t.ofe.book, lif := atFrameEnd s.lif }) ∧
      ((e.state = .unassigned ∨ e.state = .elsewhere ∨ e.state = .lapsed ∨ e.state = .cancelled ∨
          e.state = .aborted ∨ e.state = .done) →
        exec (.assignOther rid chosen slot) s = .next { s with lif := atFrameEnd s.lif }))

/-- The pledge timer's expiry makes an OFFERED entry UNASSIGNED and frees its pledged slot; nothing is sent (R119, R135). -/
def Obligations.PledgeExpiryFreesTheSlot : Prop :=
  ∀ (s : State) (rid : ReqId) (e : Entry) (o : OwnOffer) (sl : Slot), operates s = true →
    s.entry? rid = some e → e.state = .offered → e.pledgeTimer.isSome = true → e.offer = some o →
    s.slots[o.slot]? = some sl → sl.role = .pledged → sl.rid = some rid →
    ∃ t e', exec (.pledgeTimerExpiry rid) s = .next t ∧ t.entry? rid = some e' ∧ e'.state = .unassigned ∧
      e'.pledgeTimer = none ∧ e'.linger = some s.rhs.seconds ∧
      t.slots = s.slots.modify o.slot (fun x => { x with role := .free, rid := none }) ∧
      t.pln.pass.isSome = true ∧
      t = { s with slots := t.slots, pln := t.pln, ofe := t.ofe, svy := t.svy }

/-- A hold that reaches its deadline, the only one due, lapses: the slot FREE, the record's place empty, the entry
LAPSED, the lapsed counter up, and a CLOSE LAPSED offered to the queue, with both pack ids 0 and with a reason byte of
0, which is R141's own value of the whole byte and no choice of the model (log 41). Several holds due at once lapse one
after another in book order, and their CLOSE frames are produced in that order (R141). How a reached deadline is told
from a coming one, and that one command lapses all that are due, is the model's reading (log 8, log 9). -/
def Obligations.HoldLapsesAtItsDeadline : Prop :=
  let lapsed (rid : ReqId) : TxFrame := ⟨0x0C#8, .close, 0x3F#8, ridBytes rid ++ [1, 0, 0, 0, 0, 0, 0, 0, 0, 0]⟩
  (∀ (s : State) (e : Entry) (n : Nat) (sl : Slot), operates s = true →
    s.ofe.book.filter (holdDue s.rhs.seconds) = [e] → s.entry? e.rid = some e → e.heldSlot = some n →
    s.slots[n]? = some sl → sl.role = .held → sl.rid = some e.rid →
    ∃ t e', exec .holdTimerExpiry s = .next t ∧ t.entry? e.rid = some e' ∧ e'.state = .lapsed ∧
      e'.heldSlot = none ∧ e'.holdTimer = none ∧ e'.linger = some s.rhs.seconds ∧
      t.slots = s.slots.modify n (fun x => { x with role := .free, rid := none }) ∧
      t.rhs = { s.rhs with holds := s.rhs.holds.map (fun h => h.filter (fun r => decide (r.rid ≠ e.rid))) } ∧
      t.lif = (enqueue (lapsed e.rid) s).lif ∧ t.counters = (enqueue (lapsed e.rid) (bump .lapsed s)).counters ∧
      t.pln.pass.isSome = true ∧ t.alw = s.alw ∧ t.seq = s.seq ∧ t.sul = s.sul) ∧
  (∀ s : State, operates s = true → RequestIdsUnique s →
    let due := s.ofe.book.filter (holdDue s.rhs.seconds)
    let freed (n : Nat) (sl : Slot) : Prop :=
      sl.role = .held ∧ ∃ e ∈ due, e.heldSlot = some n ∧ sl.rid = some e.rid
    due ≠ [] →
    ∃ t, exec .holdTimerExpiry s = .next t ∧
      (∀ e ∈ due, ∃ e', t.entry? e.rid = some e' ∧ e'.state = .lapsed ∧ e'.heldSlot = none ∧ e'.holdTimer = none ∧
        e'.linger = some s.rhs.seconds) ∧
      (∀ n sl, s.slots[n]? = some sl →
        (freed n sl → t.slots[n]? = some { sl with role := .free, rid := none }) ∧
        (¬ freed n sl → t.slots[n]? = some sl)) ∧
      t.rhs = { s.rhs with
        holds := s.rhs.holds.map (fun h => h.filter (fun r => due.all (fun e => decide (r.rid ≠ e.rid)))) } ∧
      t.lif = (due.foldl (fun st e => enqueue (lapsed e.rid) st) s).lif ∧
      t.counters = (due.foldl (fun st e => enqueue (lapsed e.rid) (bump .lapsed st)) s).counters ∧
      t.pln.pass.isSome = true ∧ t.alw = s.alw ∧ t.seq = s.seq ∧ t.sul = s.sul)

/-- An UPDATE replaces the ETA, clamped to 60, of an entry in HEARD, EVALUATING, CONTENDING, OFFERED or HELD, and for a HELD
entry the deadline, the timer and the record follow; for an entry SERVING or terminal, and for an unknown id, no entry
changes; each ends in SPACE (R30, R53, R120, R121). -/
def Obligations.UpdateMovesTheDeadline : Prop :=
  ∀ (s : State) (rid : ReqId) (eta : Byte), operates s = true → FrameMayEnd s →
    (s.entry? rid = none → NothingDue s → exec (.update rid eta) s = .next { s with lif := atFrameEnd s.lif }) ∧
    (∀ e, s.entry? rid = some e → (e.state = .serving ∨ e.state.live = false) → NothingDue s →
      exec (.update rid eta) s = .next { s with lif := atFrameEnd s.lif }) ∧
    (∀ e, s.entry? rid = some e → NothingDue s →
      (e.state = .heard ∨ e.state = .evaluating ∨ e.state = .contending ∨ e.state = .offered) →
      ∃ t, exec (.update rid eta) s = .next t ∧ t.entry? rid = some { e with eta := min 60 eta.toNat } ∧
        t = { s with lif := atFrameEnd s.lif, ofe := t.ofe }) ∧
    (∀ e n h, s.entry? rid = some e → e.state = .held → e.heldSlot = some n → some h ∈ s.rhs.holds → h.rid = rid →
      let d : Word := s.rhs.seconds + BitVec.ofNat 32 ((min 60 eta.toNat + s.sul.cfg.holdGrace) * 60)
      ∃ t, exec (.update rid eta) s = .next t ∧
        (RequestIdsUnique s →
          t.entry? rid = some { e with eta := min 60 eta.toNat, deadline := some d, holdTimer := some d }) ∧
        t.rhs.holds = s.rhs.holds.map (fun x => x.map (fun r => if r.rid = rid then
          ⟨rid, n, d, e.packClass, e.returnClass, e.rider, min 60 eta.toNat⟩ else r)) ∧
        t.pln.pass.isSome = true ∧ t.slots = s.slots ∧ t.lif = atFrameEnd s.lif ∧ t.alw = s.alw ∧ t.seq = s.seq ∧
        t.sul = s.sul ∧ t.counters = s.counters)

/-- A CANCEL makes an entry CANCELLED: HEARD or EVALUATING, and it is closed for the stretch while a running evaluation
goes on; CONTENDING, and the register is cleared; OFFERED, and its pledged slot is FREE; HELD, or SERVING in the serve
queue or in a swap that stands fresh in STARTING_WAIT, and its slot is FREE and its record removed, with no frame sent;
after the last SEQ is idle and looks at the queue. Of the active swap in RETURN_OPEN, or waiting to be resumed in it:
ABORTED CANCELLED with its CLOSE, the dock locked and FREE, the release slot FREE. In a later step it is ignored, and so
is one for a terminal entry or an unknown id; each ends in SPACE (R30, R53, R116, R122, R145, R160, R175). -/
def Obligations.CancelReleasesTheHold : Prop :=
  ∀ (s : State) (rid : ReqId), operates s = true → FrameMayEnd s →
    let freed : Slot → Slot := fun x => { x with role := .free, rid := none }
    (s.entry? rid = none → NothingDue s → exec (.cancel rid) s = .next { s with lif := atFrameEnd s.lif }) ∧
    (∀ e, s.entry? rid = some e → e.state.live = false → NothingDue s →
      exec (.cancel rid) s = .next { s with lif := atFrameEnd s.lif }) ∧
    (∀ e, s.entry? rid = some e → (e.state = .heard ∨ e.state = .evaluating) →
      ∃ t e', exec (.cancel rid) s = .next t ∧ t.entry? rid = some e' ∧ e'.state = .cancelled ∧
        e'.linger = some s.rhs.seconds ∧
        (∀ ev, s.ofe.evaluation = some ev → t.ofe.evaluation = some ev) ∧
        t.lif = { atFrameEnd s.lif with
          mark := s.lif.mark.map (fun m => if m.rid = rid then { m with closed := true } else m) } ∧
        t = { s with lif := t.lif, pln := t.pln, ofe := t.ofe, svy := t.svy }) ∧
    (∀ e, s.entry? rid = some e → e.state = .contending →
      ∃ t e', exec (.cancel rid) s = .next t ∧ t.entry? rid = some e' ∧ e'.state = .cancelled ∧ e'.tries = 0 ∧
        e'.linger = some s.rhs.seconds ∧ t.lif = { atFrameEnd s.lif with register := none } ∧
        t = { s with lif := t.lif, pln := t.pln, ofe := t.ofe, svy := t.svy }) ∧
    (∀ e o sl, s.entry? rid = some e → e.state = .offered → e.offer = some o → s.slots[o.slot]? = some sl →
      sl.role = .pledged → sl.rid = some rid →
      ∃ t e', exec (.cancel rid) s = .next t ∧ t.entry? rid = some e' ∧ e'.state = .cancelled ∧
        e'.pledgeTimer = none ∧ e'.linger = some s.rhs.seconds ∧ t.slots = s.slots.modify o.slot freed ∧
        t.pln.pass.isSome = true ∧ t.lif = atFrameEnd s.lif ∧
        t = { s with lif := t.lif, slots := t.slots, pln := t.pln, ofe := t.ofe, svy := t.svy }) ∧
    (∀ e w n sl, RequestIdsUnique s → s.entry? rid = some e → e.state = .serving → s.seq.active = some w →
      w.rid = rid → w.step = .startingWait → w.resume = none → rid ∉ s.seq.queue → e.heldSlot = some n →
      s.slots[n]? = some sl → sl.role = .held → sl.rid = some rid →
      ∃ t e', exec (.cancel rid) s = .next t ∧ t.entry? rid = some e' ∧ e'.state = .cancelled ∧
        QueueLookedAt s t { s.seq with active := none } (s.slots.modify n freed) ∧
        (∀ h, some h ∈ t.rhs.holds → h.rid ≠ rid) ∧ t.pln.pass.isSome = true ∧ t.alw = s.alw ∧ t.sul = s.sul ∧
        ((s.seq.queue = [] ∨ s.seq.firstPassSeen = false) → t.lif = atFrameEnd s.lif ∧ t.counters = s.counters)) ∧
    (∀ e n sl, s.entry? rid = some e → e.state = .held → e.heldSlot = some n → s.slots[n]? = some sl →
      sl.role = .held → sl.rid = some rid →
      ∃ t e', exec (.cancel rid) s = .next t ∧ t.entry? rid = some e' ∧ e'.state = .cancelled ∧
        e'.heldSlot = none ∧ e'.deadline = none ∧ e'.holdTimer = none ∧
        t.slots = s.slots.modify n freed ∧
        (∀ h, some h ∈ t.rhs.holds → h.rid ≠ rid) ∧ t.pln.pass.isSome = true ∧ t.lif = atFrameEnd s.lif ∧
        t.counters = s.counters ∧ t.alw = s.alw ∧ t.seq = s.seq ∧ t.sul = s.sul) ∧
    (∀ e n sl, s.entry? rid = some e → e.state = .serving → e.heldSlot = some n → s.slots[n]? = some sl →
      sl.role = .held → sl.rid = some rid → rid ∈ s.seq.queue → (∀ w, s.seq.active = some w → w.rid ≠ rid) →
      ∃ t e', exec (.cancel rid) s = .next t ∧ t.entry? rid = some e' ∧ e'.state = .cancelled ∧
        t.slots = s.slots.modify n freed ∧ (∀ h, some h ∈ t.rhs.holds → h.rid ≠ rid) ∧
        t.seq = { s.seq with queue := s.seq.queue.filter (fun r => decide (r ≠ rid)) } ∧
        t.pln.pass.isSome = true ∧ t.lif = atFrameEnd s.lif ∧ t.counters = s.counters ∧ t.alw = s.alw ∧
        t.sul = s.sul) ∧
    (∀ e w d rs, s.entry? rid = some e → e.state = .serving → s.seq.active = some w → w.rid = rid → s.seq.queue = [] →
      (w.step = .returnOpen ∨ (w.step = .startingWait ∧ w.resume = some .returnOpen)) → w.dock = some d →
      d ≠ w.release → s.slots[w.release]? = some rs → rs.role = .held → rs.rid = some rid →
      let closed : State := enqueue (closeFrame rid .aborted (some .cancelled) w.released w.returned)
        (bump .abortedCancelled (bump .aborted { s with lif := atFrameEnd s.lif }))
      ∃ t e', exec (.cancel rid) s = .next t ∧ t.entry? rid = some e' ∧ e'.state = .aborted ∧
        t.seq = { s.seq with active := none, timer := none } ∧
        t.slots = (s.slots.modify d (fun x => { freed x with unlocked := false })).modify w.release freed ∧
        t.svy.focus = none ∧ t.rhs.progress = none ∧ (∀ h, some h ∈ t.rhs.holds → h.rid ≠ rid) ∧
        t.lif = closed.lif ∧ t.counters = closed.counters ∧ t.alw = s.alw ∧ t.sul = s.sul) ∧
    (∀ e w, s.entry? rid = some e → e.state = .serving → s.seq.active = some w → w.rid = rid → NothingDue s →
      (if w.step = .startingWait then ∃ p, w.resume = some p ∧ p ≠ .returnOpen else w.step ≠ .returnOpen) →
      exec (.cancel rid) s = .next { s with lif := atFrameEnd s.lif })

/-! ### Swaps (file 09) -/

/-- A BEGIN for a HELD request, with SEQ idle, in ACTIVE or JOINING: once the first pass is seen, the lowest EMPTY, FREE slot
becomes the dock, UNLOCKED and focused, the return timer starts, the progress record is written, the entry is SERVING;
without such a slot the request is handed back, HELD with a fresh deadline and its record rewritten, with DECLINE NO_DOCK;
before the first pass has ended the swap stands in STARTING_WAIT and nothing opens. Requests that wait in the serve queue,
as they may in JOINING, stay there (R30, R143 to R147). -/
def Obligations.BeginOpensTheReturn : Prop :=
  ∀ (s : State) (target : Byte) (rid : ReqId) (e : Entry) (n : Nat), operates s = true →
    FrameMayEnd s → target.toNat = s.sul.station.toNat → s.entry? rid = some e → e.state = .held →
    e.heldSlot = some n → (s.sul.state = .active ∨ s.sul.state = .joining) → s.seq.active = none →
    (∀ d sl, s.seq.firstPassSeen = true → s.slots[d]? = some sl → sl.cond = .empty → sl.role = .free →
      (∀ m x, m < d → s.slots[m]? = some x → ¬ (x.cond = .empty ∧ x.role = .free)) →
      ∃ t, exec (.beginSwap target rid) s = .next t ∧
        t.entry? rid = some { e with state := .serving, servePos := some .active, holdTimer := none } ∧
        t.seq = { s.seq with active := some ⟨rid, .returnOpen, some d, n, none, none, none, none⟩,
                             timer := some (.ret, s.sul.cfg.returnTimer * 1000) } ∧
        t.slots = s.slots.modify d (fun x => { x with role := .dock, rid := some rid, unlocked := true }) ∧
        t.rhs = { s.rhs with progress := some ⟨rid, .returnOpen, d, n, none⟩ } ∧ t.svy.focus = some d ∧
        t.pln.pass.isSome = true ∧ t.lif = atFrameEnd s.lif ∧ t.alw = s.alw ∧ t.sul = s.sul ∧
        t.counters = s.counters) ∧
    (s.seq.firstPassSeen = true → (∀ x ∈ s.slots, ¬ (x.cond = .empty ∧ x.role = .free)) →
      (s.seq.queue = [] ∨ s.sul.state = .joining) →
      let d : Word := s.rhs.seconds + BitVec.ofNat 32 (s.sul.cfg.holdGrace * 60)
      let declined : State := enqueue ⟨0x0C#8, .decline, 0x3F#8, ridBytes rid ++ [3]⟩
        (bump .declineNoDock { s with lif := atFrameEnd s.lif })
      ∃ t e', exec (.beginSwap target rid) s = .next t ∧ t.entry? rid = some e' ∧ e'.state = .held ∧
        e'.deadline = some d ∧ e'.holdTimer = some d ∧ e'.servePos = none ∧ e'.heldSlot = some n ∧
        t.seq = { s.seq with timer := none } ∧ t.slots = s.slots ∧ t.rhs.progress = none ∧
        t.rhs.holds = putHold ⟨rid, n, d, e.packClass, e.returnClass, e.rider, e.eta⟩ s.rhs.holds ∧
        t.lif = declined.lif ∧ t.counters = declined.counters ∧ t.pln.pass.isSome = true ∧ t.alw = s.alw ∧
        t.sul = s.sul) ∧
    (s.seq.firstPassSeen = false →
      ∃ t, exec (.beginSwap target rid) s = .next t ∧
        (NothingDue s →
          t.entry? rid = some { e with state := .serving, servePos := some .active, holdTimer := none }) ∧
        t.seq = { s.seq with active := some ⟨rid, .startingWait, none, n, none, none, none, none⟩ } ∧
        t.slots = s.slots ∧ t.rhs = s.rhs ∧ t.lif = atFrameEnd s.lif ∧ t.alw = s.alw ∧ t.sul = s.sul ∧
        t.counters = s.counters)

/-- A BEGIN that starts no swap: malformed for a group or all target; DECLINE UNKNOWN, SERVICE, SUPPLY or BUSY, each
counted; or a place in the serve queue, its hold timer stopped. An ASSIGN with a chosen station above 15 is malformed.
An ASSIGN here for no entry draws DECLINE UNKNOWN, for an UNASSIGNED one LATE, and for one in any other state but
OFFERED NOT_ELIGIBLE. Each ends in SPACE (R30, R50, R54, R56, R138, R145, R146). -/
def Obligations.BeginQueuedOrDeclined : Prop :=
  ∀ (s : State) (target : Byte) (rid : ReqId), operates s = true → FrameMayEnd s → NothingDue s →
    let u : State := { s with lif := atFrameEnd s.lif }
    let refused (code : Byte) (k : Counter) : Host.Outcome State Fault Refusal :=
      .next (enqueue ⟨0x0C#8, .decline, 0x3F#8, ridBytes rid ++ [code]⟩ (bump k u))
    (target.toNat ≠ s.sul.station.toNat → targeted s target = true →
      exec (.beginSwap target rid) s = .next (bump .malformed u)) ∧
    (target.toNat = s.sul.station.toNat →
      (s.entry? rid = none → exec (.beginSwap target rid) s = refused 5#8 .declineUnknown) ∧
      (∀ e, s.entry? rid = some e → e.state ≠ .held →
        exec (.beginSwap target rid) s = refused 5#8 .declineUnknown) ∧
      (∀ e, s.entry? rid = some e → e.state = .held →
        (s.sul.state = .withdrawn → exec (.beginSwap target rid) s = refused 7#8 .declineService) ∧
        (s.sul.state = .holdup → exec (.beginSwap target rid) s = refused 6#8 .declineSupply) ∧
        ((s.sul.state = .active ∨ s.sul.state = .joining) → s.seq.active.isSome = true →
          (2 ≤ s.seq.queue.length → exec (.beginSwap target rid) s = refused 4#8 .declineBusy) ∧
          (s.seq.queue.length < 2 → rid ∉ s.seq.queue → ∃ t, exec (.beginSwap target rid) s = .next t ∧
            t.seq = { s.seq with queue := s.seq.queue ++ [rid] } ∧
            t.entry? rid = some { e with
              state := .serving, servePos := some (if s.seq.queue = [] then .queued1 else .queued2), holdTimer := none } ∧
            t = { u with seq := t.seq, ofe := t.ofe })))) ∧
    (∀ chosen slot : Byte, 15 < chosen.toNat →
      exec (.assign rid chosen slot) s = .next (bump .malformed u) ∧
      exec (.assignOther rid chosen slot) s = .next (bump .malformed u)) ∧
    (∀ chosen slot : Byte, chosen.toNat = s.sul.station.toNat →
      (s.entry? rid = none → exec (.assign rid chosen slot) s = refused 5#8 .declineUnknown) ∧
      (∀ e, s.entry? rid = some e → e.state = .unassigned →
        exec (.assign rid chosen slot) s = refused 1#8 .declineLate) ∧
      (∀ e, s.entry? rid = some e → e.state ≠ .unassigned → e.state ≠ .offered →
        exec (.assign rid chosen slot) s = refused 2#8 .declineNotEligible))

/-- The step timers: RETURN_TIMEOUT ends the swap with every slot it held FREE and locked; the check timer leads to
REJECT_OUT; the removal timer of a rejected return faults the bay; the wait timer gives the return back; the collect
timer ends UNCOLLECTED (R148, R150, R151, R155, R157, R159). Bits 5 and 4 of the CLOSE's reason byte, which is 2 after
RETURN_TIMEOUT, are 0 by the model's choice (log 41). With requests in the serve queue, a swap's end by the return
timer, by the removal timer of GIVE_BACK, by the wait timer or by the collect timer lets the oldest of them start in
ACTIVE, and the one behind it moves up; in other states the queue stays (R145). The reports of a survey step on the
slot the swap watches: a settling dock leads to RETURN_CHECK; a pack read there is accepted and the release slot
judged, or the return is rejected; in RELEASE_WAIT a visit of the release slot opens it, waits on, or substitutes; the
removal of a rejected, a given back or a released pack ends the swap (R148 to R156, R159). Where GIVE_BACK is entered
and the accepted return's slot is no longer FREE or is EMPTY, the swap ends in that event with no latch opened (R154).
A slot is sound for a class when it is OCCUPIED, its cut clear, its pack OK, of the class and at or above its minimum
SoH, and releasable when also at or above T; a substitute's score is its wear and fill terms (9.4, R105, R153). A CLOSE
carries the outcome, the abort reason, and the marks and ids of the packs (R57). -/
def Obligations.StepTimersEndTheirSteps : Prop :=
  (∀ (cfg : Cfg) (k : PackClass) (sl : Slot),
    (sound cfg k sl = true ↔ ∃ p, sl.pack = some p ∧ sl.cond = .occupied ∧ p.ok = true ∧ sl.cut = false ∧ p.cls = k ∧
      (cfg.figures k).minSoh ≤ p.soh) ∧
    (releasable cfg k sl = true ↔ sound cfg k sl = true ∧
      ∃ p, sl.pack = some p ∧ (cfg.figures k).release ≤ p.soc) ∧
    ∀ p, sl.pack = some p → substituteScore sl = min 254 (wearTerm p.cycles + fillTerm p.soc)) ∧
  (∀ (rid : ReqId) (o : Outcome) (abort : Option AbortReason) (released returned : Option Word),
    closeFrame rid o abort released returned = ⟨0x0C#8, .close, 0x3F#8, closeBytes rid o abort released returned⟩) ∧
  (∀ (s : State) (w : Swap) (e : Entry) (ms d : Nat) (ds rs : Slot), operates s = true → s.seq.queue = [] →
    s.seq.active = some w → s.entry? w.rid = some e → w.dock = some d → d ≠ w.release → s.slots[d]? = some ds →
    s.slots[w.release]? = some rs → rs.rid = some w.rid →
    let idle : Seq := { s.seq with active := none, timer := none }
    let lockedFree : Slot → Slot := fun x => { x with unlocked := false, role := .free, rid := none }
    let free : Slot → Slot := fun x => { x with role := .free, rid := none }
    (w.step = .returnOpen → s.seq.timer = some (.ret, ms) → rs.role = .held → w.released = none →
      w.returned = none →
      let c : TxFrame := ⟨0x0C#8, .close, 0x3F#8, ridBytes w.rid ++ [3, 2, 0, 0, 0, 0, 0, 0, 0, 0]⟩
      ∃ t e', exec .returnTimerExpiry s = .next t ∧ t.seq = idle ∧
        t.slots = (s.slots.modify d lockedFree).modify w.release free ∧ t.svy.focus = none ∧
        t.rhs.progress = none ∧ (∀ h, some h ∈ t.rhs.holds → h.rid ≠ w.rid) ∧ t.entry? w.rid = some e' ∧
        e'.state = .aborted ∧ t.lif = (enqueue c s).lif ∧
        t.counters = (enqueue c (bump .abortedReturnTimeout (bump .aborted s))).counters ∧ t.alw = s.alw ∧
        t.sul = s.sul) ∧
    (w.step = .returnCheck → s.seq.timer = some (.check, ms) → ds.cond ≠ .empty →
      ∃ t, exec .checkTimerExpiry s = .next t ∧
        t.seq = { s.seq with active := some { w with step := .rejectOut, resume := none },
                             timer := some (.removal, 60000) } ∧
        t.slots = s.slots.modify d (fun x => { x with unlocked := true }) ∧ t.svy.focus = some d ∧
        t.rhs = { s.rhs with progress := some ⟨w.rid, .rejectOut, d, w.release, w.returned⟩ } ∧ t.lif = s.lif ∧
        t.alw = s.alw ∧ t.sul = s.sul ∧ t.counters = s.counters) ∧
    (w.step = .returnCheck → s.seq.timer = some (.check, ms) → ds.cond = .empty →
      ∃ t, exec .checkTimerExpiry s = .next t ∧ SwapEnded s t w .aborted (some .returnRejected) .held ∧
        LockedFree t d) ∧
    (w.step = .rejectOut → s.seq.timer = some (.removal, ms) → rs.role = .held →
      ∃ t ds' e', exec .removalTimerExpiry s = .next t ∧ t.seq = idle ∧ t.slots[d]? = some ds' ∧
        ds'.cond = .fault ∧ ds'.reason = some .rejectAbandoned ∧ ds'.pack = none ∧ ds'.setpoint = 0 ∧
        ds'.unlocked = false ∧ ds'.role = .free ∧ ds'.rid = none ∧ t.slots[w.release]? = some (free rs) ∧
        (∀ m, m ≠ d → m ≠ w.release → t.slots[m]? = s.slots[m]?) ∧ t.rhs.progress = none ∧
        t.entry? w.rid = some e' ∧ e'.state = .aborted ∧ t.faultLamp = true ∧ t.alw = s.alw ∧ t.sul = s.sul) ∧
    (∀ r, w.step = .giveBack → s.seq.timer = some (.removal, ms) → w.abort = some r →
      ∃ t, exec .removalTimerExpiry s = .next t ∧ SwapEnded s t w .aborted (some r) .aborted ∧ LockedFree t d) ∧
    (w.step = .releaseWait → s.seq.timer = some (.wait, ms) → ds.role = .free → ds.cond ≠ .empty →
      ∃ t, exec .waitTimerExpiry s = .next t ∧
        t.seq = { s.seq with
          active := some { w with step := .giveBack, abort := some .releaseWaitExceeded, resume := none },
          timer := some (.removal, 60000) } ∧
        t.slots = s.slots.modify d (fun x => { x with role := .dock, rid := some w.rid, unlocked := true }) ∧
        t.svy.focus = some d ∧
        t.rhs = { s.rhs with progress := some ⟨w.rid, .giveBackWaitExceeded, d, w.release, w.returned⟩ } ∧
        t.lif = s.lif ∧ t.alw = s.alw ∧ t.sul = s.sul ∧ t.counters = s.counters) ∧
    (w.step = .releaseWait → s.seq.timer = some (.wait, ms) → (ds.role ≠ .free ∨ ds.cond = .empty) →
      ∃ t, exec .waitTimerExpiry s = .next t ∧ GiveBackEndsAtOnce s t w .releaseWaitExceeded rs) ∧
    (w.step = .releaseOpen → s.seq.timer = some (.collect, ms) →
      ∃ t e', exec .collectTimerExpiry s = .next t ∧ t.seq = idle ∧
        t.slots = s.slots.modify w.release lockedFree ∧ t.svy.focus = none ∧ t.rhs.progress = none ∧
        (∀ h, some h ∈ t.rhs.holds → h.rid ≠ w.rid) ∧ t.entry? w.rid = some e' ∧ e'.state = .done ∧
        t.counters = (enqueue (closeFrame w.rid .uncollected none w.released w.returned)
          (bump .uncollected s)).counters ∧ t.alw = s.alw ∧ t.sul = s.sul)) ∧
  (∀ (s : State) (w : Swap) (e : Entry) (ms d : Nat) (ds rs : Slot), operates s = true → RequestIdsUnique s →
    s.seq.active = some w → w.rid ∉ s.seq.queue → s.entry? w.rid = some e → w.dock = some d → d ≠ w.release →
    s.slots[d]? = some ds → s.slots[w.release]? = some rs → rs.rid = some w.rid →
    let idle : Seq := { s.seq with active := none, timer := none }
    let lockedFree : Slot → Slot := fun x => { x with unlocked := false, role := .free, rid := none }
    let free : Slot → Slot := fun x => { x with role := .free, rid := none }
    (w.step = .returnOpen → s.seq.timer = some (.ret, ms) → rs.role = .held →
      ∃ t e', exec .returnTimerExpiry s = .next t ∧ t.entry? w.rid = some e' ∧ e'.state = .aborted ∧
        QueueLookedAt s t idle ((s.slots.modify d lockedFree).modify w.release free) ∧ t.alw = s.alw ∧
        t.sul = s.sul) ∧
    (∀ r, w.step = .giveBack → s.seq.timer = some (.removal, ms) → w.abort = some r → rs.role = .held →
      ∃ t e', exec .removalTimerExpiry s = .next t ∧ t.entry? w.rid = some e' ∧ e'.state = .aborted ∧
        QueueLookedAt s t idle ((s.slots.modify d lockedFree).modify w.release free) ∧ t.alw = s.alw ∧
        t.sul = s.sul) ∧
    (w.step = .releaseWait → s.seq.timer = some (.wait, ms) → (ds.role ≠ .free ∨ ds.cond = .empty) → rs.role = .held →
      ∃ t e', exec .waitTimerExpiry s = .next t ∧ t.entry? w.rid = some e' ∧ e'.state = .aborted ∧
        QueueLookedAt s t idle (s.slots.modify w.release free) ∧ t.alw = s.alw ∧ t.sul = s.sul) ∧
    (w.step = .releaseOpen → s.seq.timer = some (.collect, ms) →
      ∃ t e', exec .collectTimerExpiry s = .next t ∧ t.entry? w.rid = some e' ∧ e'.state = .done ∧
        QueueLookedAt s t idle (s.slots.modify w.release lockedFree) ∧ t.alw = s.alw ∧ t.sul = s.sul)) ∧
  (∀ (s : State) (st : SurveyStep) (w : Swap) (e : Entry) (d : Nat) (ds rs : Slot) (seen : Bool) (levels : List Bool)
    (hot : Bool), operates s = true → s.svy.step = some st → s.seq.queue = [] → s.seq.active = some w →
    s.entry? w.rid = some e → w.dock = some d → d ≠ w.release → s.slots[d]? = some ds →
    s.slots[w.release]? = some rs → rs.rid = some w.rid →
    let read := readReply (linkChars levels)
    let removed (x : Slot) : Prop := seen = false ∧ 1 ≤ x.absentCount ∧
      (x.cond = .occupied ∨ x.cond = .unreadable ∨ (x.cond = .fault ∧ x.reason ≠ some .tamper))
    ∃ t, exec (.surveyStepEnd seen levels hot) s = .next t ∧ t.alw = s.alw ∧ t.sul = s.sul ∧
      (w.step = .returnOpen → st.slot = d → ds.cond = .empty → seen = true →
        t.seq.active = some { w with step := .returnCheck, resume := none } ∧ t.seq.timer = some (.check, 10000) ∧
        t.rhs = { s.rhs with progress := some ⟨w.rid, .returnCheck, d, w.release, w.returned⟩ } ∧
        t.svy.focus = s.svy.focus ∧ t.lif = s.lif) ∧
      (∀ p, w.step = .returnCheck → st.slot = d → ds.cond = .settling → seen = true → st.readable = true →
        read = .valid p →
        (p.cls = e.returnClass → p.ok = true → p.temp < s.sul.cfg.hotLimit →
          ReleaseJudged s t { w with returned := some p.id } e d { ds with cond := .occupied, role := .free } rs ∧
          (∃ y, t.slots[d]? = some y ∧ y.cond = .occupied ∧ y.pack = some p) ∧
          (∃ e', t.entry? w.rid = some e' ∧ e'.returnedId = some p.id) ∧
          (∀ x, t.seq.active = some x → x.step ≠ .giveBack → LockedFree t d)) ∧
        (¬ (p.cls = e.returnClass ∧ p.ok = true ∧ p.temp < s.sul.cfg.hotLimit) → RejectsOut s t w d)) ∧
      (w.step = .returnCheck → st.slot = d → ds.cond = .settling → seen = true → 2 ≤ ds.presentCount →
        (∀ p, read ≠ .valid p) → RejectsOut s t w d) ∧
      (w.step = .rejectOut → st.slot = d → removed ds →
        SwapEnded s t w .aborted (some .returnRejected) .held ∧ LockedFree t d) ∧
      (∀ p q, w.step = .releaseWait → st.slot = w.release → rs.cond = .occupied → seen = true → st.readable = true →
        read = .valid p → rs.pack = some q → q.id = p.id →
        (releasable s.sul.cfg e.packClass { rs with pack := some p } = true →
          ReleaseOpened s t w d w.release { rs with pack := some p }) ∧
        (releasable s.sul.cfg e.packClass { rs with pack := some p } = false →
          sound s.sul.cfg e.packClass { rs with pack := some p } = true →
          t.seq.active = some w ∧ t.seq.timer = s.seq.timer ∧ t.rhs = s.rhs ∧ t.lif = s.lif)) ∧
      (w.step = .releaseWait → st.slot = w.release → removed rs → rs.role = .held →
        Substituted s t w e d ds rs) ∧
      (w.step = .releaseOpen → st.slot = w.release → removed rs →
        SwapEnded s t w .done none .done ∧ LockedFree t w.release) ∧
      (∀ r, w.step = .giveBack → st.slot = d → removed ds → w.abort = some r →
        SwapEnded s t w .aborted (some r) .aborted ∧ LockedFree t d ∧
        (rs.role = .held → ∃ z, t.slots[w.release]? = some z ∧ z.role = .free ∧ z.rid = none)))

/-! ### The survey, the thermal cut, the door (file 01) -/

/-- The end of a survey step moves the slot's condition: insertion through SETTLING to OCCUPIED or UNREADABLE, a fresh
record, an exchanged pack, a read that fails for 30 s, a removal on the second absent visit to EMPTY or FAULT(TAMPER),
the visits of UNREADABLE and FAULT slots, and the thermal cut cleared; the other slots and the line are untouched, and
a planning pass follows (R5, R6, R12 to R17, R20, R93). A slot that becomes UNREADABLE is counted (R12). A visit that
sees presence with the door closed sets the door-clear mark, and no other visit changes it (R13, R18); that the door's
level is the one at the step's end, not at its beginning, is the model's choice (log 50). No swap watches the slot
here. Where presence was seen on a slot that was not FAULT, the read command has gone out on its contact link, start
bit low, least significant bit first, stop bit high, and characters in that format are read back (R5, R9). That a slot
whose absent count is already 2, as a FAULT slot's may be, becomes EMPTY at its next absent visit is the model's
reading (log 16): R16 speaks of the visit that brings the count to 2. That the visit writes the door-clear mark before
an exchanged pack is judged is its reading of R13 and R14 (log 15). A reply of thirteen characters with a good CRC-8
and a class of 0 to 3 gives the pack record, its SoC, SoH and temperature clamped; a shorter one is no reply, one with
another class invalid (R5, R9 to R11). -/
def Obligations.SurveyStepMovesTheCondition : Prop :=
  (∀ (s : State) (st : SurveyStep) (sl : Slot) (seen : Bool) (levels : List Bool) (hot : Bool), operates s = true →
    s.svy.step = some st → s.slots[st.slot]? = some sl →
    (∀ w, s.seq.active = some w → w.step ≠ .startingWait ∧ w.release ≠ st.slot ∧ w.dock ≠ some st.slot) →
    let read := readReply (linkChars levels)
    let attempt : Prop := seen = true ∧ st.readable = true
    let age := (s.rhs.seconds - sl.goodAt).toNat
    ∃ t sl', exec (.surveyStepEnd seen levels hot) s = .next t ∧ t.slots[st.slot]? = some sl' ∧
      (sl.cond = .empty → seen = true →
        sl'.cond = .settling ∧ sl'.present = true ∧ sl'.presentCount = 1 ∧ sl'.absentCount = 0 ∧ sl'.setpoint = 0) ∧
      (sl.cond = .empty → seen = false → sl'.cond = .empty ∧ sl'.present = false) ∧
      (∀ p, sl.cond = .settling → attempt → read = .valid p → p.ok = true →
        sl'.cond = .occupied ∧ sl'.pack = some p ∧ sl'.goodAt = s.rhs.seconds ∧
        sl'.ready = readyEstimate (s.sul.cfg.figures p.cls) p.soc sl'.setpoint) ∧
      (∀ p, sl.cond = .settling → attempt → read = .valid p → p.ok = false →
        sl'.cond = .fault ∧ sl'.reason = some .packFault ∧ sl'.pack = none) ∧
      (sl.cond = .settling → seen = true → (∀ p, read ≠ .valid p) →
        (2 ≤ sl.presentCount → sl'.cond = .unreadable ∧ sl'.presentCount = 3 ∧
          (s.counters.length = 32 → t.count .unreadable = satInc (s.count .unreadable))) ∧
        (sl.presentCount < 2 → sl'.cond = .settling ∧ sl'.presentCount = sl.presentCount + 1)) ∧
      (sl.cond = .settling → seen = false → sl'.cond = .empty ∧ sl'.present = false) ∧
      (∀ p q, sl.cond = .occupied → attempt → read = .valid p → sl.pack = some q →
        (q.id = p.id → p.ok = true → sl'.cond = .occupied ∧ sl'.pack = some p ∧ sl'.goodAt = s.rhs.seconds) ∧
        (q.id = p.id → p.ok = false → sl'.cond = .fault ∧ sl'.reason = some .packFault ∧ sl'.pack = none) ∧
        (q.id ≠ p.id →
          let tamper : Prop := sl.unlocked = false ∧ (sl.doorClear = true ∨ s.sul.doorOpen = false) ∧
            sl.role ≠ .releasing
          (tamper → sl'.cond = .fault ∧ sl'.reason = some .tamper ∧ sl'.pack = none ∧ sl'.doorCycle = false) ∧
          (¬ tamper → sl'.cond = .settling ∧ sl'.pack = none ∧ sl'.presentCount = 1 ∧ sl'.absentCount = 0 ∧
            sl'.present = true ∧ sl'.setpoint = 0))) ∧
      (sl.cond = .occupied → seen = true → (∀ p, read ≠ .valid p) →
        (30 ≤ age → sl'.cond = .fault ∧ sl'.reason = some .unreadableTimeout ∧ sl'.pack = none ∧ sl'.setpoint = 0) ∧
        (age < 30 → sl'.cond = .occupied ∧ sl'.pack = sl.pack ∧ sl'.goodAt = sl.goodAt ∧ sl'.absentCount = 0)) ∧
      (sl.cond = .occupied → seen = false → sl.absentCount = 0 →
        sl'.cond = .occupied ∧ sl'.pack = sl.pack ∧ sl'.absentCount = 1) ∧
      (sl.cond = .occupied → seen = false → 1 ≤ sl.absentCount →
        (sl.unlocked = false → sl.doorClear = true → sl.role ≠ .releasing →
          sl'.cond = .fault ∧ sl'.reason = some .tamper ∧ sl'.pack = none ∧ sl'.setpoint = 0) ∧
        ((sl.unlocked = true ∨ sl.doorClear = false ∨ sl.role = .releasing) →
          sl'.cond = .empty ∧ sl'.pack = none ∧ sl'.setpoint = 0)) ∧
      (∀ p, sl.cond = .unreadable → attempt → read = .valid p →
        (p.ok = true → sl'.cond = .occupied ∧ sl'.pack = some p ∧ sl'.goodAt = s.rhs.seconds) ∧
        (p.ok = false → sl'.cond = .fault ∧ sl'.reason = some .packFault ∧ sl'.pack = none)) ∧
      (sl.cond = .unreadable → seen = true → (∀ p, read ≠ .valid p) → sl'.cond = .unreadable ∧ sl'.absentCount = 0) ∧
      (sl.cond = .unreadable → seen = false →
        (sl.absentCount = 0 → sl'.cond = .unreadable ∧ sl'.absentCount = 1) ∧
        (1 ≤ sl.absentCount → sl'.cond = .empty ∧ sl'.pack = none)) ∧
      (sl.cond = .fault → seen = true → sl'.cond = .fault ∧ sl'.reason = sl.reason ∧ sl'.absentCount = 0) ∧
      (sl.cond = .fault → seen = false →
        (sl.absentCount = 0 → sl'.cond = .fault ∧ sl'.reason = sl.reason ∧ sl'.absentCount = 1) ∧
        (1 ≤ sl.absentCount → (sl.reason ≠ some .tamper ∨ sl.doorCycle = true) →
          sl'.cond = .empty ∧ sl'.reason = none) ∧
        (1 ≤ sl.absentCount → sl.reason = some .tamper → sl.doorCycle = false →
          sl'.cond = .fault ∧ sl'.reason = some .tamper ∧ sl'.absentCount = 2)) ∧
      (hot = true → sl'.cut = sl.cut) ∧
      (hot = false → sl'.cond = .empty → sl'.cut = false) ∧
      (∀ p, hot = false → sl'.cond = .occupied → attempt → read = .valid p →
        (p.temp ≤ (s.sul.cfg.hotLimit : Int) - 5 → sl'.cut = false) ∧
        ((s.sul.cfg.hotLimit : Int) - 5 < p.temp → sl'.cut = sl.cut)) ∧
      (sl'.cond ≠ .empty → (sl'.cond = .occupied → ¬ attempt ∨ ∀ p, read ≠ .valid p) → sl'.cut = sl.cut) ∧
      (attempt → t.svy.link =
        some (st.slot, [false, true, false, true, false, false, true, false, true, true])) ∧
      (¬ attempt → t.svy.link = none ∧ (s.counters.length = 32 →
        t.count .linkCrc = s.count .linkCrc ∧ t.count .noReply = s.count .noReply)) ∧
      (attempt → s.counters.length = 32 →
        t.count .linkCrc = (if read = .badCrc then satInc (s.count .linkCrc) else s.count .linkCrc) ∧
        t.count .noReply = (if read = .noReply ∨ read = .invalid then satInc (s.count .noReply)
          else s.count .noReply)) ∧
      (s.counters.length = 32 → (sl.cond = .unreadable ∨ sl'.cond ≠ .unreadable) →
        t.count .unreadable = s.count .unreadable) ∧
      sl'.doorClear = (sl.doorClear || (seen && !s.sul.doorOpen)) ∧
      sl'.role = sl.role ∧ sl'.rid = sl.rid ∧ sl'.unlocked = sl.unlocked ∧
      (∀ m, m ≠ st.slot → t.slots[m]? = s.slots[m]?) ∧ t.pln.pass.isSome = true ∧ t.lif = s.lif ∧
      t.alw = s.alw ∧ t.rhs = s.rhs ∧ t.sul = s.sul ∧ t.seq.active = s.seq.active) ∧
  (∀ chars : List Byte, linkChars (chars.flatMap linkChar) = chars) ∧
  ∀ chars : List Byte,
    (chars.length < 13 → readReply chars = .noReply) ∧
    (13 ≤ chars.length → crc8 (chars.take 12) ≠ chars.getD 12 0 → readReply chars = .badCrc) ∧
    (13 ≤ chars.length → crc8 (chars.take 12) = chars.getD 12 0 →
      (4 ≤ (chars.getD 4 0).toNat → readReply chars = .invalid) ∧
      ((chars.getD 4 0).toNat < 4 → ∃ p, readReply chars = .valid p ∧ PackRead chars p))

/-- A thermal trip cuts the slot's charger at once; on a slot already tripped it changes nothing, nor on one that is
not fitted (the model's choice, log 2); in RELEASE_WAIT on the slot it leads to a substitute, or to GIVE_BACK with
reason NO_PACK (R19, R93, R153 to R155). The pass gap's expiry begins the next pass, or leaves it due while a focus
step is in progress (R7). After a step of the survey: the first regular visit of a slot is followed by its confirm
step; then comes the focus step, or the next regular step; after the last the pass ends, reported as the first one
once, and the gap runs, with focus steps back to back, or the next pass begins at once with a gap of 0 (R3, R4, R7, R8;
that with a gap of 0 the last regular step's focus step still comes first is the model's reading, log 26). The focus
slot is the one SEQ has set by the end of the step's event, with or without a swap: it changes only with the swap, and
stands where no swap watches the slot (R8). -/
def Obligations.ThermalTripAndPassGap : Prop :=
  (∀ (s : State) (n : Nat) (sl : Slot), operates s = true → s.slots[n]? = some sl →
    (sl.cut = false → (∀ w, s.seq.active = some w → w.step = .releaseWait → w.release ≠ n) →
      ∃ t sl', exec (.thermalTrip n) s = .next t ∧
      t.slots[n]? = some sl' ∧ sl'.cut = true ∧ sl'.setpoint = 0 ∧ t.setpointOutput n = 0 ∧ sl'.cond = sl.cond ∧
      sl'.pack = sl.pack ∧ sl'.role = sl.role ∧ sl'.unlocked = sl.unlocked ∧
      (∀ m, m ≠ n → t.slots[m]? = s.slots[m]?) ∧ t.pln.pass.isSome = true ∧
      t = { s with slots := t.slots, pln := t.pln, ofe := t.ofe, svy := t.svy }) ∧
    (∀ w e d ds, sl.cut = false → s.seq.active = some w → w.step = .releaseWait → w.release = n →
      s.entry? w.rid = some e → w.dock = some d → d ≠ n → s.slots[d]? = some ds → sl.role = .held →
      sl.rid = some w.rid →
      ∃ t sl', exec (.thermalTrip n) s = .next t ∧ Substituted s t w e d ds sl ∧ t.slots[n]? = some sl' ∧
        sl'.cut = true ∧ sl'.setpoint = 0 ∧ t.setpointOutput n = 0 ∧ t.alw = s.alw ∧ t.sul = s.sul) ∧
    (sl.cut = true → exec (.thermalTrip n) s = .next s)) ∧
  (∀ (s : State) (n : Nat), s.slots.length ≤ n → exec (.thermalTrip n) s = .next s) ∧
  (∀ (s : State) (ms n : Nat) (rest : List Nat), operates s = true → s.svy.gap = .running ms →
    s.sul.cfg.steps = n :: rest →
    (s.svy.step = none → exec .passGapExpiry s = .next { s with
      svy.next := 1, svy.gap := .inPass,
      svy.step := some ⟨n, .regular, (match s.slots[n]? with
        | some sl => decide (sl.cond ≠ .fault)
        | none => false), s.sul.cfg.window⟩ }) ∧
    (s.svy.step.isSome = true → exec .passGapExpiry s = .next { s with svy.gap := .due })) ∧
  (∀ (s : State) (st : SurveyStep) (sl : Slot) (seen : Bool) (levels : List Bool) (hot : Bool), operates s = true →
    s.svy.step = some st → s.slots[st.slot]? = some sl →
    ∃ t, exec (.surveyStepEnd seen levels hot) s = .next t ∧
      ((∀ w, s.seq.active = some w → w.step ≠ .startingWait ∧ w.release ≠ st.slot ∧ w.dock ≠ some st.slot) →
        t.seq.active = s.seq.active ∧ t.svy.focus = s.svy.focus) ∧
      (t.seq.active = s.seq.active → t.svy.focus = s.svy.focus) ∧
      (let begins (k : StepKind) (n : Nat) : Prop := t.svy.step = some ⟨n, k, (match t.slots[n]? with
        | some x => decide (x.cond ≠ .fault)
        | none => false), s.sul.cfg.window⟩
       let other (f : Option Nat) : Prop := f = none ∨ f = some st.slot
       let last : Prop := s.sul.cfg.steps.length ≤ s.svy.next
       let passed : Prop := (st.kind = .regular ∧ sl.visited = true) ∨ st.kind = .confirm
       (st.kind = .regular → sl.visited = false → begins .confirm st.slot ∧ t.svy.next = s.svy.next ∧
         t.svy.gap = s.svy.gap ∧ ∃ x, t.slots[st.slot]? = some x ∧ x.visited = true) ∧
       (∀ n, passed → s.sul.cfg.steps[s.svy.next]? = some n → other t.svy.focus →
         begins .regular n ∧ t.svy.next = s.svy.next + 1 ∧ t.svy.gap = s.svy.gap) ∧
       (∀ f, passed → ¬ last → t.svy.focus = some f → f ≠ st.slot →
         begins .focus f ∧ t.svy.next = s.svy.next ∧ t.svy.gap = s.svy.gap) ∧
       (passed → last → t.svy.firstPassDone = true ∧
         t.seq.firstPassSeen = (!s.svy.firstPassDone || s.seq.firstPassSeen)) ∧
       (passed → last → 0 < s.sul.cfg.passGap → t.svy.gap = .running s.sul.cfg.passGap ∧
         (t.svy.focus = none → t.svy.step = none) ∧ ∀ f, t.svy.focus = some f → begins .focus f) ∧
       (∀ n rest, passed → last → s.sul.cfg.passGap = 0 → s.sul.cfg.steps = n :: rest →
         (other t.svy.focus → begins .regular n ∧ t.svy.next = 1 ∧ t.svy.gap = .inPass) ∧
         ∀ f, t.svy.focus = some f → f ≠ st.slot → begins .focus f ∧ t.svy.gap = .due) ∧
       (∀ n, st.kind = .focus → s.svy.gap = .inPass → s.sul.cfg.steps[s.svy.next]? = some n →
         begins .regular n ∧ t.svy.next = s.svy.next + 1 ∧ t.svy.gap = .inPass) ∧
       (∀ n rest, st.kind = .focus → s.svy.gap = .due → s.sul.cfg.steps = n :: rest →
         begins .regular n ∧ t.svy.next = 1 ∧ t.svy.gap = .inPass) ∧
       (∀ ms, st.kind = .focus → s.svy.gap = .running ms → t.svy.gap = .running ms ∧
         (t.svy.focus = none → t.svy.step = none) ∧ ∀ f, t.svy.focus = some f → begins .focus f)))

/-- The door's open event clears every door-clear mark and takes ACTIVE to WITHDRAWN; its close event clears a
FAULT(TAMPER) slot that has seen an open event and two absent visits, marks the cycle of one without the visits, and
takes WITHDRAWN to ACTIVE; in other states the level is kept (R16, R18, R165). -/
def Obligations.DoorEventsMarkAndChangeState : Prop :=
  (∀ s : State, operates s = true → s.sul.doorOpen = false →
    ∃ t, exec .doorOpen s = .next t ∧
      t.sul = { s.sul with doorOpen := true,
                           state := if s.sul.state = .active then .withdrawn else s.sul.state } ∧
      t.slots = s.slots.map (fun sl => { sl with
        doorClear := false
        doorOpened := sl.doorOpened || (decide (sl.cond = .fault) && decide (sl.reason = some .tamper)) }) ∧
      t.alw.demandTimer = s.alw.demandTimer ∧ t.seq = s.seq ∧ t.lif = s.lif ∧ t.rhs = s.rhs ∧
      t.counters = s.counters) ∧
  (∀ s : State, operates s = true → s.sul.doorOpen = true → s.seq.active = none → s.seq.queue = [] →
    ∃ t, exec .doorClose s = .next t ∧
      t.sul = { s.sul with doorOpen := false,
                           state := if s.sul.state = .withdrawn then .active else s.sul.state } ∧
      (∀ (n : Nat) (sl : Slot), s.slots[n]? = some sl → ∃ sl' : Slot, t.slots[n]? = some sl' ∧
        (sl.cond = .fault → sl.reason = some .tamper → sl.doorOpened = true →
          (sl.absentCount = 2 → sl'.cond = .empty ∧ sl'.reason = none ∧ sl'.setpoint = 0) ∧
          (sl.absentCount ≠ 2 → sl' = { sl with doorCycle := true })) ∧
        (¬ (sl.cond = .fault ∧ sl.reason = some .tamper ∧ sl.doorOpened = true) → sl' = sl)) ∧
      t.alw.demandTimer = s.alw.demandTimer ∧ t.seq = s.seq ∧ t.lif = s.lif ∧ t.rhs = s.rhs ∧
      t.counters = s.counters)

/-! ### Charging (files 04 and 05) -/

/-- The end of a planning pass writes every slot's cap and tier from the snapshot, its ready estimate, and the planned
setpoint, or 0 where charging is forbidden at the end, the cut is tripped, the role RELEASING, no pack OCCUPIED or the
pack exchanged (R79 to R81, R89 to R91; what happened and was undone during the pass does not count, log 47). The plan
fills the snapshot's G along tier A (RELEASE_WAIT, deadline as a plain number (log 10), rider class, slot), tier B
(SoC, slot) and tier C (slot), each slot the smaller of the rest and its cap, or 0 below P_min; where the G at the end
is below its sum, the walk is filled again from that G (R82 to R86, R88). The sum of the setpoints is at most that G,
and each is 0 or lies between P_min and the cap (R88, R90). W_d and W_u are the sums of the caps of the candidates and
of those in tier A, or 0 in HOLDUP (R84, R87). G is the formula of R67 and R68: with U at or above A and above 0, A
times W_u divided by U; else W_u and the remainder share; limited to W_d, rounded down to 50 W, and 0 outside ACTIVE
and WITHDRAWN. A W_d that moved by 500 W or more in ACTIVE or WITHDRAWN produces a DEMAND, or with the spacing timer
running sets the early-pending mark (R72). The next pass begins when one was asked for, also by a G that changed (R69,
R90); all else stays. With the core off or no pass running, PLANNING_PASS_END changes nothing, which is the model's
choice (log 2). -/
def Obligations.PassEndStaysWithinTheGrant : Prop :=
  (∀ (s : State) (p : Pass), s.core = true → s.pln.pass = some p →
    ∃ t, exec .planningPassEnd s = .next t ∧ (t.slots.map (fun sl => sl.setpoint)).sum ≤ t.alw.grant ∧
      (∀ sl ∈ t.slots, sl.setpoint = 0 ∨ (s.sul.cfg.minPower ≤ sl.setpoint ∧ sl.setpoint ≤ sl.cap)) ∧
      PlanWritten s t p.snap ∧ t.pln.urgent ≤ t.pln.wanted ∧
      t.pln.wanted = (if s.sul.state = .holdup then 0 else wantedOf s.sul.cfg p.snap) ∧
      t.pln.urgent = (if s.sul.state = .holdup then 0 else urgentOf s.sul.cfg p.snap) ∧
      t.alw.grant = grantNow t ∧ t.alw.grant ≤ t.pln.wanted ∧ t.alw.grant % 50 = 0 ∧
      (s.sul.state ≠ .active → s.sul.state ≠ .withdrawn → t.alw.grant = 0) ∧
      t.slots.map (fun sl => { sl with setpoint := 0, cap := 0, tier := .none, ready := 0 }) =
        s.slots.map (fun sl => { sl with setpoint := 0, cap := 0, tier := .none, ready := 0 }) ∧
      (let early : Prop := (s.sul.state = .active ∨ s.sul.state = .withdrawn) ∧
         (s.alw.announced + 500 ≤ t.pln.wanted ∨ t.pln.wanted + 500 ≤ s.alw.announced)
       (¬ early → t.alw = { s.alw with grant := t.alw.grant } ∧ t.lif = s.lif ∧ t.counters = s.counters) ∧
       (early → s.alw.spacingTimer.isSome = true →
         t.alw = { s.alw with grant := t.alw.grant, earlyPending := true } ∧ t.lif = s.lif ∧
         t.counters = s.counters) ∧
       (early → s.alw.spacingTimer = none →
         t.alw = { s.alw with grant := t.alw.grant, announced := t.pln.wanted, spacingTimer := some 250,
                              earlyPending := false } ∧
         t.lif = (enqueue (demandFrame t) s).lif ∧ t.counters = (enqueue (demandFrame t) s).counters)) ∧
      (operates s = true → (t.pln.pass.isSome = true ↔ s.pln.replan = true ∨ t.alw.grant ≠ s.alw.grant)) ∧
      (NothingDue s → t.ofe = s.ofe ∧ t.svy = s.svy) ∧
      t = { s with alw := t.alw, pln := t.pln, slots := t.slots, lif := t.lif, counters := t.counters,
                   ofe := t.ofe, svy := t.svy }) ∧
  (∀ s : State, (s.core = false ∨ s.pln.pass = none) → exec .planningPassEnd s = .next s) ∧
  (∀ (cfg : Cfg) (sn : Snapshot), (∀ x ∈ sn.slots, CapAndTier cfg x) ∧ WalkFollowsTheTiers cfg sn ∧
    (∀ endGrant, PlanFillsTheGrant cfg sn endGrant) ∧
    (sn.station = .holdup → wantedOf cfg sn = 0 ∧ urgentOf cfg sn = 0) ∧
    (sn.station ≠ .holdup → wantedOf cfg sn = (sn.slots.map (fun x => if tierOf cfg x = .none then 0 else capOf cfg x)).sum ∧
      urgentOf cfg sn = (sn.slots.map (fun x => if tierOf cfg x = .a then capOf cfg x else 0)).sum)) ∧
  ∀ s : State,
    let counted := (s.alw.peers.filterMap id).filter (fun p => decide (p.state = .present ∨ p.state = .stale))
    let a := s.alw.allowance
    let wd := s.pln.wanted
    let wu := s.pln.urgent
    let u := wu + (counted.map (fun p => p.urgent)).sum
    let d := (wd - wu) + (counted.map (fun p => p.wanted - p.urgent)).sum
    (s.sul.state ≠ .active → s.sul.state ≠ .withdrawn → grantNow s = 0) ∧
    ((s.sul.state = .active ∨ s.sul.state = .withdrawn) →
      (a ≤ u → 0 < u → grantNow s = min (a * wu / u) wd / 50 * 50 ∧ a * wu / u ≤ wu) ∧
      ((u < a ∨ u = 0) → d = 0 → grantNow s = min wu wd / 50 * 50) ∧
      ((u < a ∨ u = 0) → 0 < d → grantNow s = min (wu + (a - u) * (wd - wu) / d) wd / 50 * 50))

/-- A DEMAND writes its peer's entry, PRESENT with the urgent figure lowered to the wanted one, and G is recomputed; one from
the own number writes nothing. A METER writes the record in watts, fresh, its timer at 3,000 ms; the timer's expiry makes
it not fresh; A follows: L_site less N less M held within 0 and L_site, or the smaller of A_fb and L_site. Each frame ends
in SPACE (R30, R58, R59, R62, R64 to R66). -/
def Obligations.AnnouncementsAreTaken : Prop :=
  (∀ (s : State) (source : BitVec 4) (w u g : Half) (r0 r1 r2 r3 em sc : Byte), operates s = true → FrameMayEnd s →
    (source ≠ s.sul.station → ∃ t, exec (.demand source w u g r0 r1 r2 r3 em sc) s = .next t ∧
      t.alw = { s.alw with
        grant := t.alw.grant,
        peers := s.alw.peers.set source.toNat
          (some ⟨.present, w.toNat, min u.toNat w.toNat, s.rhs.seconds, r0, r1, r2, r3, em⟩) } ∧
      t.alw.grant = grantNow t ∧ (t.alw.grant ≠ s.alw.grant → t.pln.pass.isSome = true) ∧
      t = { s with lif := atFrameEnd s.lif, alw := t.alw, pln := t.pln, ofe := t.ofe, svy := t.svy }) ∧
    (source = s.sul.station → NothingDue s →
      exec (.demand source w u g r0 r1 r2 r3 em sc) s = .next { s with lif := atFrameEnd s.lif })) ∧
  (∀ (s : State) (load total : Half), operates s = true → FrameMayEnd s →
    ∃ t, exec (.meter load total) s = .next t ∧
      t.alw = { s.alw with grant := t.alw.grant, meter := ⟨load.toNat * 10, total.toNat * 10, s.rhs.seconds, true⟩,
                           freshTimer := some 3000, allowance := t.alw.allowance } ∧
      (t.alw.allowance : Int) = max 0 (min (s.sul.cfg.contract : Int)
        ((s.sul.cfg.contract : Int) - (load.toNat * 10 : Nat) - s.sul.cfg.margin)) ∧
      (t.alw.allowance ≠ s.alw.allowance → t.alw.grant = grantNow t) ∧
      t = { s with lif := atFrameEnd s.lif, alw := t.alw, pln := t.pln, ofe := t.ofe, svy := t.svy }) ∧
  (∀ s : State, s.core = true → s.alw.freshTimer.isSome = true →
    ∃ t, exec .freshnessTimerExpiry s = .next t ∧
      t.alw = { s.alw with grant := t.alw.grant, meter := { s.alw.meter with fresh := false }, freshTimer := none,
                           allowance := min s.sul.cfg.fallback s.sul.cfg.contract } ∧
      (t.alw.allowance ≠ s.alw.allowance → t.alw.grant = grantNow t) ∧
      t = { s with alw := t.alw, pln := t.pln, ofe := t.ofe, svy := t.svy })

/-- The demand timer's expiry produces a DEMAND with the present figures and reloads; the spacing timer's expiry
produces one when the early-pending mark is set, else only stops (R70 to R72). A DEMAND carries wanted, urgent and G in
W, the ready count of each class, 0 in WITHDRAWN, the empty slot count and the station state (R58, R70). -/
def Obligations.DemandTimersAnnounce : Prop :=
  ∀ s : State, s.core = true →
    let announced : Nat := if s.sul.state = .holdup then 0 else s.pln.wanted
    let urgent : Nat := if s.sul.state = .holdup then 0 else s.pln.urgent
    ((demandFrame s).contest = 0x40#8 ∧ (demandFrame s).target = 0x3F#8 ∧ (demandFrame s).data.length = 12 ∧
      (demandFrame s).kind = .demand ∧ (demandFrame s).data = demandBytes announced urgent s) ∧
    (s.alw.demandTimer.isSome = true → exec .demandTimerExpiry s = .next { enqueue (demandFrame s) s with
      alw := { s.alw with demandTimer := some 2000, announced := announced, spacingTimer := some 250,
                          earlyPending := false } }) ∧
    (s.alw.spacingTimer.isSome = true → s.alw.earlyPending = true →
      exec .spacingTimerExpiry s = .next { enqueue (demandFrame s) s with
        alw := { s.alw with announced := announced, spacingTimer := some 250, earlyPending := false } }) ∧
    (s.alw.spacingTimer.isSome = true → s.alw.earlyPending = false →
      exec .spacingTimerExpiry s = .next { s with alw.spacingTimer := none })

/-! ### Starts, loading, mains and supply (files 10 and 11) -/

/-- A start samples the straps, decides the kind of start, selects the memory and starts the 50 ms timer; a cold start empties
the store, sets the counter to 0 and makes the marker valid, a warm one leaves the store. The memory's ready level clocks
the read command 03 00 00 out on CFDA, most significant bit first, CFDA is released, and the bytes come in most
significant bit first (R164, R172, R176, R177). The rules give the figures of LIF and PLN for the end of loading (R46,
R75); that they stand at those values in STARTING already is the model's choice (log 49). That a START with the core
running is taken as a stop and a start together is the model's choice as well (log 27). -/
def Obligations.StartSamplesAndSelects : Prop :=
  (∀ (straps : BitVec 4) (clr : Bool) (s : State), ∃ t, exec (.start straps clr) s = .next t ∧ t.core = true ∧
    t.sul.state = .starting ∧ t.sul.station = straps ∧ t.sul.clearHolds = clr ∧
    (t.sul.cold = true ↔ s.rhs.valid = false ∨ clr = true) ∧ t.sul.selected = true ∧ t.cfsl = false ∧
    t.sul.loadingTimer = some 50 ∧ t.sul.clampCount = 0 ∧
    ((s.rhs.valid = false ∨ clr = true) → t.rhs = ⟨true, 0, List.replicate 8 none, none⟩) ∧
    (s.rhs.valid = true → clr = false → t.rhs = s.rhs) ∧ t.slots = [] ∧ t.ofe.book = [] ∧
    t.counters = List.replicate 32 0 ∧ t.lif = State.reset.lif ∧ t.seq = State.reset.seq ∧
    t.pln = State.reset.pln ∧ t.svy = State.reset.svy ∧ t.pending = s.pending) ∧
  (∀ (bytes : List Byte) (s : State), loading s = true → s.sul.selected = true → s.sul.cfda = [] →
    bytes.length ≤ 66 →
    let command : List Bool := List.replicate 6 false ++ [true, true] ++ List.replicate 16 false
    exec (.configMemoryReady (bytes.flatMap msbBits)) s =
      .next { s with
        sul.cfda := command.map CfdaCycle.command ++ (bytes.flatMap msbBits).map CfdaCycle.data, sul.image := bytes } ∧
    ((command.map CfdaCycle.command ++ (bytes.flatMap msbBits).map CfdaCycle.data).map CfdaCycle.driven =
      command.map some ++ List.replicate (8 * bytes.length) none))

/-- Loading fails: NO_RESPONSE at the loading timer's expiry, BAD_CRC, or NO_FITTED_SLOT. The station halts with the
cause kept, no slot, every peer ABSENT, the lamp lit, and the store neither cleared nor changed (R61, R172, R177, R178,
R181). The memory is deselected in each case: R177 states that for NO_RESPONSE, and for the other two it is the model's
choice (log 42). -/
def Obligations.FailedLoadingHalts : Prop :=
  ∀ s : State, loading s = true → s.slots = [] →
    let halts (c : Instr) (cause : HaltCause) : Prop :=
      ∃ t, exec c s = .next t ∧ t.sul.state = .haltedConfig ∧ t.sul.halt = some cause ∧ t.sul.selected = false ∧
        t.sul.loadingTimer = none ∧ t.slots = [] ∧ t.alw.allowance = 0 ∧ t.alw.grant = 0 ∧
        t.alw.demandTimer = none ∧ t.alw.peers = (List.range 16).map (fun n =>
          if n = s.sul.station.toNat then none else some ⟨.absent, 0, 0, 0, 0, 0, 0, 0, 0⟩) ∧
        t.lif = State.reset.lif ∧ t.faultLamp = true ∧ t.rhs = s.rhs ∧ t.seq = s.seq ∧
        t.counters = s.counters ∧ t.sul.station = s.sul.station
    halts .loadingTimerExpiry .noResponse ∧
    ∀ door hot mains, s.sul.image.length = 66 →
      (crc16 (s.sul.image.take 64) ≠ be16 (s.sul.image.getD 64 0) (s.sul.image.getD 65 0) →
        halts (.loadingEnd door hot mains) .badCrc) ∧
      (crc16 (s.sul.image.take 64) = be16 (s.sul.image.getD 64 0) (s.sul.image.getD 65 0) →
        s.sul.image.getD 1 0 = 0 → halts (.loadingEnd door hot mains) .noFittedSlot)

/-- Loading that passes puts the configuration in force and enters JOINING with a 3,000 ms timer: the fitted slots
EMPTY, FREE and LOCKED, an asserted comparator's cut tripped, A from the fallback, the first survey step begun; a low
mains takes it on to HOLDUP (R1, R2, R19, R66, R180, R182). A cold start. At any start each field of the image is used
as read, as its default, or raised, lowered or rounded into its range; a ceiling below T is raised to T; steps of
unfitted slots are dropped and missing slots appended, after a removal where the list is full; the clamp count is the
number of all corrections and the clamp list their first sixteen records, in order, each with offset, cause, value read
and value used (R178 to R180; the order within the survey list's records is the model's reading, log 38). -/
def Obligations.LoadingEndJoins : Prop :=
  (∀ (s : State) (door : Bool) (hot : BitVec 8) (mains : Bool), loading s = true → s.sul.image.length = 66 →
    imageFault s.sul.image = none → s.sul.cold = true → s.alw = Alw.initial → s.ofe = Ofe.initial →
    s.seq = Seq.initial → s.svy = Svy.initial →
    let cfg := cfgOf s.sul.image
    ∃ t, exec (.loadingEnd door hot mains) s = .next t ∧
      t.sul.state = (if mains then .joining else .holdup) ∧ t.sul.joiningTimer = some 3000 ∧ t.sul.cfg = cfg ∧
      t.sul.doorOpen = door ∧ t.slots.length = cfg.fitted ∧ 1 ≤ cfg.fitted ∧ cfg.fitted ≤ 8 ∧
      (∀ n sl, t.slots[n]? = some sl → sl.cond = .empty ∧ sl.role = .free ∧ sl.unlocked = false ∧
        sl.setpoint = 0 ∧ sl.ready = 1023 ∧ sl.tier = .none ∧ sl.pack = none ∧ sl.cut = hot.getLsbD n ∧
        sl.doorClear = !door) ∧
      t.alw.allowance = min cfg.fallback cfg.contract ∧ t.alw.grant = 0 ∧
      (∃ n rest, cfg.steps = n :: rest ∧ t.svy.step = some ⟨n, .regular, true, cfg.window⟩) ∧
      (∀ n, n < cfg.fitted → n ∈ cfg.steps) ∧ (∀ n ∈ cfg.steps, n < cfg.fitted) ∧ cfg.steps.length ≤ 16 ∧
      t.pln.pass.isSome = true ∧ t.rhs = s.rhs ∧ t.ofe = s.ofe ∧ t.seq = s.seq ∧ t.counters = s.counters ∧
      t.lif = Lif.initial) ∧
  ∀ (s : State) (door : Bool) (hot : BitVec 8) (mains : Bool), loading s = true → s.sul.image.length = 66 →
    imageFault s.sul.image = none →
    ∃ t, exec (.loadingEnd door hot mains) s = .next t ∧ ImageInForce s.sul.image t.sul

/-- A warm start without a swap in progress rebuilds the promises: with distinct request ids and slots in the records
and no deadline reached, every hold record of a fitted slot is an entry HELD with its timer armed, and its slot has
role HELD (R2, R124, R173). A record that names no fitted slot, or the slot of a record in a lower-numbered place, is
discarded and its place emptied (R173). A kept hold whose deadline has passed, unless the swap resumes it, lapses in
the same event: its place emptied, its entry LAPSED, its slot FREE, the CLOSE LAPSED of each counted and queued in book
order, by deadline and slot (R124, R141; log 10). A progress record whose request has a kept record, with fitted dock
and release slots that differ, makes SEQ active in STARTING_WAIT with its step kept, its entry SERVING, the dock DOCK
or the release slot RELEASING by the step, and no latch UNLOCKED; any other is emptied (R173, R174). At the first-pass
report the swap is resumed by that step and the state of the slot it watches (R174); a swap in STARTING_WAIT that a
BEGIN started opens its return there, or its request is handed back (R143, R147). That a dock which is also the slot of
another hold record takes the role DOCK is the model's choice, for a store no run writes (log 37); how a reached
deadline is told from a coming one is its reading (log 9). -/
def Obligations.WarmStartRestoresHolds : Prop :=
  (∀ (s : State) (door : Bool) (hot : BitVec 8) (mains : Bool), loading s = true → s.sul.image.length = 66 →
    imageFault s.sul.image = none → s.sul.cold = false → ((s.rhs.holds.filterMap id).map (fun r => r.rid)).Nodup →
    let fitted := (cfgOf s.sul.image).fitted
    let kept (i : Nat) (r : HoldRecord) : Prop := s.rhs.holds[i]? = some (some r) ∧ r.slot < fitted ∧
      ∀ j r', j < i → s.rhs.holds[j]? = some (some r') → r'.slot ≠ r.slot
    let resumes (p : Progress) : Prop := s.rhs.progress = some p ∧ (∃ i r, kept i r ∧ r.rid = p.rid) ∧
      p.dock < fitted ∧ p.release < fitted ∧ p.dock ≠ p.release
    let resumed (rid : ReqId) : Prop := ∃ p, resumes p ∧ p.rid = rid
    let lapses (r : HoldRecord) : Prop := reached s.rhs.seconds r.deadline = true ∧ ¬ resumed r.rid
    let lapsed (rid : ReqId) : TxFrame := ⟨0x0C#8, .close, 0x3F#8, ridBytes rid ++ [1, 0, 0, 0, 0, 0, 0, 0, 0, 0]⟩
    ∃ t, exec (.loadingEnd door hot mains) s = .next t ∧
      (∀ i r, s.rhs.holds[i]? = some (some r) → ¬ kept i r →
        t.rhs.holds[i]? = some none ∧ t.entry? r.rid = none) ∧
      (∀ i r, kept i r → lapses r → t.rhs.holds[i]? = some none ∧
        (∃ e, t.entry? r.rid = some e ∧ e.state = .lapsed ∧ e.heldSlot = none ∧ e.deadline = none ∧
          e.holdTimer = none ∧ e.linger = some s.rhs.seconds) ∧
        ((∀ p, resumes p → p.dock ≠ r.slot ∧ p.release ≠ r.slot) →
          ∃ sl, t.slots[r.slot]? = some sl ∧ sl.role = .free ∧ sl.rid = none ∧ sl.unlocked = false)) ∧
      (∀ i r, kept i r → ¬ lapses r → t.rhs.holds[i]? = some (some r) ∧
        ∃ e, t.entry? r.rid = some e ∧ e.heldSlot = some r.slot ∧ e.deadline = some r.deadline ∧
          (resumed r.rid → e.state = .serving ∧ e.holdTimer = none) ∧
          (¬ resumed r.rid → e.state = .held ∧ e.holdTimer = some r.deadline)) ∧
      ∃ due : List HoldRecord, (∀ r, r ∈ due ↔ ∃ i, kept i r ∧ lapses r) ∧
        due.Pairwise (fun a b => a.deadline.toNat < b.deadline.toNat ∨
          (a.deadline.toNat = b.deadline.toNat ∧ a.slot < b.slot)) ∧
        (let u : State := { s with lif := Lif.initial }
         t.lif = (due.foldl (fun st r => enqueue (lapsed r.rid) st) u).lif ∧
         t.counters = (due.foldl (fun st r => enqueue (lapsed r.rid) (bump .lapsed st)) u).counters)) ∧
  (∀ (s : State) (door : Bool) (hot : BitVec 8) (mains : Bool), loading s = true → s.sul.image.length = 66 →
    imageFault s.sul.image = none → s.sul.cold = false → ((s.rhs.holds.filterMap id).map (fun r => r.rid)).Nodup →
    ((s.rhs.holds.filterMap id).map (fun r => r.slot)).Nodup →
    let fitted := (cfgOf s.sul.image).fitted
    let kept (rid : ReqId) : Prop := ∃ r, some r ∈ s.rhs.holds ∧ r.slot < fitted ∧ r.rid = rid
    (s.rhs.progress = none → (∀ r, some r ∈ s.rhs.holds → reached s.rhs.seconds r.deadline = false) →
      ∃ t, exec (.loadingEnd door hot mains) s = .next t ∧
        (∀ r, some r ∈ s.rhs.holds → r.slot < fitted →
          some r ∈ t.rhs.holds ∧
          (∃ e, t.entry? r.rid = some e ∧ e.state = .held ∧ e.heldSlot = some r.slot ∧ e.deadline = some r.deadline ∧
            e.holdTimer = some r.deadline ∧ e.eta = r.eta ∧ e.packClass = r.packClass ∧
            e.returnClass = r.returnClass ∧ e.rider = r.rider ∧ e.attempt = 0) ∧
          ∃ sl, t.slots[r.slot]? = some sl ∧ sl.role = .held ∧ sl.rid = some r.rid ∧ sl.unlocked = false) ∧
        (∀ r, some r ∈ s.rhs.holds → fitted ≤ r.slot → some r ∉ t.rhs.holds ∧ t.entry? r.rid = none) ∧
        t.seq = Seq.initial ∧ t.rhs.valid = s.rhs.valid ∧ t.rhs.seconds = s.rhs.seconds) ∧
    (∀ p, s.rhs.progress = some p → kept p.rid → p.dock < fitted → p.release < fitted → p.dock ≠ p.release →
      (∀ r, some r ∈ s.rhs.holds → r.rid ≠ p.rid → reached s.rhs.seconds r.deadline = false) →
      ∃ t e, exec (.loadingEnd door hot mains) s = .next t ∧
        t.seq = { Seq.initial with
          active := some ⟨p.rid, .startingWait, some p.dock, p.release, p.returned, none, none, some p.step⟩ } ∧
        t.rhs.progress = some p ∧ t.entry? p.rid = some e ∧ e.state = .serving ∧ e.servePos = some .active ∧
        e.holdTimer = none ∧ e.returnedId = p.returned ∧
        (∀ (n : Nat) (sl : Slot), t.slots[n]? = some sl → sl.unlocked = false) ∧ t.svy.focus = none ∧
        (p.step ≠ .releaseWait → p.step ≠ .releaseOpen →
          ∃ sl, t.slots[p.dock]? = some sl ∧ sl.role = .dock ∧ sl.rid = some p.rid) ∧
        (p.step = .releaseOpen →
          ∃ sl, t.slots[p.release]? = some sl ∧ sl.role = .releasing ∧ sl.rid = some p.rid)) ∧
    (∀ p, s.rhs.progress = some p →
      (¬ kept p.rid ∨ fitted ≤ p.dock ∨ fitted ≤ p.release ∨ p.dock = p.release) →
      ∃ t, exec (.loadingEnd door hot mains) s = .next t ∧ t.seq = Seq.initial ∧ t.rhs.progress = none)) ∧
  (∀ (s : State) (st : SurveyStep) (w : Swap) (p : ProgressStep) (e : Entry) (d : Nat) (ds rs vs : Slot)
    (levels : List Bool) (hot : Bool), operates s = true → s.svy.step = some st → st.kind = .confirm →
    s.sul.cfg.steps.length ≤ s.svy.next → s.svy.firstPassDone = false → s.seq.queue = [] →
    s.seq.active = some w → w.step = .startingWait → w.resume = some p → s.entry? w.rid = some e →
    w.dock = some d → d ≠ w.release → st.slot ≠ d → st.slot ≠ w.release → s.slots[st.slot]? = some vs →
    (vs.cond ≠ .occupied ∨ vs.role ≠ .free) → s.slots[d]? = some ds → s.slots[w.release]? = some rs →
    ∃ t, exec (.surveyStepEnd false levels hot) s = .next t ∧ t.seq.firstPassSeen = true ∧
      ((p = .returnOpen ∨ p = .returnCheck) →
        (ds.cond = .empty → t.seq.active = some { w with step := .returnOpen, resume := none } ∧
          t.seq.timer = some (.ret, s.sul.cfg.returnTimer * 1000) ∧ t.svy.focus = some d ∧
          t.rhs.progress = some ⟨w.rid, .returnOpen, d, w.release, w.returned⟩ ∧
          t.slots[d]? = some { ds with unlocked := true }) ∧
        (ds.cond = .settling → t.seq.active = some { w with step := .returnCheck, resume := none } ∧
          t.seq.timer = some (.check, 10000) ∧ t.svy.focus = some d ∧
          t.rhs.progress = some ⟨w.rid, .returnCheck, d, w.release, w.returned⟩ ∧
          t.slots[d]? = some { ds with unlocked := true }) ∧
        (∀ k, ds.cond = .occupied → ds.pack = some k →
          (k.cls = e.returnClass → k.ok = true → k.temp < s.sul.cfg.hotLimit → rs.rid = some w.rid →
            ReleaseJudged s t { w with returned := some k.id } e d { ds with role := .free } rs ∧
            (∀ x, t.seq.active = some x → x.step ≠ .giveBack → LockedFree t d)) ∧
          (¬ (k.cls = e.returnClass ∧ k.ok = true ∧ k.temp < s.sul.cfg.hotLimit) → RejectsOut s t w d)) ∧
        ((ds.cond = .unreadable ∨ ds.cond = .fault) → RejectsOut s t w d)) ∧
      (p = .rejectOut →
        (ds.cond = .empty → SwapEnded s t w .aborted (some .returnRejected) .held ∧ LockedFree t d) ∧
        (ds.cond ≠ .empty → RejectsOut s t w d)) ∧
      (p = .releaseWait → rs.rid = some w.rid → ReleaseJudged s t w e d ds rs) ∧
      (p = .releaseOpen →
        (rs.cond = .empty → SwapEnded s t w .done none .done ∧ LockedFree t w.release) ∧
        (rs.cond ≠ .empty → ReleaseOpened s t w d w.release rs)) ∧
      (∀ r, ((p = .giveBackNoPack ∧ r = .noPack) ∨ (p = .giveBackWaitExceeded ∧ r = .releaseWaitExceeded)) →
        (ds.cond = .empty → SwapEnded s t w .aborted (some r) .aborted ∧ LockedFree t d) ∧
        (ds.cond ≠ .empty → GivesBack s t w d r))) ∧
  (∀ (s : State) (st : SurveyStep) (w : Swap) (vs : Slot) (seen : Bool) (levels : List Bool) (hot : Bool),
    operates s = true → s.svy.step = some st → st.kind = .confirm → s.sul.cfg.steps.length ≤ s.svy.next →
    s.svy.firstPassDone = false → s.seq.active = some w → w.step = .startingWait → w.resume = none →
    s.slots[st.slot]? = some vs → (seen = true ∨ vs.cond = .empty ∨ vs.role ≠ .free) →
    let bay (m : Nat) (x : Slot) : Prop := x.cond = .empty ∧ x.role = .free ∧ (m = st.slot → seen = false)
    ∃ t, exec (.surveyStepEnd seen levels hot) s = .next t ∧ t.seq.firstPassSeen = true ∧
      (∀ d x, s.slots[d]? = some x → bay d x → (∀ m y, m < d → s.slots[m]? = some y → ¬ bay m y) →
        t.seq.active = some { w with step := .returnOpen, dock := some d, resume := none } ∧
        t.seq.timer = some (.ret, s.sul.cfg.returnTimer * 1000) ∧ t.seq.queue = s.seq.queue ∧
        t.svy.focus = some d ∧ t.rhs.progress = some ⟨w.rid, .returnOpen, d, w.release, w.returned⟩ ∧
        t.lif = s.lif ∧
        ∃ y, t.slots[d]? = some y ∧ y.cond = .empty ∧ y.role = .dock ∧ y.rid = some w.rid ∧ y.unlocked = true) ∧
      (∀ e, s.seq.queue = [] → (∀ m y, s.slots[m]? = some y → ¬ bay m y) → s.entry? w.rid = some e →
        t.seq.active = none ∧ t.seq.timer = none ∧ t.rhs.progress = none ∧ HandedBack s t e ∧
        t.lif = (enqueue (declineFrame w.rid .noDock) s).lif))

/-- Mains and joining: a low sample takes JOINING, ACTIVE and WITHDRAWN to HOLDUP with every setpoint, W_d, W_u and G
0, and in HOLDUP stops the return timer; on leaving ACTIVE or WITHDRAWN one DEMAND with wanted, urgent and grant 0, the
ready counts and empty slots of the moment and the state code of HOLDUP goes to the transmit queue; a high sample
starts it; its expiry leaves HOLDUP for JOINING, or by the door; the joining timer's expiry leaves JOINING by the door,
and in HOLDUP only ends the period (R58, R70, R71, R74, R92, R165 to R167, R182). In the event in which the state
becomes ACTIVE by either timer or by the door, with SEQ idle, the oldest request of the serve queue starts (R145). -/
def Obligations.MainsAndJoiningChangeTheState : Prop :=
  ∀ s : State, s.core = true →
    let byDoor : StationState := if s.sul.doorOpen then .withdrawn else .active
    let leaving : TxFrame := ⟨0x40#8, .demand, 0x3F#8,
      demandBytes 0 0 { s with sul.state := .holdup, alw.grant := 0 }⟩
    ((s.sul.state = .joining ∨ s.sul.state = .active ∨ s.sul.state = .withdrawn) →
      ∃ t, exec .mainsGoodLow s = .next t ∧ t.sul = { s.sul with state := .holdup, mainsGood := false } ∧
        (∀ sl ∈ t.slots, sl.setpoint = 0) ∧ t.pln.wanted = 0 ∧ t.pln.urgent = 0 ∧ t.alw.grant = 0 ∧
        t.alw.demandTimer = none ∧
        (s.sul.state ≠ .joining → t.alw.announced = 0 ∧ t.alw.spacingTimer = some 250 ∧
          t.alw.earlyPending = false ∧
          t.lif = (enqueue leaving s).lif ∧ t.counters = (enqueue leaving s).counters) ∧
        (s.sul.state = .joining → t.lif = s.lif ∧ t.counters = s.counters) ∧
        t.pln.pass.isSome = true ∧ t.seq = s.seq ∧ t.rhs = s.rhs) ∧
    (s.sul.state = .holdup → exec .mainsGoodLow s =
      .next { s with sul.mainsGood := false, sul.mainsReturnTimer := none }) ∧
    (s.sul.state = .holdup → s.sul.mainsReturnTimer = none → exec .mainsGoodHigh s =
      .next { s with sul.mainsGood := true, sul.mainsReturnTimer := some 1000 }) ∧
    ((s.sul.state ≠ .holdup ∨ s.sul.mainsReturnTimer.isSome = true) →
      exec .mainsGoodHigh s = .next { s with sul.mainsGood := true }) ∧
    (s.sul.state = .holdup → s.sul.mainsReturnTimer.isSome = true →
      ∃ t, exec .mainsReturnTimerExpiry s = .next t ∧
        t.sul = { s.sul with mainsReturnTimer := none,
                             state := if s.sul.joiningTimer.isSome then .joining else byDoor } ∧
        (s.sul.joiningTimer = none → t.alw.demandTimer = some 2000) ∧ t.pln.pass.isSome = true) ∧
    (s.sul.joiningTimer.isSome = true → s.sul.state = .joining →
      ∃ t, exec .joiningTimerExpiry s = .next t ∧
        t.sul = { s.sul with joiningTimer := none, state := byDoor } ∧ t.alw.demandTimer = some 2000 ∧
        t.pln.pass.isSome = true) ∧
    (s.sul.joiningTimer.isSome = true → s.sul.state = .holdup →
      exec .joiningTimerExpiry s = .next { s with sul.joiningTimer := none }) ∧
    (RequestIdsUnique s → s.seq.active = none →
      (s.sul.state = .holdup → s.sul.mainsReturnTimer.isSome = true → s.sul.joiningTimer = none →
        s.sul.doorOpen = false →
        ∃ t, exec .mainsReturnTimerExpiry s = .next t ∧ t.sul.state = .active ∧
          QueueLookedAt s t s.seq s.slots) ∧
      (s.sul.state = .joining → s.sul.joiningTimer.isSome = true → s.sul.doorOpen = false →
        ∃ t, exec .joiningTimerExpiry s = .next t ∧ t.sul.state = .active ∧ QueueLookedAt s t s.seq s.slots) ∧
      (s.sul.state = .withdrawn → s.sul.doorOpen = true → (∀ sl ∈ s.slots, sl.cond ≠ .fault) →
        ∃ t, exec .doorClose s = .next t ∧ t.sul.state = .active ∧ QueueLookedAt s t s.seq s.slots))

/-- A core stop loses everything of the core, with every latch drive unpowered and every setpoint output 0, and keeps the
retained store as it stands, also after its cell dipped while the core ran (R168, R171). That the lost fields of the stopped
core stand at their values of State.reset, those behind CFSL and CFDA among them, is the model's choice, since the rule says
only that they are lost (log 5, log 48). A failing retained cell makes the marker invalid and, with the core running, changes
nothing else (R171). What the store holds after its cell failed with the core off is free (R171; log 6). -/
def Obligations.CoreStopKeepsTheStore : Prop :=
  (∀ s : State, s.core = true →
    ∃ t, exec .coreStop s = .next t ∧ t = { State.reset with rhs := s.rhs, draw := s.draw, pending := s.pending } ∧
      (∀ n, t.latchDrive n = false ∧ t.setpointOutput n = 0) ∧ t.faultLamp = false ∧ t.lif.tx = none) ∧
  (∀ s : State, s.core = true → exec .retainedCellFail s = .next { s with rhs.valid := false }) ∧
  (∀ s : State, s.core = false → ∃ t, exec .retainedCellFail s = .next t ∧ t.rhs.valid = false ∧
    t.rhs.holds.length = 8 ∧ t = { s with rhs := t.rhs, draw := s.draw + 1 })

/-- A tick adds one second, also with the core off; while the part is at work PRESENT peers older than 5 s become
STALE, with their figures and last-heard second kept, STALE ones older than 15 s ABSENT with zero figures, and terminal
entries that lingered 60 s leave the book (R63, R118, R170). A tick that made such a transition recomputes G once, and
a G that changes asks for a planning pass; one that made none leaves G as it is (R63, R69). That a tick leaves slots,
queue and counters alone is the model's reading (log 8): the hold expiries that R170 does at the tick are a command of
their own. -/
def Obligations.TickAgesPeersAndEntries : Prop :=
  ∀ s : State, ∃ t, exec .secondsTick s = .next t ∧ t.rhs = { s.rhs with seconds := s.rhs.seconds + 1 } ∧
    (s.core = false → t = { s with rhs.seconds := s.rhs.seconds + 1 }) ∧
    (operates s = true →
      (∀ (n : Nat) (p : Peer), s.alw.peers[n]? = some (some p) → ∃ p' : Peer, t.alw.peers[n]? = some (some p') ∧
        let age := (s.rhs.seconds + 1 - p.lastHeard).toNat
        (p.state = .present → p' = { p with state := if 5 < age then .stale else .present }) ∧
        (p.state = .stale → age ≤ 15 → p' = p) ∧
        (p.state = .stale → 15 < age → p' = ⟨.absent, 0, 0, p.lastHeard, 0, 0, 0, 0, 0⟩) ∧
        (p.state = .absent → p' = p)) ∧
      t.alw.peers.length = s.alw.peers.length ∧
      (∀ n : Nat, s.alw.peers[n]? = some none → t.alw.peers[n]? = some none) ∧
      (let moves (p : Peer) : Prop :=
         let age := (s.rhs.seconds + 1 - p.lastHeard).toNat
         (p.state = .present ∧ 5 < age) ∨ (p.state = .stale ∧ 15 < age)
       ((∀ p, some p ∈ s.alw.peers → ¬ moves p) → t.alw = s.alw ∧ (NothingDue s → t.pln = s.pln)) ∧
       ((∃ p, some p ∈ s.alw.peers ∧ moves p) →
         t.alw = { s.alw with peers := t.alw.peers, grant := grantNow t } ∧ t.pln.wanted = s.pln.wanted ∧
         t.pln.urgent = s.pln.urgent ∧
         (grantNow t = s.alw.grant → NothingDue s → t.pln = s.pln) ∧
         (grantNow t ≠ s.alw.grant → t.pln.pass.isSome = true ∧
           (s.pln.pass.isSome = true → t.pln = { s.pln with replan := true })))) ∧
      t.ofe.book.map (fun e => e.rid) = (s.ofe.book.filter (fun e => e.state.live ||
        match e.linger with
        | some l => decide ((s.rhs.seconds + 1 - l).toNat < 60)
        | none => true)).map (fun e => e.rid)) ∧
    t.lif = s.lif ∧ t.slots = s.slots ∧ t.seq = s.seq ∧ t.sul = s.sul ∧ t.counters = s.counters

/-! ### Status (file 12) -/

/-- Each QUERY is answered in its event by one STATUS to its source, with item, index and content; an unknown item or
an index that is not valid gives the item byte 0xFF and no content. Nothing but the queue, and the dropped count,
changes; the frame ends in SPACE (R30, R60, R183, R184). The content is that of 12.2, byte by byte, in which a bit
without a meaning is 0 by the model's choice (log 41) and a record never heard has the age of the counter (log 22). -/
def Obligations.QueriesAreAnswered : Prop :=
  ∀ (s : State) (source : BitVec 4) (index : Byte), lifRuns s = true → FrameMayEnd s → NothingDue s →
    let u : State := { s with lif := atFrameEnd s.lif }
    let replies (c : Instr) (data : List Byte) : Prop :=
      exec c s = .next (enqueue ⟨0xC0#8, .status, byteOf source.toNat, data⟩ u)
    (index = 0#8 → replies (.querySummary source index) ([0, 0] ++ summaryBytes u) ∧ (summaryBytes u).length = 19) ∧
    (index = 1#8 → replies (.querySummary source index) ([0, 1] ++ meterBytes s) ∧ (meterBytes s).length = 11) ∧
    (∀ c, 2 ≤ index.toNat → index.toNat ≤ 17 → s.sul.clamps[index.toNat - 2]? = some c →
      replies (.querySummary source index) ([0, index] ++ clampBytes c) ∧ (clampBytes c).length = 6) ∧
    (∀ sl, s.slots[index.toNat]? = some sl →
      replies (.querySlot source index) ([1, index] ++ slotBytes s.rhs.seconds sl) ∧
        (slotBytes s.rhs.seconds sl).length = 22) ∧
    (∀ e, s.ofe.book[index.toNat]? = some e →
      replies (.queryBook source index) ([2, index] ++ bookBytes e) ∧ (bookBytes e).length = 22) ∧
    (index.toNat < 4 → replies (.queryCounters source index) ([3, index] ++
      (List.range 8).flatMap (fun i => bytes16 (s.counters.getD (index.toNat * 8 + i) 0)))) ∧
    (∀ p, index.toNat ≠ s.sul.station.toNat → s.alw.peers[index.toNat]? = some (some p) →
      replies (.queryPeer source index) ([4, index] ++ peerBytes s.rhs.seconds p) ∧
        (peerBytes s.rhs.seconds p).length = 12) ∧
    (∀ item : Byte, 5 ≤ item.toNat → replies (.queryInvalid source item index) [0xFF, index]) ∧
    (s.slots.length ≤ index.toNat → replies (.querySlot source index) [0xFF, index] ∧
      replies (.queryInvalid source 1 index) [0xFF, index]) ∧
    (s.ofe.book.length ≤ index.toNat → replies (.queryBook source index) [0xFF, index]) ∧
    (4 ≤ index.toNat → replies (.queryCounters source index) [0xFF, index]) ∧
    (index.toNat = s.sul.station.toNat → replies (.queryPeer source index) [0xFF, index]) ∧
    (16 ≤ index.toNat → s.alw.peers.length = 16 → replies (.queryPeer source index) [0xFF, index]) ∧
    (2 ≤ index.toNat → (17 < index.toNat ∨ s.sul.clamps.length ≤ index.toNat - 2) →
      replies (.querySummary source index) [0xFF, index])
end

