-- ==== Sys2Proof/Laws/State.lean ====
section
/-! SUPPORT. For each plain update of the state, one lemma per field it leaves alone, true by unfolding, so that no
later proof unfolds the update. -/

namespace Sys2Proof.Machine

open Sys2Proof

/-! `bump` writes counters only (R185). -/

@[simp] theorem bump_core (c : Counter) (s : State) : (bump c s).core = s.core := rfl
@[simp] theorem bump_lif (c : Counter) (s : State) : (bump c s).lif = s.lif := rfl
@[simp] theorem bump_slots (c : Counter) (s : State) : (bump c s).slots = s.slots := rfl
@[simp] theorem bump_svy (c : Counter) (s : State) : (bump c s).svy = s.svy := rfl
@[simp] theorem bump_alw (c : Counter) (s : State) : (bump c s).alw = s.alw := rfl
@[simp] theorem bump_pln (c : Counter) (s : State) : (bump c s).pln = s.pln := rfl
@[simp] theorem bump_ofe (c : Counter) (s : State) : (bump c s).ofe = s.ofe := rfl
@[simp] theorem bump_seq (c : Counter) (s : State) : (bump c s).seq = s.seq := rfl
@[simp] theorem bump_rhs (c : Counter) (s : State) : (bump c s).rhs = s.rhs := rfl
@[simp] theorem bump_sul (c : Counter) (s : State) : (bump c s).sul = s.sul := rfl
@[simp] theorem bump_draw (c : Counter) (s : State) : (bump c s).draw = s.draw := rfl
@[simp] theorem bump_pending (c : Counter) (s : State) : (bump c s).pending = s.pending := rfl

/-! `setReplan` writes pln only (R76). -/

@[simp] theorem setReplan_core (s : State) : (setReplan s).core = s.core := rfl
@[simp] theorem setReplan_lif (s : State) : (setReplan s).lif = s.lif := rfl
@[simp] theorem setReplan_slots (s : State) : (setReplan s).slots = s.slots := rfl
@[simp] theorem setReplan_svy (s : State) : (setReplan s).svy = s.svy := rfl
@[simp] theorem setReplan_alw (s : State) : (setReplan s).alw = s.alw := rfl
@[simp] theorem setReplan_ofe (s : State) : (setReplan s).ofe = s.ofe := rfl
@[simp] theorem setReplan_seq (s : State) : (setReplan s).seq = s.seq := rfl
@[simp] theorem setReplan_rhs (s : State) : (setReplan s).rhs = s.rhs := rfl
@[simp] theorem setReplan_sul (s : State) : (setReplan s).sul = s.sul := rfl
@[simp] theorem setReplan_counters (s : State) : (setReplan s).counters = s.counters := rfl
@[simp] theorem setReplan_draw (s : State) : (setReplan s).draw = s.draw := rfl
@[simp] theorem setReplan_pending (s : State) : (setReplan s).pending = s.pending := rfl

/-! `modSlot` writes slots only (R1). -/

@[simp] theorem modSlot_core (n : Nat) (f : Slot → Slot) (s : State) : (modSlot n f s).core = s.core := rfl
@[simp] theorem modSlot_lif (n : Nat) (f : Slot → Slot) (s : State) : (modSlot n f s).lif = s.lif := rfl
@[simp] theorem modSlot_svy (n : Nat) (f : Slot → Slot) (s : State) : (modSlot n f s).svy = s.svy := rfl
@[simp] theorem modSlot_alw (n : Nat) (f : Slot → Slot) (s : State) : (modSlot n f s).alw = s.alw := rfl
@[simp] theorem modSlot_pln (n : Nat) (f : Slot → Slot) (s : State) : (modSlot n f s).pln = s.pln := rfl
@[simp] theorem modSlot_ofe (n : Nat) (f : Slot → Slot) (s : State) : (modSlot n f s).ofe = s.ofe := rfl
@[simp] theorem modSlot_seq (n : Nat) (f : Slot → Slot) (s : State) : (modSlot n f s).seq = s.seq := rfl
@[simp] theorem modSlot_rhs (n : Nat) (f : Slot → Slot) (s : State) : (modSlot n f s).rhs = s.rhs := rfl
@[simp] theorem modSlot_sul (n : Nat) (f : Slot → Slot) (s : State) : (modSlot n f s).sul = s.sul := rfl
@[simp] theorem modSlot_counters (n : Nat) (f : Slot → Slot) (s : State) : (modSlot n f s).counters = s.counters := rfl
@[simp] theorem modSlot_draw (n : Nat) (f : Slot → Slot) (s : State) : (modSlot n f s).draw = s.draw := rfl
@[simp] theorem modSlot_pending (n : Nat) (f : Slot → Slot) (s : State) : (modSlot n f s).pending = s.pending := rfl

/-! `pushFrame` writes lif only (R38). -/

@[simp] theorem pushFrame_core (f : TxFrame) (s : State) : (pushFrame f s).core = s.core := rfl
@[simp] theorem pushFrame_slots (f : TxFrame) (s : State) : (pushFrame f s).slots = s.slots := rfl
@[simp] theorem pushFrame_svy (f : TxFrame) (s : State) : (pushFrame f s).svy = s.svy := rfl
@[simp] theorem pushFrame_alw (f : TxFrame) (s : State) : (pushFrame f s).alw = s.alw := rfl
@[simp] theorem pushFrame_pln (f : TxFrame) (s : State) : (pushFrame f s).pln = s.pln := rfl
@[simp] theorem pushFrame_ofe (f : TxFrame) (s : State) : (pushFrame f s).ofe = s.ofe := rfl
@[simp] theorem pushFrame_seq (f : TxFrame) (s : State) : (pushFrame f s).seq = s.seq := rfl
@[simp] theorem pushFrame_rhs (f : TxFrame) (s : State) : (pushFrame f s).rhs = s.rhs := rfl
@[simp] theorem pushFrame_sul (f : TxFrame) (s : State) : (pushFrame f s).sul = s.sul := rfl
@[simp] theorem pushFrame_counters (f : TxFrame) (s : State) : (pushFrame f s).counters = s.counters := rfl
@[simp] theorem pushFrame_draw (f : TxFrame) (s : State) : (pushFrame f s).draw = s.draw := rfl
@[simp] theorem pushFrame_pending (f : TxFrame) (s : State) : (pushFrame f s).pending = s.pending := rfl

/-! `closeStretch` writes lif only (R42). -/

@[simp] theorem closeStretch_core (rid : ReqId) (s : State) : (closeStretch rid s).core = s.core := rfl
@[simp] theorem closeStretch_slots (rid : ReqId) (s : State) : (closeStretch rid s).slots = s.slots := rfl
@[simp] theorem closeStretch_svy (rid : ReqId) (s : State) : (closeStretch rid s).svy = s.svy := rfl
@[simp] theorem closeStretch_alw (rid : ReqId) (s : State) : (closeStretch rid s).alw = s.alw := rfl
@[simp] theorem closeStretch_pln (rid : ReqId) (s : State) : (closeStretch rid s).pln = s.pln := rfl
@[simp] theorem closeStretch_ofe (rid : ReqId) (s : State) : (closeStretch rid s).ofe = s.ofe := rfl
@[simp] theorem closeStretch_seq (rid : ReqId) (s : State) : (closeStretch rid s).seq = s.seq := rfl
@[simp] theorem closeStretch_rhs (rid : ReqId) (s : State) : (closeStretch rid s).rhs = s.rhs := rfl
@[simp] theorem closeStretch_sul (rid : ReqId) (s : State) : (closeStretch rid s).sul = s.sul := rfl
@[simp] theorem closeStretch_counters (rid : ReqId) (s : State) : (closeStretch rid s).counters = s.counters := rfl
@[simp] theorem closeStretch_draw (rid : ReqId) (s : State) : (closeStretch rid s).draw = s.draw := rfl
@[simp] theorem closeStretch_pending (rid : ReqId) (s : State) : (closeStretch rid s).pending = s.pending := rfl

/-! `barRequest` writes lif only (R50). -/

@[simp] theorem barRequest_core (rid : ReqId) (s : State) : (barRequest rid s).core = s.core := rfl
@[simp] theorem barRequest_slots (rid : ReqId) (s : State) : (barRequest rid s).slots = s.slots := rfl
@[simp] theorem barRequest_svy (rid : ReqId) (s : State) : (barRequest rid s).svy = s.svy := rfl
@[simp] theorem barRequest_alw (rid : ReqId) (s : State) : (barRequest rid s).alw = s.alw := rfl
@[simp] theorem barRequest_pln (rid : ReqId) (s : State) : (barRequest rid s).pln = s.pln := rfl
@[simp] theorem barRequest_ofe (rid : ReqId) (s : State) : (barRequest rid s).ofe = s.ofe := rfl
@[simp] theorem barRequest_seq (rid : ReqId) (s : State) : (barRequest rid s).seq = s.seq := rfl
@[simp] theorem barRequest_rhs (rid : ReqId) (s : State) : (barRequest rid s).rhs = s.rhs := rfl
@[simp] theorem barRequest_sul (rid : ReqId) (s : State) : (barRequest rid s).sul = s.sul := rfl
@[simp] theorem barRequest_counters (rid : ReqId) (s : State) : (barRequest rid s).counters = s.counters := rfl
@[simp] theorem barRequest_draw (rid : ReqId) (s : State) : (barRequest rid s).draw = s.draw := rfl
@[simp] theorem barRequest_pending (rid : ReqId) (s : State) : (barRequest rid s).pending = s.pending := rfl

/-! `queueRetries` writes lif only (R33). -/

@[simp] theorem queueRetries_core (o : Nat) (s : State) : (queueRetries o s).core = s.core := rfl
@[simp] theorem queueRetries_slots (o : Nat) (s : State) : (queueRetries o s).slots = s.slots := rfl
@[simp] theorem queueRetries_svy (o : Nat) (s : State) : (queueRetries o s).svy = s.svy := rfl
@[simp] theorem queueRetries_alw (o : Nat) (s : State) : (queueRetries o s).alw = s.alw := rfl
@[simp] theorem queueRetries_pln (o : Nat) (s : State) : (queueRetries o s).pln = s.pln := rfl
@[simp] theorem queueRetries_ofe (o : Nat) (s : State) : (queueRetries o s).ofe = s.ofe := rfl
@[simp] theorem queueRetries_seq (o : Nat) (s : State) : (queueRetries o s).seq = s.seq := rfl
@[simp] theorem queueRetries_rhs (o : Nat) (s : State) : (queueRetries o s).rhs = s.rhs := rfl
@[simp] theorem queueRetries_sul (o : Nat) (s : State) : (queueRetries o s).sul = s.sul := rfl
@[simp] theorem queueRetries_counters (o : Nat) (s : State) : (queueRetries o s).counters = s.counters := rfl
@[simp] theorem queueRetries_draw (o : Nat) (s : State) : (queueRetries o s).draw = s.draw := rfl
@[simp] theorem queueRetries_pending (o : Nat) (s : State) : (queueRetries o s).pending = s.pending := rfl

/-! `removeRecord` writes rhs only (R112). -/

@[simp] theorem removeRecord_core (rid : ReqId) (s : State) : (removeRecord rid s).core = s.core := rfl
@[simp] theorem removeRecord_lif (rid : ReqId) (s : State) : (removeRecord rid s).lif = s.lif := rfl
@[simp] theorem removeRecord_slots (rid : ReqId) (s : State) : (removeRecord rid s).slots = s.slots := rfl
@[simp] theorem removeRecord_svy (rid : ReqId) (s : State) : (removeRecord rid s).svy = s.svy := rfl
@[simp] theorem removeRecord_alw (rid : ReqId) (s : State) : (removeRecord rid s).alw = s.alw := rfl
@[simp] theorem removeRecord_pln (rid : ReqId) (s : State) : (removeRecord rid s).pln = s.pln := rfl
@[simp] theorem removeRecord_ofe (rid : ReqId) (s : State) : (removeRecord rid s).ofe = s.ofe := rfl
@[simp] theorem removeRecord_seq (rid : ReqId) (s : State) : (removeRecord rid s).seq = s.seq := rfl
@[simp] theorem removeRecord_sul (rid : ReqId) (s : State) : (removeRecord rid s).sul = s.sul := rfl
@[simp] theorem removeRecord_counters (rid : ReqId) (s : State) : (removeRecord rid s).counters = s.counters := rfl
@[simp] theorem removeRecord_draw (rid : ReqId) (s : State) : (removeRecord rid s).draw = s.draw := rfl
@[simp] theorem removeRecord_pending (rid : ReqId) (s : State) : (removeRecord rid s).pending = s.pending := rfl

/-! `modEntry` writes ofe only (R111). -/

@[simp] theorem modEntry_core (rid : ReqId) (f : Entry → Entry) (s : State) : (modEntry rid f s).core = s.core := rfl
@[simp] theorem modEntry_lif (rid : ReqId) (f : Entry → Entry) (s : State) : (modEntry rid f s).lif = s.lif := rfl
@[simp] theorem modEntry_slots (rid : ReqId) (f : Entry → Entry) (s : State) : (modEntry rid f s).slots = s.slots := rfl
@[simp] theorem modEntry_svy (rid : ReqId) (f : Entry → Entry) (s : State) : (modEntry rid f s).svy = s.svy := rfl
@[simp] theorem modEntry_alw (rid : ReqId) (f : Entry → Entry) (s : State) : (modEntry rid f s).alw = s.alw := rfl
@[simp] theorem modEntry_pln (rid : ReqId) (f : Entry → Entry) (s : State) : (modEntry rid f s).pln = s.pln := rfl
@[simp] theorem modEntry_seq (rid : ReqId) (f : Entry → Entry) (s : State) : (modEntry rid f s).seq = s.seq := rfl
@[simp] theorem modEntry_rhs (rid : ReqId) (f : Entry → Entry) (s : State) : (modEntry rid f s).rhs = s.rhs := rfl
@[simp] theorem modEntry_sul (rid : ReqId) (f : Entry → Entry) (s : State) : (modEntry rid f s).sul = s.sul := rfl
@[simp] theorem modEntry_counters (rid : ReqId) (f : Entry → Entry) (s : State) : (modEntry rid f s).counters = s.counters := rfl
@[simp] theorem modEntry_draw (rid : ReqId) (f : Entry → Entry) (s : State) : (modEntry rid f s).draw = s.draw := rfl
@[simp] theorem modEntry_pending (rid : ReqId) (f : Entry → Entry) (s : State) : (modEntry rid f s).pending = s.pending := rfl

/-! `zeroAllSetpoints` writes slots only (R92). -/

@[simp] theorem zeroAllSetpoints_core (s : State) : (zeroAllSetpoints s).core = s.core := rfl
@[simp] theorem zeroAllSetpoints_lif (s : State) : (zeroAllSetpoints s).lif = s.lif := rfl
@[simp] theorem zeroAllSetpoints_svy (s : State) : (zeroAllSetpoints s).svy = s.svy := rfl
@[simp] theorem zeroAllSetpoints_alw (s : State) : (zeroAllSetpoints s).alw = s.alw := rfl
@[simp] theorem zeroAllSetpoints_pln (s : State) : (zeroAllSetpoints s).pln = s.pln := rfl
@[simp] theorem zeroAllSetpoints_ofe (s : State) : (zeroAllSetpoints s).ofe = s.ofe := rfl
@[simp] theorem zeroAllSetpoints_seq (s : State) : (zeroAllSetpoints s).seq = s.seq := rfl
@[simp] theorem zeroAllSetpoints_rhs (s : State) : (zeroAllSetpoints s).rhs = s.rhs := rfl
@[simp] theorem zeroAllSetpoints_sul (s : State) : (zeroAllSetpoints s).sul = s.sul := rfl
@[simp] theorem zeroAllSetpoints_counters (s : State) : (zeroAllSetpoints s).counters = s.counters := rfl
@[simp] theorem zeroAllSetpoints_draw (s : State) : (zeroAllSetpoints s).draw = s.draw := rfl
@[simp] theorem zeroAllSetpoints_pending (s : State) : (zeroAllSetpoints s).pending = s.pending := rfl

/-! `setLatch` writes slots only (R143). -/

@[simp] theorem setLatch_core (n : Nat) (b : Bool) (s : State) : (setLatch n b s).core = s.core := rfl
@[simp] theorem setLatch_lif (n : Nat) (b : Bool) (s : State) : (setLatch n b s).lif = s.lif := rfl
@[simp] theorem setLatch_svy (n : Nat) (b : Bool) (s : State) : (setLatch n b s).svy = s.svy := rfl
@[simp] theorem setLatch_alw (n : Nat) (b : Bool) (s : State) : (setLatch n b s).alw = s.alw := rfl
@[simp] theorem setLatch_pln (n : Nat) (b : Bool) (s : State) : (setLatch n b s).pln = s.pln := rfl
@[simp] theorem setLatch_ofe (n : Nat) (b : Bool) (s : State) : (setLatch n b s).ofe = s.ofe := rfl
@[simp] theorem setLatch_seq (n : Nat) (b : Bool) (s : State) : (setLatch n b s).seq = s.seq := rfl
@[simp] theorem setLatch_rhs (n : Nat) (b : Bool) (s : State) : (setLatch n b s).rhs = s.rhs := rfl
@[simp] theorem setLatch_sul (n : Nat) (b : Bool) (s : State) : (setLatch n b s).sul = s.sul := rfl
@[simp] theorem setLatch_counters (n : Nat) (b : Bool) (s : State) : (setLatch n b s).counters = s.counters := rfl
@[simp] theorem setLatch_draw (n : Nat) (b : Bool) (s : State) : (setLatch n b s).draw = s.draw := rfl
@[simp] theorem setLatch_pending (n : Nat) (b : Bool) (s : State) : (setLatch n b s).pending = s.pending := rfl

/-! `setFocus` writes svy only (R8). -/

@[simp] theorem setFocus_core (f : Option Nat) (s : State) : (setFocus f s).core = s.core := rfl
@[simp] theorem setFocus_lif (f : Option Nat) (s : State) : (setFocus f s).lif = s.lif := rfl
@[simp] theorem setFocus_slots (f : Option Nat) (s : State) : (setFocus f s).slots = s.slots := rfl
@[simp] theorem setFocus_alw (f : Option Nat) (s : State) : (setFocus f s).alw = s.alw := rfl
@[simp] theorem setFocus_pln (f : Option Nat) (s : State) : (setFocus f s).pln = s.pln := rfl
@[simp] theorem setFocus_ofe (f : Option Nat) (s : State) : (setFocus f s).ofe = s.ofe := rfl
@[simp] theorem setFocus_seq (f : Option Nat) (s : State) : (setFocus f s).seq = s.seq := rfl
@[simp] theorem setFocus_rhs (f : Option Nat) (s : State) : (setFocus f s).rhs = s.rhs := rfl
@[simp] theorem setFocus_sul (f : Option Nat) (s : State) : (setFocus f s).sul = s.sul := rfl
@[simp] theorem setFocus_counters (f : Option Nat) (s : State) : (setFocus f s).counters = s.counters := rfl
@[simp] theorem setFocus_draw (f : Option Nat) (s : State) : (setFocus f s).draw = s.draw := rfl
@[simp] theorem setFocus_pending (f : Option Nat) (s : State) : (setFocus f s).pending = s.pending := rfl

/-! `startTimer` writes seq only (9.1). -/

@[simp] theorem startTimer_core (k : StepTimer) (ms : Nat) (s : State) : (startTimer k ms s).core = s.core := rfl
@[simp] theorem startTimer_lif (k : StepTimer) (ms : Nat) (s : State) : (startTimer k ms s).lif = s.lif := rfl
@[simp] theorem startTimer_slots (k : StepTimer) (ms : Nat) (s : State) : (startTimer k ms s).slots = s.slots := rfl
@[simp] theorem startTimer_svy (k : StepTimer) (ms : Nat) (s : State) : (startTimer k ms s).svy = s.svy := rfl
@[simp] theorem startTimer_alw (k : StepTimer) (ms : Nat) (s : State) : (startTimer k ms s).alw = s.alw := rfl
@[simp] theorem startTimer_pln (k : StepTimer) (ms : Nat) (s : State) : (startTimer k ms s).pln = s.pln := rfl
@[simp] theorem startTimer_ofe (k : StepTimer) (ms : Nat) (s : State) : (startTimer k ms s).ofe = s.ofe := rfl
@[simp] theorem startTimer_rhs (k : StepTimer) (ms : Nat) (s : State) : (startTimer k ms s).rhs = s.rhs := rfl
@[simp] theorem startTimer_sul (k : StepTimer) (ms : Nat) (s : State) : (startTimer k ms s).sul = s.sul := rfl
@[simp] theorem startTimer_counters (k : StepTimer) (ms : Nat) (s : State) : (startTimer k ms s).counters = s.counters := rfl
@[simp] theorem startTimer_draw (k : StepTimer) (ms : Nat) (s : State) : (startTimer k ms s).draw = s.draw := rfl
@[simp] theorem startTimer_pending (k : StepTimer) (ms : Nat) (s : State) : (startTimer k ms s).pending = s.pending := rfl

/-! `modSwap` writes seq only (R144). -/

@[simp] theorem modSwap_core (f : Swap → Swap) (s : State) : (modSwap f s).core = s.core := rfl
@[simp] theorem modSwap_lif (f : Swap → Swap) (s : State) : (modSwap f s).lif = s.lif := rfl
@[simp] theorem modSwap_slots (f : Swap → Swap) (s : State) : (modSwap f s).slots = s.slots := rfl
@[simp] theorem modSwap_svy (f : Swap → Swap) (s : State) : (modSwap f s).svy = s.svy := rfl
@[simp] theorem modSwap_alw (f : Swap → Swap) (s : State) : (modSwap f s).alw = s.alw := rfl
@[simp] theorem modSwap_pln (f : Swap → Swap) (s : State) : (modSwap f s).pln = s.pln := rfl
@[simp] theorem modSwap_ofe (f : Swap → Swap) (s : State) : (modSwap f s).ofe = s.ofe := rfl
@[simp] theorem modSwap_rhs (f : Swap → Swap) (s : State) : (modSwap f s).rhs = s.rhs := rfl
@[simp] theorem modSwap_sul (f : Swap → Swap) (s : State) : (modSwap f s).sul = s.sul := rfl
@[simp] theorem modSwap_counters (f : Swap → Swap) (s : State) : (modSwap f s).counters = s.counters := rfl
@[simp] theorem modSwap_draw (f : Swap → Swap) (s : State) : (modSwap f s).draw = s.draw := rfl
@[simp] theorem modSwap_pending (f : Swap → Swap) (s : State) : (modSwap f s).pending = s.pending := rfl

/-! `setRole` writes slots and pln only (R76). -/

@[simp] theorem setRole_core (n : Nat) (r : Role) (rid : Option ReqId) (s : State) : (setRole n r rid s).core = s.core := rfl
@[simp] theorem setRole_lif (n : Nat) (r : Role) (rid : Option ReqId) (s : State) : (setRole n r rid s).lif = s.lif := rfl
@[simp] theorem setRole_svy (n : Nat) (r : Role) (rid : Option ReqId) (s : State) : (setRole n r rid s).svy = s.svy := rfl
@[simp] theorem setRole_alw (n : Nat) (r : Role) (rid : Option ReqId) (s : State) : (setRole n r rid s).alw = s.alw := rfl
@[simp] theorem setRole_ofe (n : Nat) (r : Role) (rid : Option ReqId) (s : State) : (setRole n r rid s).ofe = s.ofe := rfl
@[simp] theorem setRole_seq (n : Nat) (r : Role) (rid : Option ReqId) (s : State) : (setRole n r rid s).seq = s.seq := rfl
@[simp] theorem setRole_rhs (n : Nat) (r : Role) (rid : Option ReqId) (s : State) : (setRole n r rid s).rhs = s.rhs := rfl
@[simp] theorem setRole_sul (n : Nat) (r : Role) (rid : Option ReqId) (s : State) : (setRole n r rid s).sul = s.sul := rfl
@[simp] theorem setRole_counters (n : Nat) (r : Role) (rid : Option ReqId) (s : State) : (setRole n r rid s).counters = s.counters := rfl
@[simp] theorem setRole_draw (n : Nat) (r : Role) (rid : Option ReqId) (s : State) : (setRole n r rid s).draw = s.draw := rfl
@[simp] theorem setRole_pending (n : Nat) (r : Role) (rid : Option ReqId) (s : State) : (setRole n r rid s).pending = s.pending := rfl

/-! `renumberQueue` writes ofe only (R145). -/

@[simp] theorem renumberQueue_core (s : State) : (renumberQueue s).core = s.core := rfl
@[simp] theorem renumberQueue_lif (s : State) : (renumberQueue s).lif = s.lif := rfl
@[simp] theorem renumberQueue_slots (s : State) : (renumberQueue s).slots = s.slots := rfl
@[simp] theorem renumberQueue_svy (s : State) : (renumberQueue s).svy = s.svy := rfl
@[simp] theorem renumberQueue_alw (s : State) : (renumberQueue s).alw = s.alw := rfl
@[simp] theorem renumberQueue_pln (s : State) : (renumberQueue s).pln = s.pln := rfl
@[simp] theorem renumberQueue_seq (s : State) : (renumberQueue s).seq = s.seq := rfl
@[simp] theorem renumberQueue_rhs (s : State) : (renumberQueue s).rhs = s.rhs := rfl
@[simp] theorem renumberQueue_sul (s : State) : (renumberQueue s).sul = s.sul := rfl
@[simp] theorem renumberQueue_counters (s : State) : (renumberQueue s).counters = s.counters := rfl
@[simp] theorem renumberQueue_draw (s : State) : (renumberQueue s).draw = s.draw := rfl
@[simp] theorem renumberQueue_pending (s : State) : (renumberQueue s).pending = s.pending := rfl

/-! `clearSwap` writes svy and seq and rhs only (R159). -/

@[simp] theorem clearSwap_core (s : State) : (clearSwap s).core = s.core := rfl
@[simp] theorem clearSwap_lif (s : State) : (clearSwap s).lif = s.lif := rfl
@[simp] theorem clearSwap_slots (s : State) : (clearSwap s).slots = s.slots := rfl
@[simp] theorem clearSwap_alw (s : State) : (clearSwap s).alw = s.alw := rfl
@[simp] theorem clearSwap_pln (s : State) : (clearSwap s).pln = s.pln := rfl
@[simp] theorem clearSwap_ofe (s : State) : (clearSwap s).ofe = s.ofe := rfl
@[simp] theorem clearSwap_sul (s : State) : (clearSwap s).sul = s.sul := rfl
@[simp] theorem clearSwap_counters (s : State) : (clearSwap s).counters = s.counters := rfl
@[simp] theorem clearSwap_draw (s : State) : (clearSwap s).draw = s.draw := rfl
@[simp] theorem clearSwap_pending (s : State) : (clearSwap s).pending = s.pending := rfl

/-! `dropHead` writes lif only (R37). -/

@[simp] theorem dropHead_core (s : State) : (dropHead s).core = s.core := rfl
@[simp] theorem dropHead_slots (s : State) : (dropHead s).slots = s.slots := rfl
@[simp] theorem dropHead_svy (s : State) : (dropHead s).svy = s.svy := rfl
@[simp] theorem dropHead_alw (s : State) : (dropHead s).alw = s.alw := rfl
@[simp] theorem dropHead_pln (s : State) : (dropHead s).pln = s.pln := rfl
@[simp] theorem dropHead_ofe (s : State) : (dropHead s).ofe = s.ofe := rfl
@[simp] theorem dropHead_seq (s : State) : (dropHead s).seq = s.seq := rfl
@[simp] theorem dropHead_rhs (s : State) : (dropHead s).rhs = s.rhs := rfl
@[simp] theorem dropHead_sul (s : State) : (dropHead s).sul = s.sul := rfl
@[simp] theorem dropHead_counters (s : State) : (dropHead s).counters = s.counters := rfl
@[simp] theorem dropHead_draw (s : State) : (dropHead s).draw = s.draw := rfl
@[simp] theorem dropHead_pending (s : State) : (dropHead s).pending = s.pending := rfl

/-! `toSpace` writes lif only (R30). -/

@[simp] theorem toSpace_core (s : State) : (toSpace s).core = s.core := rfl
@[simp] theorem toSpace_slots (s : State) : (toSpace s).slots = s.slots := rfl
@[simp] theorem toSpace_svy (s : State) : (toSpace s).svy = s.svy := rfl
@[simp] theorem toSpace_alw (s : State) : (toSpace s).alw = s.alw := rfl
@[simp] theorem toSpace_pln (s : State) : (toSpace s).pln = s.pln := rfl
@[simp] theorem toSpace_ofe (s : State) : (toSpace s).ofe = s.ofe := rfl
@[simp] theorem toSpace_seq (s : State) : (toSpace s).seq = s.seq := rfl
@[simp] theorem toSpace_rhs (s : State) : (toSpace s).rhs = s.rhs := rfl
@[simp] theorem toSpace_sul (s : State) : (toSpace s).sul = s.sul := rfl
@[simp] theorem toSpace_counters (s : State) : (toSpace s).counters = s.counters := rfl
@[simp] theorem toSpace_draw (s : State) : (toSpace s).draw = s.draw := rfl
@[simp] theorem toSpace_pending (s : State) : (toSpace s).pending = s.pending := rfl

/-! `toIdle` writes lif only (R31). -/

@[simp] theorem toIdle_core (s : State) : (toIdle s).core = s.core := rfl
@[simp] theorem toIdle_slots (s : State) : (toIdle s).slots = s.slots := rfl
@[simp] theorem toIdle_svy (s : State) : (toIdle s).svy = s.svy := rfl
@[simp] theorem toIdle_alw (s : State) : (toIdle s).alw = s.alw := rfl
@[simp] theorem toIdle_pln (s : State) : (toIdle s).pln = s.pln := rfl
@[simp] theorem toIdle_ofe (s : State) : (toIdle s).ofe = s.ofe := rfl
@[simp] theorem toIdle_seq (s : State) : (toIdle s).seq = s.seq := rfl
@[simp] theorem toIdle_rhs (s : State) : (toIdle s).rhs = s.rhs := rfl
@[simp] theorem toIdle_sul (s : State) : (toIdle s).sul = s.sul := rfl
@[simp] theorem toIdle_counters (s : State) : (toIdle s).counters = s.counters := rfl
@[simp] theorem toIdle_draw (s : State) : (toIdle s).draw = s.draw := rfl
@[simp] theorem toIdle_pending (s : State) : (toIdle s).pending = s.pending := rfl

/-! `toHold` writes lif only (R44). -/

@[simp] theorem toHold_core (s : State) : (toHold s).core = s.core := rfl
@[simp] theorem toHold_slots (s : State) : (toHold s).slots = s.slots := rfl
@[simp] theorem toHold_svy (s : State) : (toHold s).svy = s.svy := rfl
@[simp] theorem toHold_alw (s : State) : (toHold s).alw = s.alw := rfl
@[simp] theorem toHold_pln (s : State) : (toHold s).pln = s.pln := rfl
@[simp] theorem toHold_ofe (s : State) : (toHold s).ofe = s.ofe := rfl
@[simp] theorem toHold_seq (s : State) : (toHold s).seq = s.seq := rfl
@[simp] theorem toHold_rhs (s : State) : (toHold s).rhs = s.rhs := rfl
@[simp] theorem toHold_sul (s : State) : (toHold s).sul = s.sul := rfl
@[simp] theorem toHold_counters (s : State) : (toHold s).counters = s.counters := rfl
@[simp] theorem toHold_draw (s : State) : (toHold s).draw = s.draw := rfl
@[simp] theorem toHold_pending (s : State) : (toHold s).pending = s.pending := rfl

/-! `startFrame` writes lif only (R31). -/

@[simp] theorem startFrame_core (o : TxOrigin) (f : TxFrame) (s : State) : (startFrame o f s).core = s.core := rfl
@[simp] theorem startFrame_slots (o : TxOrigin) (f : TxFrame) (s : State) : (startFrame o f s).slots = s.slots := rfl
@[simp] theorem startFrame_svy (o : TxOrigin) (f : TxFrame) (s : State) : (startFrame o f s).svy = s.svy := rfl
@[simp] theorem startFrame_alw (o : TxOrigin) (f : TxFrame) (s : State) : (startFrame o f s).alw = s.alw := rfl
@[simp] theorem startFrame_pln (o : TxOrigin) (f : TxFrame) (s : State) : (startFrame o f s).pln = s.pln := rfl
@[simp] theorem startFrame_ofe (o : TxOrigin) (f : TxFrame) (s : State) : (startFrame o f s).ofe = s.ofe := rfl
@[simp] theorem startFrame_seq (o : TxOrigin) (f : TxFrame) (s : State) : (startFrame o f s).seq = s.seq := rfl
@[simp] theorem startFrame_rhs (o : TxOrigin) (f : TxFrame) (s : State) : (startFrame o f s).rhs = s.rhs := rfl
@[simp] theorem startFrame_sul (o : TxOrigin) (f : TxFrame) (s : State) : (startFrame o f s).sul = s.sul := rfl
@[simp] theorem startFrame_counters (o : TxOrigin) (f : TxFrame) (s : State) : (startFrame o f s).counters = s.counters := rfl
@[simp] theorem startFrame_draw (o : TxOrigin) (f : TxFrame) (s : State) : (startFrame o f s).draw = s.draw := rfl
@[simp] theorem startFrame_pending (o : TxOrigin) (f : TxFrame) (s : State) : (startFrame o f s).pending = s.pending := rfl

/-! `emptyRegister` writes lif only (R40). -/

@[simp] theorem emptyRegister_core (s : State) : (emptyRegister s).core = s.core := rfl
@[simp] theorem emptyRegister_slots (s : State) : (emptyRegister s).slots = s.slots := rfl
@[simp] theorem emptyRegister_svy (s : State) : (emptyRegister s).svy = s.svy := rfl
@[simp] theorem emptyRegister_alw (s : State) : (emptyRegister s).alw = s.alw := rfl
@[simp] theorem emptyRegister_pln (s : State) : (emptyRegister s).pln = s.pln := rfl
@[simp] theorem emptyRegister_ofe (s : State) : (emptyRegister s).ofe = s.ofe := rfl
@[simp] theorem emptyRegister_seq (s : State) : (emptyRegister s).seq = s.seq := rfl
@[simp] theorem emptyRegister_rhs (s : State) : (emptyRegister s).rhs = s.rhs := rfl
@[simp] theorem emptyRegister_sul (s : State) : (emptyRegister s).sul = s.sul := rfl
@[simp] theorem emptyRegister_counters (s : State) : (emptyRegister s).counters = s.counters := rfl
@[simp] theorem emptyRegister_draw (s : State) : (emptyRegister s).draw = s.draw := rfl
@[simp] theorem emptyRegister_pending (s : State) : (emptyRegister s).pending = s.pending := rfl

/-! `flagClash` writes lif only (R34). -/

@[simp] theorem flagClash_core (s : State) : (flagClash s).core = s.core := rfl
@[simp] theorem flagClash_slots (s : State) : (flagClash s).slots = s.slots := rfl
@[simp] theorem flagClash_svy (s : State) : (flagClash s).svy = s.svy := rfl
@[simp] theorem flagClash_alw (s : State) : (flagClash s).alw = s.alw := rfl
@[simp] theorem flagClash_pln (s : State) : (flagClash s).pln = s.pln := rfl
@[simp] theorem flagClash_ofe (s : State) : (flagClash s).ofe = s.ofe := rfl
@[simp] theorem flagClash_seq (s : State) : (flagClash s).seq = s.seq := rfl
@[simp] theorem flagClash_rhs (s : State) : (flagClash s).rhs = s.rhs := rfl
@[simp] theorem flagClash_sul (s : State) : (flagClash s).sul = s.sul := rfl
@[simp] theorem flagClash_counters (s : State) : (flagClash s).counters = s.counters := rfl
@[simp] theorem flagClash_draw (s : State) : (flagClash s).draw = s.draw := rfl
@[simp] theorem flagClash_pending (s : State) : (flagClash s).pending = s.pending := rfl

/-! `deselect` writes sul only (R177). -/

@[simp] theorem deselect_core (s : State) : (deselect s).core = s.core := rfl
@[simp] theorem deselect_lif (s : State) : (deselect s).lif = s.lif := rfl
@[simp] theorem deselect_slots (s : State) : (deselect s).slots = s.slots := rfl
@[simp] theorem deselect_svy (s : State) : (deselect s).svy = s.svy := rfl
@[simp] theorem deselect_alw (s : State) : (deselect s).alw = s.alw := rfl
@[simp] theorem deselect_pln (s : State) : (deselect s).pln = s.pln := rfl
@[simp] theorem deselect_ofe (s : State) : (deselect s).ofe = s.ofe := rfl
@[simp] theorem deselect_seq (s : State) : (deselect s).seq = s.seq := rfl
@[simp] theorem deselect_rhs (s : State) : (deselect s).rhs = s.rhs := rfl
@[simp] theorem deselect_counters (s : State) : (deselect s).counters = s.counters := rfl
@[simp] theorem deselect_draw (s : State) : (deselect s).draw = s.draw := rfl
@[simp] theorem deselect_pending (s : State) : (deselect s).pending = s.pending := rfl

/-! `storeFigures` writes pln only (R87). -/

@[simp] theorem storeFigures_core (p : Pass) (s : State) : (storeFigures p s).core = s.core := rfl
@[simp] theorem storeFigures_lif (p : Pass) (s : State) : (storeFigures p s).lif = s.lif := rfl
@[simp] theorem storeFigures_slots (p : Pass) (s : State) : (storeFigures p s).slots = s.slots := rfl
@[simp] theorem storeFigures_svy (p : Pass) (s : State) : (storeFigures p s).svy = s.svy := rfl
@[simp] theorem storeFigures_alw (p : Pass) (s : State) : (storeFigures p s).alw = s.alw := rfl
@[simp] theorem storeFigures_ofe (p : Pass) (s : State) : (storeFigures p s).ofe = s.ofe := rfl
@[simp] theorem storeFigures_seq (p : Pass) (s : State) : (storeFigures p s).seq = s.seq := rfl
@[simp] theorem storeFigures_rhs (p : Pass) (s : State) : (storeFigures p s).rhs = s.rhs := rfl
@[simp] theorem storeFigures_sul (p : Pass) (s : State) : (storeFigures p s).sul = s.sul := rfl
@[simp] theorem storeFigures_counters (p : Pass) (s : State) : (storeFigures p s).counters = s.counters := rfl
@[simp] theorem storeFigures_draw (p : Pass) (s : State) : (storeFigures p s).draw = s.draw := rfl
@[simp] theorem storeFigures_pending (p : Pass) (s : State) : (storeFigures p s).pending = s.pending := rfl

/-! `writeSlots` writes slots only (R90). -/

@[simp] theorem writeSlots_core (p : Pass) (s : State) : (writeSlots p s).core = s.core := rfl
@[simp] theorem writeSlots_lif (p : Pass) (s : State) : (writeSlots p s).lif = s.lif := rfl
@[simp] theorem writeSlots_svy (p : Pass) (s : State) : (writeSlots p s).svy = s.svy := rfl
@[simp] theorem writeSlots_alw (p : Pass) (s : State) : (writeSlots p s).alw = s.alw := rfl
@[simp] theorem writeSlots_pln (p : Pass) (s : State) : (writeSlots p s).pln = s.pln := rfl
@[simp] theorem writeSlots_ofe (p : Pass) (s : State) : (writeSlots p s).ofe = s.ofe := rfl
@[simp] theorem writeSlots_seq (p : Pass) (s : State) : (writeSlots p s).seq = s.seq := rfl
@[simp] theorem writeSlots_rhs (p : Pass) (s : State) : (writeSlots p s).rhs = s.rhs := rfl
@[simp] theorem writeSlots_sul (p : Pass) (s : State) : (writeSlots p s).sul = s.sul := rfl
@[simp] theorem writeSlots_counters (p : Pass) (s : State) : (writeSlots p s).counters = s.counters := rfl
@[simp] theorem writeSlots_draw (p : Pass) (s : State) : (writeSlots p s).draw = s.draw := rfl
@[simp] theorem writeSlots_pending (p : Pass) (s : State) : (writeSlots p s).pending = s.pending := rfl

/-! `removeLingered` writes ofe only (R118). -/

@[simp] theorem removeLingered_core (s : State) : (removeLingered s).core = s.core := rfl
@[simp] theorem removeLingered_lif (s : State) : (removeLingered s).lif = s.lif := rfl
@[simp] theorem removeLingered_slots (s : State) : (removeLingered s).slots = s.slots := rfl
@[simp] theorem removeLingered_svy (s : State) : (removeLingered s).svy = s.svy := rfl
@[simp] theorem removeLingered_alw (s : State) : (removeLingered s).alw = s.alw := rfl
@[simp] theorem removeLingered_pln (s : State) : (removeLingered s).pln = s.pln := rfl
@[simp] theorem removeLingered_seq (s : State) : (removeLingered s).seq = s.seq := rfl
@[simp] theorem removeLingered_rhs (s : State) : (removeLingered s).rhs = s.rhs := rfl
@[simp] theorem removeLingered_sul (s : State) : (removeLingered s).sul = s.sul := rfl
@[simp] theorem removeLingered_counters (s : State) : (removeLingered s).counters = s.counters := rfl
@[simp] theorem removeLingered_draw (s : State) : (removeLingered s).draw = s.draw := rfl
@[simp] theorem removeLingered_pending (s : State) : (removeLingered s).pending = s.pending := rfl

/-! `spoilRetained` writes rhs and draw only (R171). -/

@[simp] theorem spoilRetained_core (s : State) : (spoilRetained s).core = s.core := rfl
@[simp] theorem spoilRetained_lif (s : State) : (spoilRetained s).lif = s.lif := rfl
@[simp] theorem spoilRetained_slots (s : State) : (spoilRetained s).slots = s.slots := rfl
@[simp] theorem spoilRetained_svy (s : State) : (spoilRetained s).svy = s.svy := rfl
@[simp] theorem spoilRetained_alw (s : State) : (spoilRetained s).alw = s.alw := rfl
@[simp] theorem spoilRetained_pln (s : State) : (spoilRetained s).pln = s.pln := rfl
@[simp] theorem spoilRetained_ofe (s : State) : (spoilRetained s).ofe = s.ofe := rfl
@[simp] theorem spoilRetained_seq (s : State) : (spoilRetained s).seq = s.seq := rfl
@[simp] theorem spoilRetained_sul (s : State) : (spoilRetained s).sul = s.sul := rfl
@[simp] theorem spoilRetained_counters (s : State) : (spoilRetained s).counters = s.counters := rfl
@[simp] theorem spoilRetained_pending (s : State) : (spoilRetained s).pending = s.pending := rfl

end Sys2Proof.Machine
end

