-- ==== Sys2Proof/Laws/Frames.lean ====
section
/-! SUPPORT. For each shared operation, one lemma that says once which parts of the state it leaves alone; whatever else
the state holds may change by the operation's rule. -/

namespace Sys2Proof.Machine

open Sys2Proof

/-- `bumpIf` writes counters at most (R185). -/
@[simp] theorem bumpIf_frame (b : Bool) (c : Counter) (s : State) :
    (bumpIf b c s).core = s.core ∧ (bumpIf b c s).lif = s.lif ∧ (bumpIf b c s).slots = s.slots ∧
    (bumpIf b c s).svy = s.svy ∧ (bumpIf b c s).alw = s.alw ∧ (bumpIf b c s).pln = s.pln ∧
    (bumpIf b c s).ofe = s.ofe ∧ (bumpIf b c s).seq = s.seq ∧ (bumpIf b c s).rhs = s.rhs ∧
    (bumpIf b c s).sul = s.sul ∧ (bumpIf b c s).draw = s.draw ∧ (bumpIf b c s).pending = s.pending := by
  unfold bumpIf
  (repeat' split) <;> simp

/-- `enqueue` writes lif, counters at most (R39). -/
@[simp] theorem enqueue_frame (f : TxFrame) (s : State) :
    (enqueue f s).core = s.core ∧ (enqueue f s).slots = s.slots ∧ (enqueue f s).svy = s.svy ∧
    (enqueue f s).alw = s.alw ∧ (enqueue f s).pln = s.pln ∧ (enqueue f s).ofe = s.ofe ∧
    (enqueue f s).seq = s.seq ∧ (enqueue f s).rhs = s.rhs ∧ (enqueue f s).sul = s.sul ∧
    (enqueue f s).draw = s.draw ∧ (enqueue f s).pending = s.pending := by
  unfold enqueue
  (repeat' split) <;> simp

/-- `decline` writes lif, counters at most (R56). -/
@[simp] theorem decline_frame (rid : ReqId) (r : DeclineReason) (s : State) :
    (decline rid r s).core = s.core ∧ (decline rid r s).slots = s.slots ∧ (decline rid r s).svy = s.svy ∧
    (decline rid r s).alw = s.alw ∧ (decline rid r s).pln = s.pln ∧ (decline rid r s).ofe = s.ofe ∧
    (decline rid r s).seq = s.seq ∧ (decline rid r s).rhs = s.rhs ∧ (decline rid r s).sul = s.sul ∧
    (decline rid r s).draw = s.draw ∧ (decline rid r s).pending = s.pending := by
  unfold decline
  simp

/-- `bumpClose` writes counters at most (R57). -/
@[simp] theorem bumpClose_frame (o : Outcome) (a : Option AbortReason) (s : State) :
    (bumpClose o a s).core = s.core ∧ (bumpClose o a s).lif = s.lif ∧ (bumpClose o a s).slots = s.slots ∧
    (bumpClose o a s).svy = s.svy ∧ (bumpClose o a s).alw = s.alw ∧ (bumpClose o a s).pln = s.pln ∧
    (bumpClose o a s).ofe = s.ofe ∧ (bumpClose o a s).seq = s.seq ∧ (bumpClose o a s).rhs = s.rhs ∧
    (bumpClose o a s).sul = s.sul ∧ (bumpClose o a s).draw = s.draw ∧ (bumpClose o a s).pending = s.pending := by
  unfold bumpClose
  (repeat' split) <;> simp

/-- `close` writes lif, counters at most (R57). -/
@[simp] theorem close_frame (rid : ReqId) (o : Outcome) (a : Option AbortReason) (x y : Option Word) (s : State) :
    (close rid o a x y s).core = s.core ∧ (close rid o a x y s).slots = s.slots ∧
    (close rid o a x y s).svy = s.svy ∧ (close rid o a x y s).alw = s.alw ∧ (close rid o a x y s).pln = s.pln ∧
    (close rid o a x y s).ofe = s.ofe ∧ (close rid o a x y s).seq = s.seq ∧ (close rid o a x y s).rhs = s.rhs ∧
    (close rid o a x y s).sul = s.sul ∧ (close rid o a x y s).draw = s.draw ∧
    (close rid o a x y s).pending = s.pending := by
  unfold close
  simp

/-- `clearRegister` writes lif at most (R40). -/
@[simp] theorem clearRegister_frame (s : State) :
    (clearRegister s).core = s.core ∧ (clearRegister s).slots = s.slots ∧ (clearRegister s).svy = s.svy ∧
    (clearRegister s).alw = s.alw ∧ (clearRegister s).pln = s.pln ∧ (clearRegister s).ofe = s.ofe ∧
    (clearRegister s).seq = s.seq ∧ (clearRegister s).rhs = s.rhs ∧ (clearRegister s).sul = s.sul ∧
    (clearRegister s).counters = s.counters ∧ (clearRegister s).draw = s.draw ∧
    (clearRegister s).pending = s.pending := by
  unfold clearRegister
  (repeat' split) <;> simp

/-- `queueCompleted` writes lif at most (R33). -/
@[simp] theorem queueCompleted_frame (o : Nat) (s : State) :
    (queueCompleted o s).core = s.core ∧ (queueCompleted o s).slots = s.slots ∧
    (queueCompleted o s).svy = s.svy ∧ (queueCompleted o s).alw = s.alw ∧ (queueCompleted o s).pln = s.pln ∧
    (queueCompleted o s).ofe = s.ofe ∧ (queueCompleted o s).seq = s.seq ∧ (queueCompleted o s).rhs = s.rhs ∧
    (queueCompleted o s).sul = s.sul ∧ (queueCompleted o s).counters = s.counters ∧
    (queueCompleted o s).draw = s.draw ∧ (queueCompleted o s).pending = s.pending := by
  unfold queueCompleted
  (repeat' split) <;> simp

/-- `queueAbandoned` writes lif, counters at most (R33). -/
@[simp] theorem queueAbandoned_frame (o : Nat) (s : State) :
    (queueAbandoned o s).core = s.core ∧ (queueAbandoned o s).slots = s.slots ∧
    (queueAbandoned o s).svy = s.svy ∧ (queueAbandoned o s).alw = s.alw ∧ (queueAbandoned o s).pln = s.pln ∧
    (queueAbandoned o s).ofe = s.ofe ∧ (queueAbandoned o s).seq = s.seq ∧ (queueAbandoned o s).rhs = s.rhs ∧
    (queueAbandoned o s).sul = s.sul ∧ (queueAbandoned o s).draw = s.draw ∧
    (queueAbandoned o s).pending = s.pending := by
  unfold queueAbandoned
  (repeat' split) <;> simp

/-- `recomputeGrant` writes alw, pln at most (R69). -/
@[simp] theorem recomputeGrant_frame (s : State) :
    (recomputeGrant s).core = s.core ∧ (recomputeGrant s).lif = s.lif ∧ (recomputeGrant s).slots = s.slots ∧
    (recomputeGrant s).svy = s.svy ∧ (recomputeGrant s).ofe = s.ofe ∧ (recomputeGrant s).seq = s.seq ∧
    (recomputeGrant s).rhs = s.rhs ∧ (recomputeGrant s).sul = s.sul ∧
    (recomputeGrant s).counters = s.counters ∧ (recomputeGrant s).draw = s.draw ∧
    (recomputeGrant s).pending = s.pending := by
  unfold recomputeGrant
  (repeat' split) <;> simp

/-- `recomputeAllowance` writes alw, pln at most (R66). -/
@[simp] theorem recomputeAllowance_frame (s : State) :
    (recomputeAllowance s).core = s.core ∧ (recomputeAllowance s).lif = s.lif ∧
    (recomputeAllowance s).slots = s.slots ∧ (recomputeAllowance s).svy = s.svy ∧
    (recomputeAllowance s).ofe = s.ofe ∧ (recomputeAllowance s).seq = s.seq ∧
    (recomputeAllowance s).rhs = s.rhs ∧ (recomputeAllowance s).sul = s.sul ∧
    (recomputeAllowance s).counters = s.counters ∧ (recomputeAllowance s).draw = s.draw ∧
    (recomputeAllowance s).pending = s.pending := by
  unfold recomputeAllowance
  dsimp only
  (repeat' split) <;> simp

/-- `produceDemand` writes lif, alw, counters at most (R70). -/
@[simp] theorem produceDemand_frame (s : State) :
    (produceDemand s).core = s.core ∧ (produceDemand s).slots = s.slots ∧ (produceDemand s).svy = s.svy ∧
    (produceDemand s).pln = s.pln ∧ (produceDemand s).ofe = s.ofe ∧ (produceDemand s).seq = s.seq ∧
    (produceDemand s).rhs = s.rhs ∧ (produceDemand s).sul = s.sul ∧ (produceDemand s).draw = s.draw ∧
    (produceDemand s).pending = s.pending := by
  unfold produceDemand
  simp

/-- `earlyDemand` writes lif, alw, counters at most (R72). -/
@[simp] theorem earlyDemand_frame (s : State) :
    (earlyDemand s).core = s.core ∧ (earlyDemand s).slots = s.slots ∧ (earlyDemand s).svy = s.svy ∧
    (earlyDemand s).pln = s.pln ∧ (earlyDemand s).ofe = s.ofe ∧ (earlyDemand s).seq = s.seq ∧
    (earlyDemand s).rhs = s.rhs ∧ (earlyDemand s).sul = s.sul ∧ (earlyDemand s).draw = s.draw ∧
    (earlyDemand s).pending = s.pending := by
  unfold earlyDemand
  (repeat' split) <;> simp

/-- `takeDemand` writes alw, pln at most (R62). -/
@[simp] theorem takeDemand_frame (n : BitVec 4) (p : Peer) (s : State) :
    (takeDemand n p s).core = s.core ∧ (takeDemand n p s).lif = s.lif ∧ (takeDemand n p s).slots = s.slots ∧
    (takeDemand n p s).svy = s.svy ∧ (takeDemand n p s).ofe = s.ofe ∧ (takeDemand n p s).seq = s.seq ∧
    (takeDemand n p s).rhs = s.rhs ∧ (takeDemand n p s).sul = s.sul ∧
    (takeDemand n p s).counters = s.counters ∧ (takeDemand n p s).draw = s.draw ∧
    (takeDemand n p s).pending = s.pending := by
  unfold takeDemand
  (repeat' split) <;> simp

/-- `takeMeter` writes alw, pln at most (R64). -/
@[simp] theorem takeMeter_frame (l m : Half) (s : State) :
    (takeMeter l m s).core = s.core ∧ (takeMeter l m s).lif = s.lif ∧ (takeMeter l m s).slots = s.slots ∧
    (takeMeter l m s).svy = s.svy ∧ (takeMeter l m s).ofe = s.ofe ∧ (takeMeter l m s).seq = s.seq ∧
    (takeMeter l m s).rhs = s.rhs ∧ (takeMeter l m s).sul = s.sul ∧ (takeMeter l m s).counters = s.counters ∧
    (takeMeter l m s).draw = s.draw ∧ (takeMeter l m s).pending = s.pending := by
  unfold takeMeter
  simp

/-- `agePeers` writes alw, pln at most (R63). -/
@[simp] theorem agePeers_frame (s : State) :
    (agePeers s).core = s.core ∧ (agePeers s).lif = s.lif ∧ (agePeers s).slots = s.slots ∧
    (agePeers s).svy = s.svy ∧ (agePeers s).ofe = s.ofe ∧ (agePeers s).seq = s.seq ∧ (agePeers s).rhs = s.rhs ∧
    (agePeers s).sul = s.sul ∧ (agePeers s).counters = s.counters ∧ (agePeers s).draw = s.draw ∧
    (agePeers s).pending = s.pending := by
  unfold agePeers
  dsimp only
  (repeat' split) <;> simp

/-- `plannerHandOff` writes slots, pln at most (R164). -/
@[simp] theorem plannerHandOff_frame (s : State) :
    (plannerHandOff s).core = s.core ∧ (plannerHandOff s).lif = s.lif ∧ (plannerHandOff s).svy = s.svy ∧
    (plannerHandOff s).alw = s.alw ∧ (plannerHandOff s).ofe = s.ofe ∧ (plannerHandOff s).seq = s.seq ∧
    (plannerHandOff s).rhs = s.rhs ∧ (plannerHandOff s).sul = s.sul ∧
    (plannerHandOff s).counters = s.counters ∧ (plannerHandOff s).draw = s.draw ∧
    (plannerHandOff s).pending = s.pending := by
  unfold plannerHandOff
  (repeat' split) <;> simp

/-- `allowanceHandOff` writes lif, alw, pln, counters at most (R164). -/
@[simp] theorem allowanceHandOff_frame (old : StationState) (s : State) :
    (allowanceHandOff old s).core = s.core ∧ (allowanceHandOff old s).slots = s.slots ∧
    (allowanceHandOff old s).svy = s.svy ∧ (allowanceHandOff old s).ofe = s.ofe ∧
    (allowanceHandOff old s).seq = s.seq ∧ (allowanceHandOff old s).rhs = s.rhs ∧
    (allowanceHandOff old s).sul = s.sul ∧ (allowanceHandOff old s).draw = s.draw ∧
    (allowanceHandOff old s).pending = s.pending := by
  unfold allowanceHandOff
  dsimp only
  (repeat' split) <;> simp

/-- `freeRole` writes slots, pln at most (R122). -/
@[simp] theorem freeRole_frame (n : Nat) (r : Role) (rid : ReqId) (s : State) :
    (freeRole n r rid s).core = s.core ∧ (freeRole n r rid s).lif = s.lif ∧ (freeRole n r rid s).svy = s.svy ∧
    (freeRole n r rid s).alw = s.alw ∧ (freeRole n r rid s).ofe = s.ofe ∧ (freeRole n r rid s).seq = s.seq ∧
    (freeRole n r rid s).rhs = s.rhs ∧ (freeRole n r rid s).sul = s.sul ∧
    (freeRole n r rid s).counters = s.counters ∧ (freeRole n r rid s).draw = s.draw ∧
    (freeRole n r rid s).pending = s.pending := by
  unfold freeRole
  (repeat' split) <;> simp

/-- `endPass` writes slots, pln, alw, lif, counters at most (R87 to R90). -/
@[simp] theorem endPass_frame (p : Pass) (s : State) :
    (endPass p s).core = s.core ∧ (endPass p s).svy = s.svy ∧ (endPass p s).ofe = s.ofe ∧
    (endPass p s).seq = s.seq ∧ (endPass p s).rhs = s.rhs ∧ (endPass p s).sul = s.sul ∧
    (endPass p s).draw = s.draw ∧ (endPass p s).pending = s.pending := by
  unfold endPass
  simp

/-- `beginPass` writes pln at most (R77). -/
@[simp] theorem beginPass_frame (s : State) :
    (beginPass s).core = s.core ∧ (beginPass s).lif = s.lif ∧ (beginPass s).slots = s.slots ∧
    (beginPass s).svy = s.svy ∧ (beginPass s).alw = s.alw ∧ (beginPass s).ofe = s.ofe ∧
    (beginPass s).seq = s.seq ∧ (beginPass s).rhs = s.rhs ∧ (beginPass s).sul = s.sul ∧
    (beginPass s).counters = s.counters ∧ (beginPass s).draw = s.draw ∧ (beginPass s).pending = s.pending := by
  unfold beginPass
  (repeat' split) <;> simp

/-- `beginEvaluation` writes ofe at most (R115). -/
@[simp] theorem beginEvaluation_frame (s : State) :
    (beginEvaluation s).core = s.core ∧ (beginEvaluation s).lif = s.lif ∧ (beginEvaluation s).slots = s.slots ∧
    (beginEvaluation s).svy = s.svy ∧ (beginEvaluation s).alw = s.alw ∧ (beginEvaluation s).pln = s.pln ∧
    (beginEvaluation s).seq = s.seq ∧ (beginEvaluation s).rhs = s.rhs ∧ (beginEvaluation s).sul = s.sul ∧
    (beginEvaluation s).counters = s.counters ∧ (beginEvaluation s).draw = s.draw ∧
    (beginEvaluation s).pending = s.pending := by
  unfold beginEvaluation
  (repeat' split) <;> simp

/-- `beginStep` writes svy at most (R3). -/
@[simp] theorem beginStep_frame (k : StepKind) (n : Nat) (s : State) :
    (beginStep k n s).core = s.core ∧ (beginStep k n s).lif = s.lif ∧ (beginStep k n s).slots = s.slots ∧
    (beginStep k n s).alw = s.alw ∧ (beginStep k n s).pln = s.pln ∧ (beginStep k n s).ofe = s.ofe ∧
    (beginStep k n s).seq = s.seq ∧ (beginStep k n s).rhs = s.rhs ∧ (beginStep k n s).sul = s.sul ∧
    (beginStep k n s).counters = s.counters ∧ (beginStep k n s).draw = s.draw ∧
    (beginStep k n s).pending = s.pending := by
  unfold beginStep
  (repeat' split) <;> simp

/-- `beginGapFocus` writes svy at most (R8). -/
@[simp] theorem beginGapFocus_frame (s : State) :
    (beginGapFocus s).core = s.core ∧ (beginGapFocus s).lif = s.lif ∧ (beginGapFocus s).slots = s.slots ∧
    (beginGapFocus s).alw = s.alw ∧ (beginGapFocus s).pln = s.pln ∧ (beginGapFocus s).ofe = s.ofe ∧
    (beginGapFocus s).seq = s.seq ∧ (beginGapFocus s).rhs = s.rhs ∧ (beginGapFocus s).sul = s.sul ∧
    (beginGapFocus s).counters = s.counters ∧ (beginGapFocus s).draw = s.draw ∧
    (beginGapFocus s).pending = s.pending := by
  unfold beginGapFocus
  (repeat' split) <;> simp

/-- `settle` writes pln, ofe, svy at most (R77, R115). -/
@[simp] theorem settle_frame (s : State) :
    (settle s).core = s.core ∧ (settle s).lif = s.lif ∧ (settle s).slots = s.slots ∧ (settle s).alw = s.alw ∧
    (settle s).seq = s.seq ∧ (settle s).rhs = s.rhs ∧ (settle s).sul = s.sul ∧
    (settle s).counters = s.counters ∧ (settle s).draw = s.draw ∧ (settle s).pending = s.pending := by
  unfold settle
  simp

/-- `syncRecord` writes rhs at most (R112). -/
@[simp] theorem syncRecord_frame (rid : ReqId) (s : State) :
    (syncRecord rid s).core = s.core ∧ (syncRecord rid s).lif = s.lif ∧ (syncRecord rid s).slots = s.slots ∧
    (syncRecord rid s).svy = s.svy ∧ (syncRecord rid s).alw = s.alw ∧ (syncRecord rid s).pln = s.pln ∧
    (syncRecord rid s).ofe = s.ofe ∧ (syncRecord rid s).seq = s.seq ∧ (syncRecord rid s).sul = s.sul ∧
    (syncRecord rid s).counters = s.counters ∧ (syncRecord rid s).draw = s.draw ∧
    (syncRecord rid s).pending = s.pending := by
  unfold syncRecord
  (repeat' split) <;> simp

/-- `holdAgain` writes ofe, rhs, pln at most (R151). -/
@[simp] theorem holdAgain_frame (rid : ReqId) (s : State) :
    (holdAgain rid s).core = s.core ∧ (holdAgain rid s).lif = s.lif ∧ (holdAgain rid s).slots = s.slots ∧
    (holdAgain rid s).svy = s.svy ∧ (holdAgain rid s).alw = s.alw ∧ (holdAgain rid s).seq = s.seq ∧
    (holdAgain rid s).sul = s.sul ∧ (holdAgain rid s).counters = s.counters ∧ (holdAgain rid s).draw = s.draw ∧
    (holdAgain rid s).pending = s.pending := by
  unfold holdAgain
  simp

/-- `lapse` writes slots, pln, ofe, rhs, lif, counters at most (R141). -/
@[simp] theorem lapse_frame (rid : ReqId) (s : State) :
    (lapse rid s).core = s.core ∧ (lapse rid s).svy = s.svy ∧ (lapse rid s).alw = s.alw ∧
    (lapse rid s).seq = s.seq ∧ (lapse rid s).sul = s.sul ∧ (lapse rid s).draw = s.draw ∧
    (lapse rid s).pending = s.pending := by
  unfold lapse
  (repeat' split) <;> simp

/-- `lapseDue` writes slots, pln, ofe, rhs, lif, counters at most (R141). -/
@[simp] theorem lapseDue_frame (s : State) :
    (lapseDue s).core = s.core ∧ (lapseDue s).svy = s.svy ∧ (lapseDue s).alw = s.alw ∧
    (lapseDue s).seq = s.seq ∧ (lapseDue s).sul = s.sul ∧ (lapseDue s).draw = s.draw ∧
    (lapseDue s).pending = s.pending := by
  have fold : ∀ (l : List ReqId) (s : State), (l.foldl (fun st rid => lapse rid st) s).core = s.core ∧
        (l.foldl (fun st rid => lapse rid st) s).svy = s.svy ∧
        (l.foldl (fun st rid => lapse rid st) s).alw = s.alw ∧
        (l.foldl (fun st rid => lapse rid st) s).seq = s.seq ∧
        (l.foldl (fun st rid => lapse rid st) s).sul = s.sul ∧
        (l.foldl (fun st rid => lapse rid st) s).draw = s.draw ∧
        (l.foldl (fun st rid => lapse rid st) s).pending = s.pending := by
    intro l
    induction l with
    | nil => intro s; simp
    | cons a l ih => intro s; simpa using ih (lapse a s)
  exact fold _ s

/-- `writeProgress` writes rhs at most (R144). -/
@[simp] theorem writeProgress_frame (s : State) :
    (writeProgress s).core = s.core ∧ (writeProgress s).lif = s.lif ∧ (writeProgress s).slots = s.slots ∧
    (writeProgress s).svy = s.svy ∧ (writeProgress s).alw = s.alw ∧ (writeProgress s).pln = s.pln ∧
    (writeProgress s).ofe = s.ofe ∧ (writeProgress s).seq = s.seq ∧ (writeProgress s).sul = s.sul ∧
    (writeProgress s).counters = s.counters ∧ (writeProgress s).draw = s.draw ∧
    (writeProgress s).pending = s.pending := by
  unfold writeProgress
  (repeat' split) <;> simp

/-- `openReturnAt` writes slots, svy, seq, rhs at most (R147). -/
@[simp] theorem openReturnAt_frame (d : Nat) (s : State) :
    (openReturnAt d s).core = s.core ∧ (openReturnAt d s).lif = s.lif ∧ (openReturnAt d s).alw = s.alw ∧
    (openReturnAt d s).pln = s.pln ∧ (openReturnAt d s).ofe = s.ofe ∧ (openReturnAt d s).sul = s.sul ∧
    (openReturnAt d s).counters = s.counters ∧ (openReturnAt d s).draw = s.draw ∧
    (openReturnAt d s).pending = s.pending := by
  unfold openReturnAt
  simp

/-- `handBack` writes seq, rhs, ofe, pln, lif, counters at most (R147). -/
@[simp] theorem handBack_frame (rid : ReqId) (s : State) :
    (handBack rid s).core = s.core ∧ (handBack rid s).slots = s.slots ∧ (handBack rid s).svy = s.svy ∧
    (handBack rid s).alw = s.alw ∧ (handBack rid s).sul = s.sul ∧ (handBack rid s).draw = s.draw ∧
    (handBack rid s).pending = s.pending := by
  unfold handBack
  simp

/-- `openReturn` writes slots, svy, seq, rhs, ofe, pln, lif, counters at most (R147). -/
@[simp] theorem openReturn_frame (rid : ReqId) (s : State) :
    (openReturn rid s).core = s.core ∧ (openReturn rid s).alw = s.alw ∧ (openReturn rid s).sul = s.sul ∧
    (openReturn rid s).draw = s.draw ∧ (openReturn rid s).pending = s.pending := by
  unfold openReturn
  (repeat' split) <;> simp

/-- `startSwap` writes slots, svy, seq, rhs, ofe, pln, lif, counters at most (R146). -/
@[simp] theorem startSwap_frame (rid : ReqId) (s : State) :
    (startSwap rid s).core = s.core ∧ (startSwap rid s).alw = s.alw ∧ (startSwap rid s).sul = s.sul ∧
    (startSwap rid s).draw = s.draw ∧ (startSwap rid s).pending = s.pending := by
  unfold startSwap
  (repeat' split) <;> simp

/-- `runQueue` writes slots, svy, seq, rhs, ofe, pln, lif, counters at most (R145). -/
@[simp] theorem runQueue_frame (n : Nat) (s : State) :
    (runQueue n s).core = s.core ∧ (runQueue n s).alw = s.alw ∧ (runQueue n s).sul = s.sul ∧
    (runQueue n s).draw = s.draw ∧ (runQueue n s).pending = s.pending := by
  induction n generalizing s with
  | zero => simp [runQueue]
  | succ n ih =>
    unfold runQueue
    split
    · simp
    · split
      · simp [ih]
      · simp

/-- `lookAtQueue` writes slots, svy, seq, rhs, ofe, pln, lif, counters at most (R145). -/
@[simp] theorem lookAtQueue_frame (s : State) :
    (lookAtQueue s).core = s.core ∧ (lookAtQueue s).alw = s.alw ∧ (lookAtQueue s).sul = s.sul ∧
    (lookAtQueue s).draw = s.draw ∧ (lookAtQueue s).pending = s.pending := by
  unfold lookAtQueue
  simp

/-- `endServing` writes ofe, rhs, pln at most (R159). -/
@[simp] theorem endServing_frame (rid : ReqId) (a : EntryAfter) (s : State) :
    (endServing rid a s).core = s.core ∧ (endServing rid a s).lif = s.lif ∧
    (endServing rid a s).slots = s.slots ∧ (endServing rid a s).svy = s.svy ∧
    (endServing rid a s).alw = s.alw ∧ (endServing rid a s).seq = s.seq ∧ (endServing rid a s).sul = s.sul ∧
    (endServing rid a s).counters = s.counters ∧ (endServing rid a s).draw = s.draw ∧
    (endServing rid a s).pending = s.pending := by
  unfold endServing
  (repeat' split) <;> simp

/-- `endSwap` writes slots, svy, seq, rhs, ofe, pln, lif, counters at most (R159). -/
@[simp] theorem endSwap_frame (o : Outcome) (r : Option AbortReason) (a : EntryAfter) (w : Swap) (s : State) :
    (endSwap o r a w s).core = s.core ∧ (endSwap o r a w s).alw = s.alw ∧ (endSwap o r a w s).sul = s.sul ∧
    (endSwap o r a w s).draw = s.draw ∧ (endSwap o r a w s).pending = s.pending := by
  unfold endSwap
  simp

/-- `closeDock` writes slots, pln at most (R148). -/
@[simp] theorem closeDock_frame (w : Swap) (s : State) :
    (closeDock w s).core = s.core ∧ (closeDock w s).lif = s.lif ∧ (closeDock w s).svy = s.svy ∧
    (closeDock w s).alw = s.alw ∧ (closeDock w s).ofe = s.ofe ∧ (closeDock w s).seq = s.seq ∧
    (closeDock w s).rhs = s.rhs ∧ (closeDock w s).sul = s.sul ∧ (closeDock w s).counters = s.counters ∧
    (closeDock w s).draw = s.draw ∧ (closeDock w s).pending = s.pending := by
  unfold closeDock
  (repeat' split) <;> simp

/-- `freeRelease` writes slots, pln at most (R148). -/
@[simp] theorem freeRelease_frame (w : Swap) (s : State) :
    (freeRelease w s).core = s.core ∧ (freeRelease w s).lif = s.lif ∧ (freeRelease w s).svy = s.svy ∧
    (freeRelease w s).alw = s.alw ∧ (freeRelease w s).ofe = s.ofe ∧ (freeRelease w s).seq = s.seq ∧
    (freeRelease w s).rhs = s.rhs ∧ (freeRelease w s).sul = s.sul ∧ (freeRelease w s).counters = s.counters ∧
    (freeRelease w s).draw = s.draw ∧ (freeRelease w s).pending = s.pending := by
  unfold freeRelease
  simp

/-- `openRelease` writes slots, pln, svy, seq, rhs at most (R156). -/
@[simp] theorem openRelease_frame (n : Nat) (w : Swap) (s : State) :
    (openRelease n w s).core = s.core ∧ (openRelease n w s).lif = s.lif ∧ (openRelease n w s).alw = s.alw ∧
    (openRelease n w s).ofe = s.ofe ∧ (openRelease n w s).sul = s.sul ∧
    (openRelease n w s).counters = s.counters ∧ (openRelease n w s).draw = s.draw ∧
    (openRelease n w s).pending = s.pending := by
  unfold openRelease
  (repeat' split) <;> simp

/-- `endGiveBack` writes slots, svy, seq, rhs, ofe, pln, lif, counters at most (R154). -/
@[simp] theorem endGiveBack_frame (r : AbortReason) (w : Swap) (s : State) :
    (endGiveBack r w s).core = s.core ∧ (endGiveBack r w s).alw = s.alw ∧ (endGiveBack r w s).sul = s.sul ∧
    (endGiveBack r w s).draw = s.draw ∧ (endGiveBack r w s).pending = s.pending := by
  unfold endGiveBack
  simp

/-- `openGiveBack` writes slots, pln, svy, seq, rhs at most (R154). -/
@[simp] theorem openGiveBack_frame (d : Nat) (r : AbortReason) (w : Swap) (s : State) :
    (openGiveBack d r w s).core = s.core ∧ (openGiveBack d r w s).lif = s.lif ∧
    (openGiveBack d r w s).alw = s.alw ∧ (openGiveBack d r w s).ofe = s.ofe ∧
    (openGiveBack d r w s).sul = s.sul ∧ (openGiveBack d r w s).counters = s.counters ∧
    (openGiveBack d r w s).draw = s.draw ∧ (openGiveBack d r w s).pending = s.pending := by
  unfold openGiveBack
  simp

/-- `giveBack` writes slots, svy, seq, rhs, ofe, pln, lif, counters at most (R154). -/
@[simp] theorem giveBack_frame (r : AbortReason) (w : Swap) (s : State) :
    (giveBack r w s).core = s.core ∧ (giveBack r w s).alw = s.alw ∧ (giveBack r w s).sul = s.sul ∧
    (giveBack r w s).draw = s.draw ∧ (giveBack r w s).pending = s.pending := by
  unfold giveBack
  (repeat' split) <;> simp

/-- `substitute` writes slots, svy, seq, rhs, ofe, pln, lif, counters at most (R153). -/
@[simp] theorem substitute_frame (w : Swap) (e : Entry) (s : State) :
    (substitute w e s).core = s.core ∧ (substitute w e s).alw = s.alw ∧ (substitute w e s).sul = s.sul ∧
    (substitute w e s).draw = s.draw ∧ (substitute w e s).pending = s.pending := by
  unfold substitute
  (repeat' split) <;> simp

/-- `openWait` writes seq, rhs, pln at most (R155). -/
@[simp] theorem openWait_frame (e : Entry) (s : State) :
    (openWait e s).core = s.core ∧ (openWait e s).lif = s.lif ∧ (openWait e s).slots = s.slots ∧
    (openWait e s).svy = s.svy ∧ (openWait e s).alw = s.alw ∧ (openWait e s).ofe = s.ofe ∧
    (openWait e s).sul = s.sul ∧ (openWait e s).counters = s.counters ∧ (openWait e s).draw = s.draw ∧
    (openWait e s).pending = s.pending := by
  unfold openWait
  simp

/-- `releaseReady` writes slots, svy, seq, rhs, ofe, pln, lif, counters at most (R152). -/
@[simp] theorem releaseReady_frame (w : Swap) (s : State) :
    (releaseReady w s).core = s.core ∧ (releaseReady w s).alw = s.alw ∧ (releaseReady w s).sul = s.sul ∧
    (releaseReady w s).draw = s.draw ∧ (releaseReady w s).pending = s.pending := by
  unfold releaseReady
  (repeat' split) <;> simp

/-- `judgeWaiting` writes slots, svy, seq, rhs, ofe, pln, lif, counters at most (R155). -/
@[simp] theorem judgeWaiting_frame (w : Swap) (s : State) :
    (judgeWaiting w s).core = s.core ∧ (judgeWaiting w s).alw = s.alw ∧ (judgeWaiting w s).sul = s.sul ∧
    (judgeWaiting w s).draw = s.draw ∧ (judgeWaiting w s).pending = s.pending := by
  unfold judgeWaiting
  (repeat' split) <;> simp

/-- `rejudge` writes slots, svy, seq, rhs, ofe, pln, lif, counters at most (R155). -/
@[simp] theorem rejudge_frame (n : Nat) (s : State) :
    (rejudge n s).core = s.core ∧ (rejudge n s).alw = s.alw ∧ (rejudge n s).sul = s.sul ∧
    (rejudge n s).draw = s.draw ∧ (rejudge n s).pending = s.pending := by
  unfold rejudge
  (repeat' split) <;> simp

/-- `openCheck` writes seq, rhs at most (R148). -/
@[simp] theorem openCheck_frame (s : State) :
    (openCheck s).core = s.core ∧ (openCheck s).lif = s.lif ∧ (openCheck s).slots = s.slots ∧
    (openCheck s).svy = s.svy ∧ (openCheck s).alw = s.alw ∧ (openCheck s).pln = s.pln ∧
    (openCheck s).ofe = s.ofe ∧ (openCheck s).sul = s.sul ∧ (openCheck s).counters = s.counters ∧
    (openCheck s).draw = s.draw ∧ (openCheck s).pending = s.pending := by
  unfold openCheck
  simp

/-- `openReject` writes slots, svy, seq, rhs at most (R150). -/
@[simp] theorem openReject_frame (d : Nat) (s : State) :
    (openReject d s).core = s.core ∧ (openReject d s).lif = s.lif ∧ (openReject d s).alw = s.alw ∧
    (openReject d s).pln = s.pln ∧ (openReject d s).ofe = s.ofe ∧ (openReject d s).sul = s.sul ∧
    (openReject d s).counters = s.counters ∧ (openReject d s).draw = s.draw ∧
    (openReject d s).pending = s.pending := by
  unfold openReject
  simp

/-- `endReject` writes slots, svy, seq, rhs, ofe, pln, lif, counters at most (R151). -/
@[simp] theorem endReject_frame (w : Swap) (s : State) :
    (endReject w s).core = s.core ∧ (endReject w s).alw = s.alw ∧ (endReject w s).sul = s.sul ∧
    (endReject w s).draw = s.draw ∧ (endReject w s).pending = s.pending := by
  unfold endReject
  simp

/-- `acceptReturn` writes slots, svy, seq, rhs, ofe, pln, lif, counters at most (R149). -/
@[simp] theorem acceptReturn_frame (p : Pack) (w : Swap) (s : State) :
    (acceptReturn p w s).core = s.core ∧ (acceptReturn p w s).alw = s.alw ∧ (acceptReturn p w s).sul = s.sul ∧
    (acceptReturn p w s).draw = s.draw ∧ (acceptReturn p w s).pending = s.pending := by
  unfold acceptReturn
  simp

/-- `judgeReturn` writes slots, svy, seq, rhs, ofe, pln, lif, counters at most (R149). -/
@[simp] theorem judgeReturn_frame (c : Cond) (p : Option Pack) (d : Nat) (w : Swap) (s : State) :
    (judgeReturn c p d w s).core = s.core ∧ (judgeReturn c p d w s).alw = s.alw ∧
    (judgeReturn c p d w s).sul = s.sul ∧ (judgeReturn c p d w s).draw = s.draw ∧
    (judgeReturn c p d w s).pending = s.pending := by
  unfold judgeReturn
  (repeat' split) <;> simp

/-- `takeReport` writes slots, svy, seq, rhs, ofe, pln, lif, counters at most (9.6). -/
@[simp] theorem takeReport_frame (n : Nat) (r : Report) (s : State) :
    (takeReport n r s).core = s.core ∧ (takeReport n r s).alw = s.alw ∧ (takeReport n r s).sul = s.sul ∧
    (takeReport n r s).draw = s.draw ∧ (takeReport n r s).pending = s.pending := by
  unfold takeReport
  (repeat' split) <;> simp

/-- `resumeReturn` writes slots, svy, seq, rhs, ofe, pln, lif, counters at most (R174). -/
@[simp] theorem resumeReturn_frame (d : Nat) (w : Swap) (s : State) :
    (resumeReturn d w s).core = s.core ∧ (resumeReturn d w s).alw = s.alw ∧ (resumeReturn d w s).sul = s.sul ∧
    (resumeReturn d w s).draw = s.draw ∧ (resumeReturn d w s).pending = s.pending := by
  unfold resumeReturn
  (repeat' split) <;> simp

/-- `resumeSwap` writes slots, svy, seq, rhs, ofe, pln, lif, counters at most (R174). -/
@[simp] theorem resumeSwap_frame (p : ProgressStep) (w : Swap) (s : State) :
    (resumeSwap p w s).core = s.core ∧ (resumeSwap p w s).alw = s.alw ∧ (resumeSwap p w s).sul = s.sul ∧
    (resumeSwap p w s).draw = s.draw ∧ (resumeSwap p w s).pending = s.pending := by
  unfold resumeSwap
  dsimp only
  (repeat' split) <;> simp

/-- `takeFirstPass` writes slots, svy, seq, rhs, ofe, pln, lif, counters at most (R143). -/
@[simp] theorem takeFirstPass_frame (s : State) :
    (takeFirstPass s).core = s.core ∧ (takeFirstPass s).alw = s.alw ∧ (takeFirstPass s).sul = s.sul ∧
    (takeFirstPass s).draw = s.draw ∧ (takeFirstPass s).pending = s.pending := by
  unfold takeFirstPass
  (repeat' split) <;> simp

/-- `takeBegin` writes slots, svy, seq, rhs, ofe, pln, lif, counters at most (R146). -/
@[simp] theorem takeBegin_frame (rid : ReqId) (s : State) :
    (takeBegin rid s).core = s.core ∧ (takeBegin rid s).alw = s.alw ∧ (takeBegin rid s).sul = s.sul ∧
    (takeBegin rid s).draw = s.draw ∧ (takeBegin rid s).pending = s.pending := by
  unfold takeBegin
  (repeat' split) <;> simp

/-- `cancelServing` writes slots, pln, rhs, ofe at most (R160). -/
@[simp] theorem cancelServing_frame (rid : ReqId) (s : State) :
    (cancelServing rid s).core = s.core ∧ (cancelServing rid s).lif = s.lif ∧
    (cancelServing rid s).svy = s.svy ∧ (cancelServing rid s).alw = s.alw ∧ (cancelServing rid s).seq = s.seq ∧
    (cancelServing rid s).sul = s.sul ∧ (cancelServing rid s).counters = s.counters ∧
    (cancelServing rid s).draw = s.draw ∧ (cancelServing rid s).pending = s.pending := by
  unfold cancelServing
  (repeat' split) <;> simp

/-- `endCancelled` writes slots, svy, seq, rhs, ofe, pln, lif, counters at most (R160). -/
@[simp] theorem endCancelled_frame (w : Swap) (s : State) :
    (endCancelled w s).core = s.core ∧ (endCancelled w s).alw = s.alw ∧ (endCancelled w s).sul = s.sul ∧
    (endCancelled w s).draw = s.draw ∧ (endCancelled w s).pending = s.pending := by
  unfold endCancelled
  simp

/-- `cancelSwap` writes slots, svy, seq, rhs, ofe, pln, lif, counters at most (R160). -/
@[simp] theorem cancelSwap_frame (rid : ReqId) (s : State) :
    (cancelSwap rid s).core = s.core ∧ (cancelSwap rid s).alw = s.alw ∧ (cancelSwap rid s).sul = s.sul ∧
    (cancelSwap rid s).draw = s.draw ∧ (cancelSwap rid s).pending = s.pending := by
  unfold cancelSwap
  (repeat' split) <;> simp

/-- `abandonSlot` writes slots, pln at most (R151). -/
@[simp] theorem abandonSlot_frame (n : Nat) (s : State) :
    (abandonSlot n s).core = s.core ∧ (abandonSlot n s).lif = s.lif ∧ (abandonSlot n s).svy = s.svy ∧
    (abandonSlot n s).alw = s.alw ∧ (abandonSlot n s).ofe = s.ofe ∧ (abandonSlot n s).seq = s.seq ∧
    (abandonSlot n s).rhs = s.rhs ∧ (abandonSlot n s).sul = s.sul ∧ (abandonSlot n s).counters = s.counters ∧
    (abandonSlot n s).draw = s.draw ∧ (abandonSlot n s).pending = s.pending := by
  unfold abandonSlot
  simp

/-- `enterRequest` writes ofe, lif, counters at most (R113). -/
@[simp] theorem enterRequest_frame (e : Entry) (s : State) :
    (enterRequest e s).core = s.core ∧ (enterRequest e s).slots = s.slots ∧ (enterRequest e s).svy = s.svy ∧
    (enterRequest e s).alw = s.alw ∧ (enterRequest e s).pln = s.pln ∧ (enterRequest e s).seq = s.seq ∧
    (enterRequest e s).rhs = s.rhs ∧ (enterRequest e s).sul = s.sul ∧ (enterRequest e s).draw = s.draw ∧
    (enterRequest e s).pending = s.pending := by
  unfold enterRequest
  (repeat' split) <;> simp

/-- `renewRequest` writes ofe at most (R113). -/
@[simp] theorem renewRequest_frame (e : Entry) (s : State) :
    (renewRequest e s).core = s.core ∧ (renewRequest e s).lif = s.lif ∧ (renewRequest e s).slots = s.slots ∧
    (renewRequest e s).svy = s.svy ∧ (renewRequest e s).alw = s.alw ∧ (renewRequest e s).pln = s.pln ∧
    (renewRequest e s).seq = s.seq ∧ (renewRequest e s).rhs = s.rhs ∧ (renewRequest e s).sul = s.sul ∧
    (renewRequest e s).counters = s.counters ∧ (renewRequest e s).draw = s.draw ∧
    (renewRequest e s).pending = s.pending := by
  unfold renewRequest
  simp

/-- `enterOrRenew` writes ofe, lif, counters at most (R113). -/
@[simp] theorem enterOrRenew_frame (e : Entry) (s : State) :
    (enterOrRenew e s).core = s.core ∧ (enterOrRenew e s).slots = s.slots ∧ (enterOrRenew e s).svy = s.svy ∧
    (enterOrRenew e s).alw = s.alw ∧ (enterOrRenew e s).pln = s.pln ∧ (enterOrRenew e s).seq = s.seq ∧
    (enterOrRenew e s).rhs = s.rhs ∧ (enterOrRenew e s).sul = s.sul ∧ (enterOrRenew e s).draw = s.draw ∧
    (enterOrRenew e s).pending = s.pending := by
  unfold enterOrRenew
  (repeat' split) <;> simp

/-- `takeRequest` writes ofe, lif, counters at most (R113). -/
@[simp] theorem takeRequest_frame (n : BitVec 4) (rid : ReqId) (a b c d e : Byte) (s : State) :
    (takeRequest n rid a b c d e s).core = s.core ∧ (takeRequest n rid a b c d e s).slots = s.slots ∧
    (takeRequest n rid a b c d e s).svy = s.svy ∧ (takeRequest n rid a b c d e s).alw = s.alw ∧
    (takeRequest n rid a b c d e s).pln = s.pln ∧ (takeRequest n rid a b c d e s).seq = s.seq ∧
    (takeRequest n rid a b c d e s).rhs = s.rhs ∧ (takeRequest n rid a b c d e s).sul = s.sul ∧
    (takeRequest n rid a b c d e s).draw = s.draw ∧ (takeRequest n rid a b c d e s).pending = s.pending := by
  unfold takeRequest
  (repeat' split) <;> simp

/-- `late` writes ofe, lif at most (R126). -/
@[simp] theorem late_frame (rid : ReqId) (s : State) :
    (late rid s).core = s.core ∧ (late rid s).slots = s.slots ∧ (late rid s).svy = s.svy ∧
    (late rid s).alw = s.alw ∧ (late rid s).pln = s.pln ∧ (late rid s).seq = s.seq ∧ (late rid s).rhs = s.rhs ∧
    (late rid s).sul = s.sul ∧ (late rid s).counters = s.counters ∧ (late rid s).draw = s.draw ∧
    (late rid s).pending = s.pending := by
  unfold late
  (repeat' split) <;> simp

/-- `settleCandidate` writes ofe, lif at most (R128). -/
@[simp] theorem settleCandidate_frame (e : Entry) (c : Candidate) (s : State) :
    (settleCandidate e c s).core = s.core ∧ (settleCandidate e c s).slots = s.slots ∧
    (settleCandidate e c s).svy = s.svy ∧ (settleCandidate e c s).alw = s.alw ∧
    (settleCandidate e c s).pln = s.pln ∧ (settleCandidate e c s).seq = s.seq ∧
    (settleCandidate e c s).rhs = s.rhs ∧ (settleCandidate e c s).sul = s.sul ∧
    (settleCandidate e c s).counters = s.counters ∧ (settleCandidate e c s).draw = s.draw ∧
    (settleCandidate e c s).pending = s.pending := by
  unfold settleCandidate
  (repeat' split) <;> simp

/-- `endEvaluation` writes ofe, lif at most (R117). -/
@[simp] theorem endEvaluation_frame (v : EvalView) (s : State) :
    (endEvaluation v s).core = s.core ∧ (endEvaluation v s).slots = s.slots ∧ (endEvaluation v s).svy = s.svy ∧
    (endEvaluation v s).alw = s.alw ∧ (endEvaluation v s).pln = s.pln ∧ (endEvaluation v s).seq = s.seq ∧
    (endEvaluation v s).rhs = s.rhs ∧ (endEvaluation v s).sul = s.sul ∧
    (endEvaluation v s).counters = s.counters ∧ (endEvaluation v s).draw = s.draw ∧
    (endEvaluation v s).pending = s.pending := by
  unfold endEvaluation
  (repeat' split) <;> simp

/-- `offerWon` writes ofe, slots, pln at most (R129). -/
@[simp] theorem offerWon_frame (rid : ReqId) (s : State) :
    (offerWon rid s).core = s.core ∧ (offerWon rid s).lif = s.lif ∧ (offerWon rid s).svy = s.svy ∧
    (offerWon rid s).alw = s.alw ∧ (offerWon rid s).seq = s.seq ∧ (offerWon rid s).rhs = s.rhs ∧
    (offerWon rid s).sul = s.sul ∧ (offerWon rid s).counters = s.counters ∧ (offerWon rid s).draw = s.draw ∧
    (offerWon rid s).pending = s.pending := by
  unfold offerWon
  (repeat' split) <;> simp

/-- `offerBeaten` writes ofe, lif at most (R130). -/
@[simp] theorem offerBeaten_frame (rid : ReqId) (w : Winner) (s : State) :
    (offerBeaten rid w s).core = s.core ∧ (offerBeaten rid w s).slots = s.slots ∧
    (offerBeaten rid w s).svy = s.svy ∧ (offerBeaten rid w s).alw = s.alw ∧ (offerBeaten rid w s).pln = s.pln ∧
    (offerBeaten rid w s).seq = s.seq ∧ (offerBeaten rid w s).rhs = s.rhs ∧ (offerBeaten rid w s).sul = s.sul ∧
    (offerBeaten rid w s).counters = s.counters ∧ (offerBeaten rid w s).draw = s.draw ∧
    (offerBeaten rid w s).pending = s.pending := by
  unfold offerBeaten
  (repeat' split) <;> simp

/-- `offerTried` writes ofe, lif at most (R131). -/
@[simp] theorem offerTried_frame (rid : ReqId) (s : State) :
    (offerTried rid s).core = s.core ∧ (offerTried rid s).slots = s.slots ∧ (offerTried rid s).svy = s.svy ∧
    (offerTried rid s).alw = s.alw ∧ (offerTried rid s).pln = s.pln ∧ (offerTried rid s).seq = s.seq ∧
    (offerTried rid s).rhs = s.rhs ∧ (offerTried rid s).sul = s.sul ∧
    (offerTried rid s).counters = s.counters ∧ (offerTried rid s).draw = s.draw ∧
    (offerTried rid s).pending = s.pending := by
  unfold offerTried
  (repeat' split) <;> simp

/-- `offerClashed` writes ofe at most (R132). -/
@[simp] theorem offerClashed_frame (rid : ReqId) (s : State) :
    (offerClashed rid s).core = s.core ∧ (offerClashed rid s).lif = s.lif ∧
    (offerClashed rid s).slots = s.slots ∧ (offerClashed rid s).svy = s.svy ∧
    (offerClashed rid s).alw = s.alw ∧ (offerClashed rid s).pln = s.pln ∧ (offerClashed rid s).seq = s.seq ∧
    (offerClashed rid s).rhs = s.rhs ∧ (offerClashed rid s).sul = s.sul ∧
    (offerClashed rid s).counters = s.counters ∧ (offerClashed rid s).draw = s.draw ∧
    (offerClashed rid s).pending = s.pending := by
  unfold offerClashed
  (repeat' split) <;> simp

/-- `takeOffer` writes ofe, lif, counters at most (R134). -/
@[simp] theorem takeOffer_frame (n : BitVec 4) (c : Byte) (rid : ReqId) (x : Byte) (s : State) :
    (takeOffer n c rid x s).core = s.core ∧ (takeOffer n c rid x s).slots = s.slots ∧
    (takeOffer n c rid x s).svy = s.svy ∧ (takeOffer n c rid x s).alw = s.alw ∧
    (takeOffer n c rid x s).pln = s.pln ∧ (takeOffer n c rid x s).seq = s.seq ∧
    (takeOffer n c rid x s).rhs = s.rhs ∧ (takeOffer n c rid x s).sul = s.sul ∧
    (takeOffer n c rid x s).draw = s.draw ∧ (takeOffer n c rid x s).pending = s.pending := by
  unfold takeOffer
  (repeat' split) <;> simp

/-- `freePledge` writes slots, pln at most (R135). -/
@[simp] theorem freePledge_frame (e : Entry) (s : State) :
    (freePledge e s).core = s.core ∧ (freePledge e s).lif = s.lif ∧ (freePledge e s).svy = s.svy ∧
    (freePledge e s).alw = s.alw ∧ (freePledge e s).ofe = s.ofe ∧ (freePledge e s).seq = s.seq ∧
    (freePledge e s).rhs = s.rhs ∧ (freePledge e s).sul = s.sul ∧ (freePledge e s).counters = s.counters ∧
    (freePledge e s).draw = s.draw ∧ (freePledge e s).pending = s.pending := by
  unfold freePledge
  (repeat' split) <;> simp

/-- `makeHold` writes ofe, slots, pln, rhs at most (R136). -/
@[simp] theorem makeHold_frame (rid : ReqId) (e : Entry) (n : Nat) (s : State) :
    (makeHold rid e n s).core = s.core ∧ (makeHold rid e n s).lif = s.lif ∧ (makeHold rid e n s).svy = s.svy ∧
    (makeHold rid e n s).alw = s.alw ∧ (makeHold rid e n s).seq = s.seq ∧ (makeHold rid e n s).sul = s.sul ∧
    (makeHold rid e n s).counters = s.counters ∧ (makeHold rid e n s).draw = s.draw ∧
    (makeHold rid e n s).pending = s.pending := by
  unfold makeHold
  simp

/-- `takeAssignHere` writes ofe, slots, pln, rhs, lif, counters at most (R136 to R138). -/
@[simp] theorem takeAssignHere_frame (rid : ReqId) (s : State) :
    (takeAssignHere rid s).core = s.core ∧ (takeAssignHere rid s).svy = s.svy ∧
    (takeAssignHere rid s).alw = s.alw ∧ (takeAssignHere rid s).seq = s.seq ∧
    (takeAssignHere rid s).sul = s.sul ∧ (takeAssignHere rid s).draw = s.draw ∧
    (takeAssignHere rid s).pending = s.pending := by
  unfold takeAssignHere
  (repeat' split) <;> simp

/-- `takeAssignElsewhere` writes ofe, slots, pln, lif, counters at most (R140). -/
@[simp] theorem takeAssignElsewhere_frame (rid : ReqId) (n : BitVec 4) (s : State) :
    (takeAssignElsewhere rid n s).core = s.core ∧ (takeAssignElsewhere rid n s).svy = s.svy ∧
    (takeAssignElsewhere rid n s).alw = s.alw ∧ (takeAssignElsewhere rid n s).seq = s.seq ∧
    (takeAssignElsewhere rid n s).rhs = s.rhs ∧ (takeAssignElsewhere rid n s).sul = s.sul ∧
    (takeAssignElsewhere rid n s).draw = s.draw ∧ (takeAssignElsewhere rid n s).pending = s.pending := by
  unfold takeAssignElsewhere
  (repeat' split) <;> simp

/-- `takeAssign` writes ofe, slots, pln, rhs, lif, counters at most (R52). -/
@[simp] theorem takeAssign_frame (rid : ReqId) (c : Byte) (s : State) :
    (takeAssign rid c s).core = s.core ∧ (takeAssign rid c s).svy = s.svy ∧ (takeAssign rid c s).alw = s.alw ∧
    (takeAssign rid c s).seq = s.seq ∧ (takeAssign rid c s).sul = s.sul ∧ (takeAssign rid c s).draw = s.draw ∧
    (takeAssign rid c s).pending = s.pending := by
  unfold takeAssign
  (repeat' split) <;> simp

/-- `takeUpdate` writes ofe, rhs, pln at most (R121). -/
@[simp] theorem takeUpdate_frame (rid : ReqId) (x : Byte) (s : State) :
    (takeUpdate rid x s).core = s.core ∧ (takeUpdate rid x s).lif = s.lif ∧
    (takeUpdate rid x s).slots = s.slots ∧ (takeUpdate rid x s).svy = s.svy ∧
    (takeUpdate rid x s).alw = s.alw ∧ (takeUpdate rid x s).seq = s.seq ∧ (takeUpdate rid x s).sul = s.sul ∧
    (takeUpdate rid x s).counters = s.counters ∧ (takeUpdate rid x s).draw = s.draw ∧
    (takeUpdate rid x s).pending = s.pending := by
  unfold takeUpdate
  (repeat' split) <;> simp

/-- `takeCancel` writes slots, svy, seq, rhs, ofe, pln, lif, counters at most (R122). -/
@[simp] theorem takeCancel_frame (rid : ReqId) (s : State) :
    (takeCancel rid s).core = s.core ∧ (takeCancel rid s).alw = s.alw ∧ (takeCancel rid s).sul = s.sul ∧
    (takeCancel rid s).draw = s.draw ∧ (takeCancel rid s).pending = s.pending := by
  unfold takeCancel
  (repeat' split) <;> simp

/-- `takeBeginFrame` writes slots, svy, seq, rhs, ofe, pln, lif, counters at most (R54). -/
@[simp] theorem takeBeginFrame_frame (x : Byte) (rid : ReqId) (s : State) :
    (takeBeginFrame x rid s).core = s.core ∧ (takeBeginFrame x rid s).alw = s.alw ∧
    (takeBeginFrame x rid s).sul = s.sul ∧ (takeBeginFrame x rid s).draw = s.draw ∧
    (takeBeginFrame x rid s).pending = s.pending := by
  unfold takeBeginFrame
  (repeat' split) <;> simp

/-- `countOutcome` writes counters at most (R5). -/
@[simp] theorem countOutcome_frame (o : ReadOutcome) (s : State) :
    (countOutcome o s).core = s.core ∧ (countOutcome o s).lif = s.lif ∧ (countOutcome o s).slots = s.slots ∧
    (countOutcome o s).svy = s.svy ∧ (countOutcome o s).alw = s.alw ∧ (countOutcome o s).pln = s.pln ∧
    (countOutcome o s).ofe = s.ofe ∧ (countOutcome o s).seq = s.seq ∧ (countOutcome o s).rhs = s.rhs ∧
    (countOutcome o s).sul = s.sul ∧ (countOutcome o s).draw = s.draw ∧ (countOutcome o s).pending = s.pending := by
  unfold countOutcome
  (repeat' split) <;> simp

/-- `countUnreadable` writes counters at most (R12). -/
@[simp] theorem countUnreadable_frame (v : Visit) (s : State) :
    (countUnreadable v s).core = s.core ∧ (countUnreadable v s).lif = s.lif ∧
    (countUnreadable v s).slots = s.slots ∧ (countUnreadable v s).svy = s.svy ∧
    (countUnreadable v s).alw = s.alw ∧ (countUnreadable v s).pln = s.pln ∧ (countUnreadable v s).ofe = s.ofe ∧
    (countUnreadable v s).seq = s.seq ∧ (countUnreadable v s).rhs = s.rhs ∧ (countUnreadable v s).sul = s.sul ∧
    (countUnreadable v s).draw = s.draw ∧ (countUnreadable v s).pending = s.pending := by
  unfold countUnreadable
  simp

/-- `handReport` writes slots, svy, seq, rhs, ofe, pln, lif, counters at most (R17). -/
@[simp] theorem handReport_frame (n : Nat) (r : Option Report) (s : State) :
    (handReport n r s).core = s.core ∧ (handReport n r s).alw = s.alw ∧ (handReport n r s).sul = s.sul ∧
    (handReport n r s).draw = s.draw ∧ (handReport n r s).pending = s.pending := by
  unfold handReport
  (repeat' split) <;> simp

/-- `settleExchange` writes slots, svy, seq, rhs, ofe, pln, lif, counters at most (R13). -/
@[simp] theorem settleExchange_frame (n : Nat) (v : Visit) (s : State) :
    (settleExchange n v s).core = s.core ∧ (settleExchange n v s).alw = s.alw ∧
    (settleExchange n v s).sul = s.sul ∧ (settleExchange n v s).draw = s.draw ∧
    (settleExchange n v s).pending = s.pending := by
  unfold settleExchange
  (repeat' split) <;> simp

/-- `applyStep` writes slots, svy, seq, rhs, ofe, pln, lif, counters at most (R6). -/
@[simp] theorem applyStep_frame (st : SurveyStep) (a : Bool) (l : List Bool) (b : Bool) (s : State) :
    (applyStep st a l b s).core = s.core ∧ (applyStep st a l b s).alw = s.alw ∧
    (applyStep st a l b s).sul = s.sul ∧ (applyStep st a l b s).draw = s.draw ∧
    (applyStep st a l b s).pending = s.pending := by
  unfold applyStep
  (repeat' split) <;> simp

/-- `beginRegular` writes svy at most (R3). -/
@[simp] theorem beginRegular_frame (s : State) :
    (beginRegular s).core = s.core ∧ (beginRegular s).lif = s.lif ∧ (beginRegular s).slots = s.slots ∧
    (beginRegular s).alw = s.alw ∧ (beginRegular s).pln = s.pln ∧ (beginRegular s).ofe = s.ofe ∧
    (beginRegular s).seq = s.seq ∧ (beginRegular s).rhs = s.rhs ∧ (beginRegular s).sul = s.sul ∧
    (beginRegular s).counters = s.counters ∧ (beginRegular s).draw = s.draw ∧
    (beginRegular s).pending = s.pending := by
  unfold beginRegular
  (repeat' split) <;> simp

/-- `beginSurveyPass` writes svy at most (R7). -/
@[simp] theorem beginSurveyPass_frame (s : State) :
    (beginSurveyPass s).core = s.core ∧ (beginSurveyPass s).lif = s.lif ∧ (beginSurveyPass s).slots = s.slots ∧
    (beginSurveyPass s).alw = s.alw ∧ (beginSurveyPass s).pln = s.pln ∧ (beginSurveyPass s).ofe = s.ofe ∧
    (beginSurveyPass s).seq = s.seq ∧ (beginSurveyPass s).rhs = s.rhs ∧ (beginSurveyPass s).sul = s.sul ∧
    (beginSurveyPass s).counters = s.counters ∧ (beginSurveyPass s).draw = s.draw ∧
    (beginSurveyPass s).pending = s.pending := by
  unfold beginSurveyPass
  simp

/-- `reportPassEnd` writes slots, svy, seq, rhs, ofe, pln, lif, counters at most (R7). -/
@[simp] theorem reportPassEnd_frame (s : State) :
    (reportPassEnd s).core = s.core ∧ (reportPassEnd s).alw = s.alw ∧ (reportPassEnd s).sul = s.sul ∧
    (reportPassEnd s).draw = s.draw ∧ (reportPassEnd s).pending = s.pending := by
  unfold reportPassEnd
  (repeat' split) <;> simp

/-- `startGap` writes svy at most (R7). -/
@[simp] theorem startGap_frame (s : State) :
    (startGap s).core = s.core ∧ (startGap s).lif = s.lif ∧ (startGap s).slots = s.slots ∧
    (startGap s).alw = s.alw ∧ (startGap s).pln = s.pln ∧ (startGap s).ofe = s.ofe ∧ (startGap s).seq = s.seq ∧
    (startGap s).rhs = s.rhs ∧ (startGap s).sul = s.sul ∧ (startGap s).counters = s.counters ∧
    (startGap s).draw = s.draw ∧ (startGap s).pending = s.pending := by
  unfold startGap
  (repeat' split) <;> simp

/-- `afterPass` writes svy at most (R7). -/
@[simp] theorem afterPass_frame (n : Nat) (s : State) :
    (afterPass n s).core = s.core ∧ (afterPass n s).lif = s.lif ∧ (afterPass n s).slots = s.slots ∧
    (afterPass n s).alw = s.alw ∧ (afterPass n s).pln = s.pln ∧ (afterPass n s).ofe = s.ofe ∧
    (afterPass n s).seq = s.seq ∧ (afterPass n s).rhs = s.rhs ∧ (afterPass n s).sul = s.sul ∧
    (afterPass n s).counters = s.counters ∧ (afterPass n s).draw = s.draw ∧ (afterPass n s).pending = s.pending := by
  unfold afterPass
  (repeat' split) <;> simp

/-- `afterRegular` writes slots, svy, seq, rhs, ofe, pln, lif, counters at most (R7). -/
@[simp] theorem afterRegular_frame (n : Nat) (s : State) :
    (afterRegular n s).core = s.core ∧ (afterRegular n s).alw = s.alw ∧ (afterRegular n s).sul = s.sul ∧
    (afterRegular n s).draw = s.draw ∧ (afterRegular n s).pending = s.pending := by
  unfold afterRegular
  (repeat' split) <;> simp

/-- `afterFocus` writes svy at most (R8). -/
@[simp] theorem afterFocus_frame (s : State) :
    (afterFocus s).core = s.core ∧ (afterFocus s).lif = s.lif ∧ (afterFocus s).slots = s.slots ∧
    (afterFocus s).alw = s.alw ∧ (afterFocus s).pln = s.pln ∧ (afterFocus s).ofe = s.ofe ∧
    (afterFocus s).seq = s.seq ∧ (afterFocus s).rhs = s.rhs ∧ (afterFocus s).sul = s.sul ∧
    (afterFocus s).counters = s.counters ∧ (afterFocus s).draw = s.draw ∧ (afterFocus s).pending = s.pending := by
  unfold afterFocus
  (repeat' split) <;> simp

/-- `nextStep` writes slots, svy, seq, rhs, ofe, pln, lif, counters at most (R4). -/
@[simp] theorem nextStep_frame (st : SurveyStep) (s : State) :
    (nextStep st s).core = s.core ∧ (nextStep st s).alw = s.alw ∧ (nextStep st s).sul = s.sul ∧
    (nextStep st s).draw = s.draw ∧ (nextStep st s).pending = s.pending := by
  unfold nextStep
  (repeat' split) <;> simp

/-- `reportCleared` writes slots, svy, seq, rhs, ofe, pln, lif, counters at most (R16). -/
@[simp] theorem reportCleared_frame (l : List Nat) (s : State) :
    (reportCleared l s).core = s.core ∧ (reportCleared l s).alw = s.alw ∧ (reportCleared l s).sul = s.sul ∧
    (reportCleared l s).draw = s.draw ∧ (reportCleared l s).pending = s.pending := by
  induction l generalizing s with
  | nil => simp [reportCleared]
  | cons a l ih => simpa [reportCleared] using ih (setReplan (takeReport a ⟨.cleared, .empty, none, none⟩ s))

/-- `surveyDoorCloses` writes slots, svy, seq, rhs, ofe, pln, lif, counters at most (R18). -/
@[simp] theorem surveyDoorCloses_frame (s : State) :
    (surveyDoorCloses s).core = s.core ∧ (surveyDoorCloses s).alw = s.alw ∧ (surveyDoorCloses s).sul = s.sul ∧
    (surveyDoorCloses s).draw = s.draw ∧ (surveyDoorCloses s).pending = s.pending := by
  unfold surveyDoorCloses
  simp

/-- `answerQuery` writes lif, counters at most (R183). -/
@[simp] theorem answerQuery_frame (n : BitVec 4) (a b : Byte) (s : State) :
    (answerQuery n a b s).core = s.core ∧ (answerQuery n a b s).slots = s.slots ∧
    (answerQuery n a b s).svy = s.svy ∧ (answerQuery n a b s).alw = s.alw ∧ (answerQuery n a b s).pln = s.pln ∧
    (answerQuery n a b s).ofe = s.ofe ∧ (answerQuery n a b s).seq = s.seq ∧ (answerQuery n a b s).rhs = s.rhs ∧
    (answerQuery n a b s).sul = s.sul ∧ (answerQuery n a b s).draw = s.draw ∧
    (answerQuery n a b s).pending = s.pending := by
  unfold answerQuery
  simp

/-- `storeFrame` writes lif, counters at most (R36). -/
@[simp] theorem storeFrame_frame (f : RxFrame) (s : State) :
    (storeFrame f s).core = s.core ∧ (storeFrame f s).slots = s.slots ∧ (storeFrame f s).svy = s.svy ∧
    (storeFrame f s).alw = s.alw ∧ (storeFrame f s).pln = s.pln ∧ (storeFrame f s).ofe = s.ofe ∧
    (storeFrame f s).seq = s.seq ∧ (storeFrame f s).rhs = s.rhs ∧ (storeFrame f s).sul = s.sul ∧
    (storeFrame f s).draw = s.draw ∧ (storeFrame f s).pending = s.pending := by
  unfold storeFrame
  (repeat' split) <;> simp

/-- `takeFrame` writes slots, svy, seq, rhs, ofe, pln, lif, counters, alw at most (R37). -/
@[simp] theorem takeFrame_frame (f : RxFrame) (s : State) :
    (takeFrame f s).core = s.core ∧ (takeFrame f s).sul = s.sul ∧ (takeFrame f s).draw = s.draw ∧
    (takeFrame f s).pending = s.pending := by
  unfold takeFrame
  (repeat' split) <;> simp

/-- `dispatch` writes slots, svy, seq, rhs, ofe, pln, lif, counters, alw at most (R37). -/
@[simp] theorem dispatch_frame (n : Nat) (s : State) :
    (dispatch n s).core = s.core ∧ (dispatch n s).sul = s.sul ∧ (dispatch n s).draw = s.draw ∧
    (dispatch n s).pending = s.pending := by
  induction n generalizing s with
  | zero => simp [dispatch]
  | succ n ih =>
    unfold dispatch
    split
    · simp
    · simp [ih]

/-- `deliver` writes slots, svy, seq, rhs, ofe, pln, lif, counters, alw at most (R37). -/
@[simp] theorem deliver_frame (f : RxFrame) (s : State) :
    (deliver f s).core = s.core ∧ (deliver f s).sul = s.sul ∧ (deliver f s).draw = s.draw ∧
    (deliver f s).pending = s.pending := by
  unfold deliver
  simp

/-- `reportLoss` writes ofe, lif at most (R35). -/
@[simp] theorem reportLoss_frame (w : ReqId → Option Winner) (s : State) :
    (reportLoss w s).core = s.core ∧ (reportLoss w s).slots = s.slots ∧ (reportLoss w s).svy = s.svy ∧
    (reportLoss w s).alw = s.alw ∧ (reportLoss w s).pln = s.pln ∧ (reportLoss w s).seq = s.seq ∧
    (reportLoss w s).rhs = s.rhs ∧ (reportLoss w s).sul = s.sul ∧ (reportLoss w s).counters = s.counters ∧
    (reportLoss w s).draw = s.draw ∧ (reportLoss w s).pending = s.pending := by
  unfold reportLoss
  (repeat' split) <;> simp

/-- `receiveGood` writes slots, svy, seq, rhs, ofe, pln, lif, counters, alw at most (R37). -/
@[simp] theorem receiveGood_frame (f : RxFrame) (s : State) :
    (receiveGood f s).core = s.core ∧ (receiveGood f s).sul = s.sul ∧ (receiveGood f s).draw = s.draw ∧
    (receiveGood f s).pending = s.pending := by
  unfold receiveGood
  (repeat' split) <;> simp

/-- `handleFrame` writes slots, svy, seq, rhs, ofe, pln, lif, counters, alw at most (R28). -/
@[simp] theorem handleFrame_frame (f : LineFrame) (s : State) :
    (handleFrame f s).core = s.core ∧ (handleFrame f s).sul = s.sul ∧ (handleFrame f s).draw = s.draw ∧
    (handleFrame f s).pending = s.pending := by
  unfold handleFrame
  (repeat' split) <;> simp

/-- `failTransmission` writes ofe, lif at most (R33). -/
@[simp] theorem failTransmission_frame (s : State) :
    (failTransmission s).core = s.core ∧ (failTransmission s).slots = s.slots ∧
    (failTransmission s).svy = s.svy ∧ (failTransmission s).alw = s.alw ∧ (failTransmission s).pln = s.pln ∧
    (failTransmission s).seq = s.seq ∧ (failTransmission s).rhs = s.rhs ∧ (failTransmission s).sul = s.sul ∧
    (failTransmission s).counters = s.counters ∧ (failTransmission s).draw = s.draw ∧
    (failTransmission s).pending = s.pending := by
  unfold failTransmission
  (repeat' split) <;> simp

/-- `startAtContest` writes lif at most (R32). -/
@[simp] theorem startAtContest_frame (m : Mark) (s : State) :
    (startAtContest m s).core = s.core ∧ (startAtContest m s).slots = s.slots ∧
    (startAtContest m s).svy = s.svy ∧ (startAtContest m s).alw = s.alw ∧ (startAtContest m s).pln = s.pln ∧
    (startAtContest m s).ofe = s.ofe ∧ (startAtContest m s).seq = s.seq ∧ (startAtContest m s).rhs = s.rhs ∧
    (startAtContest m s).sul = s.sul ∧ (startAtContest m s).counters = s.counters ∧
    (startAtContest m s).draw = s.draw ∧ (startAtContest m s).pending = s.pending := by
  unfold startAtContest
  (repeat' split) <;> simp

/-- `startLowest` writes lif at most (R32). -/
@[simp] theorem startLowest_frame (s : State) :
    (startLowest s).core = s.core ∧ (startLowest s).slots = s.slots ∧ (startLowest s).svy = s.svy ∧
    (startLowest s).alw = s.alw ∧ (startLowest s).pln = s.pln ∧ (startLowest s).ofe = s.ofe ∧
    (startLowest s).seq = s.seq ∧ (startLowest s).rhs = s.rhs ∧ (startLowest s).sul = s.sul ∧
    (startLowest s).counters = s.counters ∧ (startLowest s).draw = s.draw ∧ (startLowest s).pending = s.pending := by
  unfold startLowest
  (repeat' split) <;> simp

/-- `atStartPoint` writes ofe, lif at most (R31). -/
@[simp] theorem atStartPoint_frame (s : State) :
    (atStartPoint s).core = s.core ∧ (atStartPoint s).slots = s.slots ∧ (atStartPoint s).svy = s.svy ∧
    (atStartPoint s).alw = s.alw ∧ (atStartPoint s).pln = s.pln ∧ (atStartPoint s).seq = s.seq ∧
    (atStartPoint s).rhs = s.rhs ∧ (atStartPoint s).sul = s.sul ∧ (atStartPoint s).counters = s.counters ∧
    (atStartPoint s).draw = s.draw ∧ (atStartPoint s).pending = s.pending := by
  unfold atStartPoint
  (repeat' split) <;> simp

/-- `loseTransmission` writes lif at most (R33). -/
@[simp] theorem loseTransmission_frame (t : Transmission) (s : State) :
    (loseTransmission t s).core = s.core ∧ (loseTransmission t s).slots = s.slots ∧
    (loseTransmission t s).svy = s.svy ∧ (loseTransmission t s).alw = s.alw ∧
    (loseTransmission t s).pln = s.pln ∧ (loseTransmission t s).ofe = s.ofe ∧
    (loseTransmission t s).seq = s.seq ∧ (loseTransmission t s).rhs = s.rhs ∧
    (loseTransmission t s).sul = s.sul ∧ (loseTransmission t s).counters = s.counters ∧
    (loseTransmission t s).draw = s.draw ∧ (loseTransmission t s).pending = s.pending := by
  unfold loseTransmission
  (repeat' split) <;> simp

/-- `completeTransmission` writes ofe, lif, slots, pln at most (R33). -/
@[simp] theorem completeTransmission_frame (t : Transmission) (s : State) :
    (completeTransmission t s).core = s.core ∧ (completeTransmission t s).svy = s.svy ∧
    (completeTransmission t s).alw = s.alw ∧ (completeTransmission t s).seq = s.seq ∧
    (completeTransmission t s).rhs = s.rhs ∧ (completeTransmission t s).sul = s.sul ∧
    (completeTransmission t s).counters = s.counters ∧ (completeTransmission t s).draw = s.draw ∧
    (completeTransmission t s).pending = s.pending := by
  unfold completeTransmission
  (repeat' split) <;> simp

/-- `abandonTransmission` writes ofe, lif, counters at most (R33). -/
@[simp] theorem abandonTransmission_frame (t : Transmission) (s : State) :
    (abandonTransmission t s).core = s.core ∧ (abandonTransmission t s).slots = s.slots ∧
    (abandonTransmission t s).svy = s.svy ∧ (abandonTransmission t s).alw = s.alw ∧
    (abandonTransmission t s).pln = s.pln ∧ (abandonTransmission t s).seq = s.seq ∧
    (abandonTransmission t s).rhs = s.rhs ∧ (abandonTransmission t s).sul = s.sul ∧
    (abandonTransmission t s).draw = s.draw ∧ (abandonTransmission t s).pending = s.pending := by
  unfold abandonTransmission
  (repeat' split) <;> simp

/-- `beginPause` writes lif, slots, pln at most (R44). -/
@[simp] theorem beginPause_frame (s : State) :
    (beginPause s).core = s.core ∧ (beginPause s).svy = s.svy ∧ (beginPause s).alw = s.alw ∧
    (beginPause s).ofe = s.ofe ∧ (beginPause s).seq = s.seq ∧ (beginPause s).rhs = s.rhs ∧
    (beginPause s).sul = s.sul ∧ (beginPause s).counters = s.counters ∧ (beginPause s).draw = s.draw ∧
    (beginPause s).pending = s.pending := by
  unfold beginPause
  (repeat' split) <;> simp

/-- `countHold` writes counters at most (R44). -/
@[simp] theorem countHold_frame (a b : Bool) (s : State) :
    (countHold a b s).core = s.core ∧ (countHold a b s).lif = s.lif ∧ (countHold a b s).slots = s.slots ∧
    (countHold a b s).svy = s.svy ∧ (countHold a b s).alw = s.alw ∧ (countHold a b s).pln = s.pln ∧
    (countHold a b s).ofe = s.ofe ∧ (countHold a b s).seq = s.seq ∧ (countHold a b s).rhs = s.rhs ∧
    (countHold a b s).sul = s.sul ∧ (countHold a b s).draw = s.draw ∧ (countHold a b s).pending = s.pending := by
  unfold countHold
  simp

/-- `changeState` writes slots, svy, seq, rhs, ofe, pln, lif, counters, alw, sul at most (R164). -/
@[simp] theorem changeState_frame (n : StationState) (s : State) :
    (changeState n s).core = s.core ∧ (changeState n s).draw = s.draw ∧ (changeState n s).pending = s.pending := by
  unfold changeState
  (repeat' split) <;> simp

/-- `haltConfig` writes slots, svy, seq, rhs, ofe, pln, lif, counters, alw, sul at most (R181). -/
@[simp] theorem haltConfig_frame (c : HaltCause) (s : State) :
    (haltConfig c s).core = s.core ∧ (haltConfig c s).draw = s.draw ∧ (haltConfig c s).pending = s.pending := by
  unfold haltConfig
  simp

/-- `resumedRoles` writes slots, pln at most (R173). -/
@[simp] theorem resumedRoles_frame (p : Progress) (s : State) :
    (resumedRoles p s).core = s.core ∧ (resumedRoles p s).lif = s.lif ∧ (resumedRoles p s).svy = s.svy ∧
    (resumedRoles p s).alw = s.alw ∧ (resumedRoles p s).ofe = s.ofe ∧ (resumedRoles p s).seq = s.seq ∧
    (resumedRoles p s).rhs = s.rhs ∧ (resumedRoles p s).sul = s.sul ∧
    (resumedRoles p s).counters = s.counters ∧ (resumedRoles p s).draw = s.draw ∧
    (resumedRoles p s).pending = s.pending := by
  unfold resumedRoles
  (repeat' split) <;> simp

/-- `resumeActive` writes seq at most (R174). -/
@[simp] theorem resumeActive_frame (p : Progress) (s : State) :
    (resumeActive p s).core = s.core ∧ (resumeActive p s).lif = s.lif ∧ (resumeActive p s).slots = s.slots ∧
    (resumeActive p s).svy = s.svy ∧ (resumeActive p s).alw = s.alw ∧ (resumeActive p s).pln = s.pln ∧
    (resumeActive p s).ofe = s.ofe ∧ (resumeActive p s).rhs = s.rhs ∧ (resumeActive p s).sul = s.sul ∧
    (resumeActive p s).counters = s.counters ∧ (resumeActive p s).draw = s.draw ∧
    (resumeActive p s).pending = s.pending := by
  unfold resumeActive
  simp

/-- `rebuild` writes slots, pln, ofe, rhs, lif, counters, seq at most (R173). -/
@[simp] theorem rebuild_frame (s : State) :
    (rebuild s).core = s.core ∧ (rebuild s).svy = s.svy ∧ (rebuild s).alw = s.alw ∧ (rebuild s).sul = s.sul ∧
    (rebuild s).draw = s.draw ∧ (rebuild s).pending = s.pending := by
  have fold : ∀ (l : List HoldRecord) (s : State),
      (l.foldl (fun st r => setRole r.slot .held (some r.rid) st) s).core = s.core ∧
        (l.foldl (fun st r => setRole r.slot .held (some r.rid) st) s).svy = s.svy ∧
        (l.foldl (fun st r => setRole r.slot .held (some r.rid) st) s).alw = s.alw ∧
        (l.foldl (fun st r => setRole r.slot .held (some r.rid) st) s).sul = s.sul ∧
        (l.foldl (fun st r => setRole r.slot .held (some r.rid) st) s).draw = s.draw ∧
        (l.foldl (fun st r => setRole r.slot .held (some r.rid) st) s).pending = s.pending := by
    intro l
    induction l with
    | nil => intro s; simp
    | cons a l ih => intro s; simpa using ih (setRole a.slot .held (some a.rid) s)
  unfold rebuild
  dsimp only
  split <;> simp [fold]

/-- `putInForce` writes sul, slots, lif, alw, svy, pln, ofe, seq at most (R182). -/
@[simp] theorem putInForce_frame (a : Bool) (h : BitVec 8) (s : State) :
    (putInForce a h s).core = s.core ∧ (putInForce a h s).rhs = s.rhs ∧
    (putInForce a h s).counters = s.counters ∧ (putInForce a h s).draw = s.draw ∧
    (putInForce a h s).pending = s.pending := by
  unfold putInForce
  simp

/-- `putInForce` leaves the survey, the Request Book and the sequencer as they stand after a start (R8, R110, R143). -/
@[simp] theorem putInForce_fresh (a : Bool) (h : BitVec 8) (s : State) :
    (putInForce a h s).svy = Svy.initial ∧ (putInForce a h s).ofe = Ofe.initial ∧
    (putInForce a h s).seq = Seq.initial := by
  unfold putInForce
  simp

/-- `enterJoining` writes slots, svy, seq, rhs, ofe, pln, lif, counters, alw, sul at most (R182). -/
@[simp] theorem enterJoining_frame (a b : Bool) (s : State) :
    (enterJoining a b s).core = s.core ∧ (enterJoining a b s).draw = s.draw ∧
    (enterJoining a b s).pending = s.pending := by
  unfold enterJoining
  (repeat' split) <;> simp

end Sys2Proof.Machine
end

