-- ==== Sys2Proof/Laws/PerInstr.lean ====
section
/-! SUPPORT. Statements made command by command: the table gives no row bits, so no word spells a command. -/

namespace Sys2Proof.Laws.Spelling

open Sys2Proof

/-- No table word spells the command: spec/opcode_table.json gives its row no bits. -/
def Statement (i : Instr) : Prop := ∀ nbits w : Nat, decodeTableWord nbits w ≠ some i

theorem start (straps : BitVec 4) (clearHolds : Bool) : Statement (.start straps clearHolds) := by intro n w; simp [decodeTableWord]

theorem configMemoryReady (bits : List Bool) : Statement (.configMemoryReady bits) := by intro n w; simp [decodeTableWord]

theorem loadingEnd (doorIsOpen : Bool) (hot : BitVec 8) (mainsIsGood : Bool) : Statement (.loadingEnd doorIsOpen hot mainsIsGood) := by intro n w; simp [decodeTableWord]

theorem loadingTimerExpiry : Statement (.loadingTimerExpiry) := by intro n w; simp [decodeTableWord]

theorem joiningTimerExpiry : Statement (.joiningTimerExpiry) := by intro n w; simp [decodeTableWord]

theorem coreStop : Statement (.coreStop) := by intro n w; simp [decodeTableWord]

theorem mainsGoodLow : Statement (.mainsGoodLow) := by intro n w; simp [decodeTableWord]

theorem mainsGoodHigh : Statement (.mainsGoodHigh) := by intro n w; simp [decodeTableWord]

theorem mainsReturnTimerExpiry : Statement (.mainsReturnTimerExpiry) := by intro n w; simp [decodeTableWord]

theorem retainedCellFail : Statement (.retainedCellFail) := by intro n w; simp [decodeTableWord]

theorem secondsTick : Statement (.secondsTick) := by intro n w; simp [decodeTableWord]

theorem holdTimerExpiry : Statement (.holdTimerExpiry) := by intro n w; simp [decodeTableWord]

theorem pledgeTimerExpiry (rid : ReqId) : Statement (.pledgeTimerExpiry rid) := by intro n w; simp [decodeTableWord]

theorem surveyStepEnd (seen : Bool) (levels : List Bool) (hot : Bool) : Statement (.surveyStepEnd seen levels hot) := by intro n w; simp [decodeTableWord]

theorem passGapExpiry : Statement (.passGapExpiry) := by intro n w; simp [decodeTableWord]

theorem doorOpen : Statement (.doorOpen) := by intro n w; simp [decodeTableWord]

theorem doorClose : Statement (.doorClose) := by intro n w; simp [decodeTableWord]

theorem thermalTrip (slot : Nat) : Statement (.thermalTrip slot) := by intro n w; simp [decodeTableWord]

theorem planningPassEnd : Statement (.planningPassEnd) := by intro n w; simp [decodeTableWord]

theorem evaluationEnd : Statement (.evaluationEnd) := by intro n w; simp [decodeTableWord]

theorem demandTimerExpiry : Statement (.demandTimerExpiry) := by intro n w; simp [decodeTableWord]

theorem spacingTimerExpiry : Statement (.spacingTimerExpiry) := by intro n w; simp [decodeTableWord]

theorem freshnessTimerExpiry : Statement (.freshnessTimerExpiry) := by intro n w; simp [decodeTableWord]

theorem frameReceived (cells : List Cell) : Statement (.frameReceived cells) := by intro n w; simp [decodeTableWord]

theorem framingError (noisy : Bool) : Statement (.framingError noisy) := by intro n w; simp [decodeTableWord]

theorem truncated (noisy : Bool) : Statement (.truncated noisy) := by intro n w; simp [decodeTableWord]

theorem frameMalformedLength : Statement (.frameMalformedLength) := by intro n w; simp [decodeTableWord]

theorem startPoint : Statement (.startPoint) := by intro n w; simp [decodeTableWord]

theorem arbitrationLoss : Statement (.arbitrationLoss) := by intro n w; simp [decodeTableWord]

theorem transmissionComplete : Statement (.transmissionComplete) := by intro n w; simp [decodeTableWord]

theorem stationClash : Statement (.stationClash) := by intro n w; simp [decodeTableWord]

theorem clashTimerExpiry : Statement (.clashTimerExpiry) := by intro n w; simp [decodeTableWord]

theorem stretchStart : Statement (.stretchStart) := by intro n w; simp [decodeTableWord]

theorem stretchLimit (stillDominant : Bool) : Statement (.stretchLimit stillDominant) := by intro n w; simp [decodeTableWord]

theorem lineHoldStart (noisy : Bool) (laterCharacter : Bool) : Statement (.lineHoldStart noisy laterCharacter) := by intro n w; simp [decodeTableWord]

theorem lineHoldEnd : Statement (.lineHoldEnd) := by intro n w; simp [decodeTableWord]

theorem pauseTimerExpiry : Statement (.pauseTimerExpiry) := by intro n w; simp [decodeTableWord]

theorem request (source : BitVec 4) (rid : ReqId) (kindAndRider packClass returnClass eta attempt : Byte) : Statement (.request source rid kindAndRider packClass returnClass eta attempt) := by intro n w; simp [decodeTableWord]

theorem offer (source : BitVec 4) (contest : Byte) (rid : ReqId) (slot score : Byte) (minutes soc : Half) (packId : Word) : Statement (.offer source contest rid slot score minutes soc packId) := by intro n w; simp [decodeTableWord]

theorem assign (rid : ReqId) (chosen slot : Byte) : Statement (.assign rid chosen slot) := by intro n w; simp [decodeTableWord]

theorem assignOther (rid : ReqId) (chosen slot : Byte) : Statement (.assignOther rid chosen slot) := by intro n w; simp [decodeTableWord]

theorem update (rid : ReqId) (eta : Byte) : Statement (.update rid eta) := by intro n w; simp [decodeTableWord]

theorem beginSwap (target : Byte) (rid : ReqId) : Statement (.beginSwap target rid) := by intro n w; simp [decodeTableWord]

theorem cancel (rid : ReqId) : Statement (.cancel rid) := by intro n w; simp [decodeTableWord]

theorem demand (source : BitVec 4) (wanted urgent grant : Half) (ready0 ready1 ready2 ready3 empty stateCode : Byte) : Statement (.demand source wanted urgent grant ready0 ready1 ready2 ready3 empty stateCode) := by intro n w; simp [decodeTableWord]

theorem meter (load total : Half) : Statement (.meter load total) := by intro n w; simp [decodeTableWord]

theorem querySummary (source : BitVec 4) (index : Byte) : Statement (.querySummary source index) := by intro n w; simp [decodeTableWord]

theorem querySlot (source : BitVec 4) (index : Byte) : Statement (.querySlot source index) := by intro n w; simp [decodeTableWord]

theorem queryBook (source : BitVec 4) (index : Byte) : Statement (.queryBook source index) := by intro n w; simp [decodeTableWord]

theorem queryCounters (source : BitVec 4) (index : Byte) : Statement (.queryCounters source index) := by intro n w; simp [decodeTableWord]

theorem queryPeer (source : BitVec 4) (index : Byte) : Statement (.queryPeer source index) := by intro n w; simp [decodeTableWord]

theorem queryInvalid (source : BitVec 4) (item index : Byte) : Statement (.queryInvalid source item index) := by intro n w; simp [decodeTableWord]

theorem returnTimerExpiry : Statement (.returnTimerExpiry) := by intro n w; simp [decodeTableWord]

theorem checkTimerExpiry : Statement (.checkTimerExpiry) := by intro n w; simp [decodeTableWord]

theorem removalTimerExpiry : Statement (.removalTimerExpiry) := by intro n w; simp [decodeTableWord]

theorem waitTimerExpiry : Statement (.waitTimerExpiry) := by intro n w; simp [decodeTableWord]

theorem collectTimerExpiry : Statement (.collectTimerExpiry) := by intro n w; simp [decodeTableWord]

theorem malformedFrameEnd (noisy : Bool) : Statement (.malformedFrameEnd noisy) := by intro n w; simp [decodeTableWord]

end Sys2Proof.Laws.Spelling
end

