-- ==== Sys2Proof/Laws/Planning.lean ====
section
/-! SUPPORT. What the shared operations of the planner can do: the sort of a walk and the greedy fill. -/

namespace Sys2Proof.Machine

open Sys2Proof

/-- An insertion keeps the elements. -/
theorem insertBy_perm {α : Type} (before : α → α → Bool) (x : α) (l : List α) :
    (insertBy before x l).Perm (x :: l) := by
  induction l with
  | nil => exact .refl _
  | cons y ys ih =>
    unfold insertBy
    split
    · exact .refl _
    · exact (ih.cons y).trans (.swap x y ys)

/-- An insertion into a list in order leaves it in order. -/
theorem insertBy_pairwise {α : Type} (before : α → α → Bool) (r : α → α → Prop) (x : α) (l : List α)
    (hb : ∀ y ∈ l, before x y = true → r x y) (hn : ∀ y ∈ l, before x y = false → r y x)
    (tr : ∀ y ∈ l, ∀ z ∈ l, r x y → r y z → r x z) (hl : l.Pairwise r) : (insertBy before x l).Pairwise r := by
  induction l with
  | nil => simp [insertBy]
  | cons y ys ih =>
    simp only [List.mem_cons, forall_eq_or_imp, List.pairwise_cons] at hb hn tr hl
    unfold insertBy
    split
    · next h =>
      refine List.pairwise_cons.2 ⟨?_, List.pairwise_cons.2 hl⟩
      rintro z hz
      rcases List.mem_cons.1 hz with rfl | hz
      · exact hb.1 h
      · exact tr.1.2 z hz (hb.1 h) (hl.1 z hz)
    · next h =>
      refine List.pairwise_cons.2 ⟨fun z hz => ?_,
        ih hb.2 hn.2 (fun a ha b hb' => (tr.2 a ha).2 b hb') hl.2⟩
      rcases List.mem_cons.1 ((insertBy_perm before x ys).subset hz) with rfl | hz
      · exact hn.1 (by simpa using h)
      · exact hl.1 z hz

/-- A sort keeps the elements of the list. -/
theorem sortBy_perm {α : Type} (before : α → α → Bool) (l : List α) : (sortBy before l).Perm l := by
  have go : ∀ (l acc : List α), (l.foldl (fun acc x => insertBy before x acc) acc).Perm (l ++ acc) := by
    intro l
    induction l with
    | nil => exact fun acc => .refl _
    | cons x xs ih =>
      intro acc
      exact (ih _).trans (((insertBy_perm before x acc).append_left xs).trans List.perm_middle)
  simpa [sortBy] using go l []

/-- A sort by a test of a transitive relation that decides every two different places of the list leaves it in that
relation's order. -/
theorem sortBy_pairwise {α : Type} (before : α → α → Bool) (r : α → α → Prop) (l : List α)
    (tr : ∀ x y z, r x y → r y z → r x z)
    (h : l.Pairwise (fun y x => (before x y = true → r x y) ∧ (before x y = false → r y x))) :
    (sortBy before l).Pairwise r := by
  have go : ∀ (l acc : List α), acc.Pairwise r →
      (∀ x ∈ l, ∀ y ∈ acc, (before x y = true → r x y) ∧ (before x y = false → r y x)) →
      l.Pairwise (fun y x => (before x y = true → r x y) ∧ (before x y = false → r y x)) →
      (l.foldl (fun acc x => insertBy before x acc) acc).Pairwise r := by
    intro l
    induction l with
    | nil => exact fun acc ha _ _ => ha
    | cons x xs ih =>
      intro acc ha hx hl
      rw [List.pairwise_cons] at hl
      refine ih _ (insertBy_pairwise before r x acc (fun y hy => (hx x (by simp) y hy).1)
        (fun y hy => (hx x (by simp) y hy).2) (fun y _ z _ => tr x y z) ha) ?_ hl.2
      intro z hz y hy
      rcases List.mem_cons.1 ((insertBy_perm before x acc).subset hy) with rfl | hy
      · exact hl.1 z hz
      · exact hx z (by simp [hz]) y hy
  exact go l [] .nil (by simp) h

/-- The fill plans the walked slots and no other (R85). -/
theorem fill_numbers (minPower r : Nat) (walk : List (Nat × Nat)) :
    (fill minPower r walk).map (fun x => x.1) = walk.map (fun x => x.1) := by
  induction walk generalizing r with
  | nil => rfl
  | cons x xs ih => simp [fill, ih]

/-- A slot that a plan does not name is planned at 0. -/
theorem planned_of_not_mem (plan : List (Nat × Nat)) (n : Nat) (h : n ∉ plan.map (fun x => x.1)) :
    planned plan n = 0 := by
  have : plan.find? (fun x => x.1 == n) = none := by
    simp only [List.find?_eq_none, beq_iff_eq]
    intro x hx e
    exact h (List.mem_map.2 ⟨x, hx, e⟩)
  simp [planned, this]

/-- The planned setpoint of the first slot of a plan, and of any other. -/
theorem planned_cons (n m a : Nat) (plan : List (Nat × Nat)) :
    planned ((n, a) :: plan) m = if n = m then a else planned plan m := by
  by_cases h : n = m <;> simp [planned, h]

end Sys2Proof.Machine
end

