-- ==== Sys2Proof/Laws/Reception.lean ====
section
/-! SUPPORT. When LIF takes the end of a frame, and what the one operation behind every frame row then does. -/

namespace Sys2Proof.Machine

open Sys2Proof

/-- LIF takes a frame only while it runs (R29). -/
theorem lifRuns_of_receiving {s : State} (h : receiving s = true) : lifRuns s = true := by
  simp [receiving, listening] at h
  exact h.1.1.1.1.1

/-- No frame ends while this station stretches (R30, R42). -/
theorem receiving_eq_false_of_stretch {s : State} {rid : ReqId} (h : s.lif.stretch = some rid) :
    receiving s = false := by
  simp [receiving, listening, h]

/-- No frame begins in SPACE (R30). -/
theorem receiving_eq_false_of_space {s : State} (h : s.lif.cond = .space) : receiving s = false := by
  simp [receiving, h]

/-- The cells of a good frame count where LIF receives, and nowhere else (R25, R30). -/
theorem takesCells_of_crcGood {f : LineFrame} {s : State} (h : f.crcGood = true) :
    takesCells f s = receiving s := by
  simp [takesCells, h]

/-- A frame's end in SPACE or in IDLE does not change whom a target names (R28). -/
@[simp] theorem targeted_toSpace (s : State) (target : Byte) :
    targeted (toSpace s) target = targeted s target := rfl

/-- Without a waiting loss report there is none to make (R35). -/
theorem reportLoss_of_none (w : ReqId → Option Winner) {s : State} (h : s.lif.lossPending = false) :
    reportLoss w s = s := by
  simp [reportLoss, h]

/-- A good frame ends in SPACE; one that names this station is delivered, and what is due begins (R28, R30, R36, R37). -/
theorem receiveGood_of_receiving (f : RxFrame) {s : State} (h : receiving s = true)
    (hl : s.lif.lossPending = false) :
    receiveGood f s =
      settle (if targeted s f.target then deliver f (toSpace s) else toSpace s) := by
  have hr : reportLoss f.winner (toSpace s) = toSpace s := reportLoss_of_none _ hl
  simp [receiveGood, h, hr]

/-- Where LIF receives nothing, a frame row changes nothing (log 2). -/
theorem receiveGood_of_not_receiving (f : RxFrame) {s : State} (h : receiving s = false) :
    receiveGood f s = s := by
  simp [receiveGood, h]

end Sys2Proof.Machine
end

