-- ==== Sys2Proof/WellFormed.lean ====
section
/-! DEFINITION. Which commands are well formed: the operands a connection of the part can give. -/

namespace Sys2Proof

/-- The operands lie in the ranges the connections allow: the configuration memory gives at most the bits of the
66 bytes that are clocked in (R177); a bay comparator is one of the eight (R1, pins); a frame takes 6 to 30 characters of
ten cells (2.2) with gaps of 0 to 20 cells between them (R26). -/
def Instr.wellFormed : Instr → Bool
  | .configMemoryReady bits => decide (bits.length ≤ 528)
  | .thermalTrip slot => decide (slot < 8)
  | .frameReceived cells => decide (60 ≤ cells.length) && decide (cells.length ≤ 880)
  | _ => true

end Sys2Proof
end

