-- ==== Sys2Proof/Tests/Slice0.lean ====
section
/-! SUPPORT. Tests of the model: ill-formed terms, the manual's worked examples, and for every statement with hypotheses a
concrete state and operands that meet them (the theorems whose names begin with test_hyps). -/

namespace Sys2Proof.Tests

open Sys2Proof Sys2Proof.Machine

/-! ### Helpers -/

/-- Class 1 of 5.9 and 6.7. -/
def cls1 : ClassFigures := ⟨2400, 800, 900, 950, 1200, 50, 70⟩

/-- Class 2 of 5.9. -/
def cls2 : ClassFigures := ⟨4000, 800, 900, 950, 2000, 50, 70⟩

/-- A configuration with `fitted` slots, in group 2. -/
def cfgFor (fitted : Nat) : Cfg :=
  { Cfg.blank with
    group := 2, fitted := fitted, steps := List.range fitted, window := 60, passGap := 500,
    class0 := cls1, class1 := cls1, class2 := cls2, class3 := cls1, warmLimit := 45, hotLimit := 60, minPower := 200,
    contract := 40000, margin := 2000, fallback := 6000, reserveFloor := 1, maxWaitStandard := 10, maxWaitFleet := 20,
    holdGrace := 5, returnTimer := 90, collectTimer := 60 }

/-- A pack with status OK. -/
def pk (id : Word) (k : PackClass) (soc soh : Nat) (temp : Int) (cycles : Half) : Pack :=
  ⟨id, k, soc, soh, temp, cycles, true⟩

/-- An empty slot. -/
def hole : Slot := { Slot.fresh false false 0 with visited := true }

/-- An OCCUPIED, FREE slot. -/
def full (p : Pack) : Slot := { hole with cond := .occupied, present := true, pack := some p }

/-- The slot with a role. -/
def inRole (sl : Slot) (r : Role) (rid : ReqId) : Slot := { sl with role := r, rid := some rid }

/-- The request id of 3.8. -/
def rid : ReqId := ⟨14, 0x2A7⟩

/-- The request of 3.8 as an entry in a state, with an offer of slot 0. -/
def ent (st : EntryState) : Entry := { newEntry rid 0 1 1 12 1 with state := st, offer := some ⟨0, 38, 100⟩ }

/-- The entry HELD on slot 0. -/
def heldEnt : Entry := { ent .held with heldSlot := some 0, deadline := some 6020, holdTimer := some 6020 }

/-- A station 4 in ACTIVE, cold, on an idle line, with the first pass seen and nothing due. -/
def work (slots : List Slot) (book : List Entry) : State :=
  { State.reset with
    core := true, lif := { Lif.initial with cond := .idle, recessive := 6 }, slots := slots, ofe := ⟨book, none⟩, seq := { Seq.initial with firstPassSeen := true },
    alw := { Alw.initial with peers := initialPeers 4 },
    sul := { Sul.initial with station := 4, state := .active, cfg := cfgFor slots.length } }

/-- The state after a command. -/
def after (c : Instr) (s : State) : State :=
  match exec c s with
  | .next t => t
  | _ => s

/-- A state that stands as `work` leaves these fields has nothing due. -/
theorem nothingDue_of (s : State) (h : s.pln.replan = false) (hb : ∀ e ∈ s.ofe.book, e.state ≠ .heard)
    (hg : s.svy.gap = .inPass) : NothingDue s := fun _ =>
  ⟨fun x => by simp [h] at x, fun _ => hb, fun _ _ ms => by simp [hg]⟩

/-! ### Well-formed commands (each check refuses an ill-formed term), and the decoder -/

theorem test_wellFormed_image : (Instr.configMemoryReady (List.replicate 529 false)).wellFormed = false := by
  simp only [Instr.wellFormed, List.length_replicate]
  decide

theorem test_wellFormed_comparator : (Instr.thermalTrip 8).wellFormed = false := by decide

theorem test_wellFormed_short_frame : (Instr.frameReceived (List.replicate 59 (cleanCell true))).wellFormed = false := by
  decide

theorem test_wellFormed_long_frame : (Instr.frameReceived (List.replicate 881 (cleanCell true))).wellFormed = false := by
  simp only [Instr.wellFormed, List.length_replicate]
  decide

theorem test_wellFormed_trip : (Instr.thermalTrip 7).wellFormed = true := by decide

theorem test_decode_none : decodeTableWord 8 0 = none ∧ State.reset.withFetchWord 8 0 = State.reset := by decide

/-! ### Arithmetic (6.1, 6.7, 6.8, 4.3) -/

/-- The worked cases a to h of 6.1. -/
theorem test_ready_cases :
    readyEstimate ⟨2400, 800, 900, 0, 0, 50, 0⟩ 820 1200 = 20 ∧ readyEstimate ⟨2400, 800, 900, 0, 0, 50, 0⟩ 500 1200 = 60 ∧
    readyEstimate ⟨2400, 800, 900, 0, 0, 50, 0⟩ 500 400 = 180 ∧
    readyEstimate ⟨1600, 1000, 900, 0, 0, 40, 0⟩ 400 800 = 60 ∧
    readyEstimate ⟨6000, 800, 1000, 0, 0, 25, 0⟩ 0 200 = 1022 ∧
    readyEstimate ⟨2400, 800, 900, 0, 0, 50, 0⟩ 899 1200 = 1 ∧
    readyEstimate ⟨2400, 800, 900, 0, 0, 50, 0⟩ 899 0 = 1023 ∧ readyEstimate ⟨2400, 800, 900, 0, 0, 50, 0⟩ 900 0 = 0 := by
  decide

/-- The view of request A in 6.7 under a grant. -/
def viewA (grant : Nat) : EvalView :=
  { rid := rid, kind := .reservation, rider := .standard, packClass := 1, eta := 12, grant := grant, station := .active,
    promised := 1, queued := 0,
    slots := [{ cond := .occupied, pack := some (pk 100 1 820 88 31 700), cut := false, role := .free, tier := .b },
      { cond := .occupied, pack := some (pk 101 1 930 91 29 1300), cut := false, role := .free, tier := .c },
      { cond := .occupied, pack := some (pk 102 1 610 64 30 2100), cut := false, role := .free, tier := .b },
      { cond := .occupied, pack := some (pk 103 1 700 95 46 150), cut := false, role := .held, tier := .a },
      { cond := .empty, pack := none, cut := false, role := .free, tier := .none },
      { cond := .empty, pack := none, cut := false, role := .free, tier := .none }] }

/-- Request A of 6.7: slot 0 scores 102, slot 1 scores 38, slots 2 and 3 are not eligible; slot 1 is the candidate. -/
theorem test_score_request_a :
    ((viewA 3000).slots.zipIdx.map (fun x => (judgeSlot (cfgFor 6) (viewA 3000) x.2 x.1).map (fun c => c.score))) =
      [some 102, some 38, none, none, none, none] ∧
    (evaluate (cfgFor 6) (viewA 3000)).map (fun c => (c.slot, c.score, c.minutes)) = some (1, 38, 0) := by decide

/-- 6.8: under a grant of 350 W slot 0 is not eligible, slot 1 still scores 38; and request B of 6.7: with dock count 0
there is no candidate. -/
theorem test_thin_grant_and_no_dock :
    (evaluate (cfgFor 6) (viewA 350)).map (fun c => (c.slot, c.score)) = some (1, 38) ∧
    judgeSlot (cfgFor 6) (viewA 350) 0 ((viewA 350).slots.getD 0 ⟨.empty, none, false, .free, .none⟩) = none ∧
    evaluate (cfgFor 6) { viewA 3000 with promised := 2 } = none := by decide

/-- The peers of the worked example in file 04. -/
def peersAt (w5 u5 : Nat) : List Peer := [⟨.present, 6600, 0, 0, 0, 0, 0, 0, 0⟩, ⟨.present, w5, u5, 0, 0, 0, 0, 0, 0⟩]

/-- The grants of the worked example in file 04, before the rounding to 50 W. -/
theorem test_grant_shares :
    grantShare 12000 9000 2400 (peersAt 4400 1200) = 5780 ∧
    grantShare 12000 9000 2400 (peersAt 0 0) = 7200 ∧ grantShare 3000 9000 2400 (peersAt 0 0) = 2700 ∧
    grantShare 3000 9000 2400 (peersAt 4400 1200) = 2000 ∧ grantShare 2000 9000 2400 (peersAt 4400 1200) = 1333 ∧
    grantShare 6000 9000 2400 (peersAt 4400 1200) = 3365 := by decide

/-! ### The transmit queue (2.6) -/

/-- A STATUS to station `n`. -/
def status (n : Byte) : TxFrame := ⟨0xC0, .status, n, [0xFF, 0]⟩

/-- A DEMAND with a figure. -/
def demandOf (b : Byte) : TxFrame := ⟨0x40, .demand, 0x3F, [b]⟩

/-- A CLOSE. -/
def closeOf : TxFrame := closeFrame rid .done none none none

/-- A queue of frames, oldest order first. -/
def queued (fs : List TxFrame) : State :=
  { work [] [] with lif.queue := fs.zipIdx.map (fun x => ⟨x.1, x.2, none⟩), lif.nextOrder := fs.length }

/-- The queue's frames, head first. -/
def frames (s : State) : List TxFrame := s.lif.queue.map (fun e => e.frame)

/-- "SEQ enqueues CLOSE c1; queue full, s3 displaced": c1, d1, s1, s2, one dropped. -/
theorem test_queue_displaces :
    let s := enqueue closeOf { queued [demandOf 1, status 1, status 2, status 3] with lif.nextOrder := 4 }
    frames s = [closeOf, demandOf 1, status 1, status 2] ∧ s.count .transmitDropped = 1 := by decide

/-- "ALW enqueues DEMAND d2; replaces d1 in place". -/
theorem test_queue_replaces :
    frames (enqueue (demandOf 2) (queued [closeOf, demandOf 1, status 1, status 2])) =
      [closeOf, demandOf 2, status 1, status 2] := by decide

/-- "STR enqueues STATUS s4; queue full, no DEMAND or CLOSE rule applies". -/
theorem test_queue_drops :
    let s := enqueue (status 4) (queued [closeOf, demandOf 1, status 1, status 2])
    frames s = [closeOf, demandOf 1, status 1, status 2] ∧ s.count .transmitDropped = 1 := by decide

/-- d2 in transmission, d3 kept beside it. -/
def keptBeside : State :=
  { work [] [] with
    lif.queue := [⟨demandOf 2, 0, some [3]⟩, ⟨status 1, 1, none⟩], lif.nextOrder := 2,
    lif.tx := some ⟨.queue 0, (demandOf 2).chars 4⟩, lif.cond := .frame }

/-- "d2 loses in its contest character": d3, s1. -/
theorem test_arbitrationLoss_takes_kept : frames (after .arbitrationLoss keptBeside) = [demandOf 3, status 1] := by decide

/-- After the completion the figures kept beside the frame are queued as a new DEMAND (R39). -/
theorem test_transmissionComplete_queues_kept :
    let s := after .transmissionComplete keptBeside
    frames s = [demandOf 3, status 1] ∧ s.lif.tx = none ∧ s.lif.cond = .space := by decide

/-- After a clash the frame is removed, the clash counted and flagged (R33, R34). -/
theorem test_stationClash_counts :
    let s := after .stationClash { keptBeside with lif.queue := [⟨status 1, 0, none⟩] }
    frames s = [] ∧ s.count .stationClash = 1 ∧ s.lif.clashTimer = some 60000 ∧ s.faultLamp = true := by decide

theorem test_clashTimerExpiry :
    (after .clashTimerExpiry { work [] [] with lif.clashFlag := true, lif.clashTimer := some 60000 }).lif.clashFlag = false := by
  decide

/-! ### Cells and frames (2.1, 3.8, 3.9) -/

/-- The contest character 0x10 goes most significant bit first, the target 0x3F least significant bit first (R22). -/
theorem test_bit_orders :
    charCells 0 0x10#8 = [false, false, false, false, true, false, false, false, false, true] ∧
    charCells 2 0x3F#8 = [false, true, true, true, true, true, true, false, false, true] := by decide

/-- The request id (14, 0x2A7) is the bytes 0xE2, 0xA7 (3.8). -/
theorem test_ridBytes : ridBytes rid = [0xE2, 0xA7] ∧ ridOfBytes 0xE2 0xA7 = rid := by decide

/-- Characters with their CRC. -/
def withCrc (body : List Byte) : List Byte := body ++ bytes16 (crc16 body)

/-- The REQUEST of 3.8 on the line: contest 0x10, kind/source 0x0E, target 0x3F. -/
def requestChars : List Byte := withCrc [0x10, 0x0E, 0x3F, 7, 0xE2, 0xA7, 0, 1, 1, 12, 1]

/-- The REQUEST of 3.8, with one noisy cell: taken, and counted as noisy (R23). -/
theorem test_frameReceived_request :
    let s := after (.frameReceived ((onLine requestChars).set 4 ⟨true, false, true⟩)) (work [hole] [])
    s.ofe.book.map (fun e => (e.rid, e.state, e.eta)) = [(rid, .evaluating, 12)] ∧ s.lif.cond = .space ∧
    s.count .noisy = 1 ∧ s.count .crc = 0 := by decide +kernel

/-- A frame with kind code 13 is counted (3.9, last row). -/
theorem test_frameReceived_unknown :
    (after (.frameReceived (onLine (withCrc [0xC0, 0xDE, 0x3F, 0]))) (work [hole] [])).count .unknownKind = 1 := by decide +kernel

/-- 3.9, rows 2 to 4: ETA 75 is taken as 60; a foreign id and class 5 are malformed. -/
theorem test_update_clamps : (after (.update rid 75) (work [hole] [ent .offered])).ofe.book.map (fun e => e.eta) = [60] := by
  decide

theorem test_request_malformed :
    (after (.request 13 ⟨14, 0x2B0⟩ 0 1 1 12 1) (work [hole] [])).count .malformed = 1 ∧
    (after (.request 13 ⟨13, 0x011⟩ 0 5 1 12 1) (work [hole] [])).count .malformed = 1 := by decide

/-- 3.9, row 5: a BEGIN to a group is malformed and not answered. -/
theorem test_beginSwap_group :
    let s := after (.beginSwap 0x22 rid) (work [hole] [heldEnt])
    s.count .malformed = 1 ∧ s.lif.queue = [] := by decide

/-- 3.9, row 6: the STATUS of a QUERY for item 9, to station 13. -/
theorem test_queryInvalid :
    frames (after (.queryInvalid 13 9 0) (work [hole] [])) = [⟨0xC0, .status, 13, [0xFF, 0]⟩] := by decide

/-- 12.2: page 1 holds station clash first, no reply third (the example of file 12). -/
theorem test_queryCounters :
    (frames (after (.queryCounters 12 1) { work [hole] [] with
      counters := ((List.replicate 32 0).set 10 37).set 11 2 })).map (fun f => f.data.take 10) =
      [[3, 1, 0, 0, 0, 0, 0, 37, 0, 2]] := by decide

/-! ### Charging (5.9, 5.10) -/

/-- The Slot Table of 5.9, slots 1 and 2 HELD. -/
def slots59 : List Slot :=
  [full (pk 10 1 500 90 30 0), inRole (full (pk 11 1 820 90 31 0)) .held ⟨14, 1⟩,
    inRole (full (pk 12 2 300 90 47 0)) .held ⟨14, 2⟩, full (pk 13 1 910 90 28 0),
    inRole (full (pk 14 2 650 90 33 0)) .pledged ⟨14, 3⟩, hole, full (pk 16 1 960 90 29 0)]

/-- An entry HELD until second 5,400. -/
def held59 (n : BitVec 12) (slot : Nat) (rider : RiderClass) : Entry :=
  { heldEnt with rid := ⟨14, n⟩, heldSlot := some slot, deadline := some 5400, holdTimer := some 5400, rider := rider }

/-- The cabinet of 5.9 under a grant, before its pass. -/
def cabinet59 (grant : Nat) : State :=
  { work slots59 [held59 1 1 .standard, held59 2 2 .fleet] with alw.grant := grant }

/-- The snapshot's plan in 5.9, pass 1: the fill of 4,350 W in walk order, W_d and W_u. -/
theorem test_pass_plan :
    planOf (cfgFor 7) (takeSnapshot (cabinet59 4350)) = [(2, 1000), (1, 1200), (4, 2000), (0, 0), (3, 0)] ∧
    wantedOf (cfgFor 7) (takeSnapshot (cabinet59 4350)) = 6600 ∧
    urgentOf (cfgFor 7) (takeSnapshot (cabinet59 4350)) = 2200 := by decide

/-- 5.10: the plan of 5,800 W is walked again from 3,000 W. -/
theorem test_pass_limit :
    limitPlan (cfgFor 7) (takeSnapshot (cabinet59 5800)) 3000 = [(2, 1000), (1, 1200), (4, 800), (0, 0), (3, 0)] := by decide

/-- 5.9, the end of pass 1: setpoints and ready estimates. The allowance makes the end G 6,600 W here, above the plan. -/
theorem test_planningPassEnd :
    let s := cabinet59 4350
    let t := after .planningPassEnd { s with
      pln.pass := some ⟨takeSnapshot s, 1250⟩, alw.allowance := 6600 }
    t.slots.map (fun sl => (sl.setpoint, sl.ready)) =
      [(0, 1023), (1200, 20), (1000, 168), (0, 0), (2000, 42), (0, 1023), (0, 0)] ∧
    t.alw.announced = 6600 := by decide

/-- 5.9: slot 4's comparator asserts: the setpoint is 0, the ready estimate 1023. -/
theorem test_thermalTrip :
    (after (.thermalTrip 4) { cabinet59 5800 with
      slots := slots59.modify 4 (fun sl => { sl with setpoint := 2000, ready := 42 }) }).slots[4]?.map
        (fun sl => (sl.cut, sl.setpoint, sl.ready)) = some (true, 0, 1023) := by decide

/-! ### Configuration (11.6) -/

/-- A class of the image: C 2,400 Wh, K 800, T, ceiling, P_max, F 50, SoH 70. -/
def classBytes (t ceiling pmax : Byte) : List Byte := [48, 160, t, ceiling, pmax, 50, 70]

/-- The first 64 bytes of the image of 11.6. -/
def body116 : List Byte :=
  [2, 6, 6, 0x01, 0x29, 0x33, 0, 0, 0, 0, 0, 65, 0x01, 0xF4] ++ classBytes 180 190 24 ++ classBytes 180 175 24 ++
    classBytes 180 190 70 ++ classBytes 180 190 24 ++ [45, 60, 4, 0x0F, 0xA0, 0, 200, 0x02, 0x58, 0xFF, 10, 20, 20, 90, 60] ++
    List.replicate 7 0

/-- The corrections of 11.6, in their order. -/
theorem test_corrections :
    (corrections body116).map (fun c => (c.offset, c.cause, c.read, c.used)) =
      [(11, .rounded, some 65, some 60), (32, .lowered, some 70, some 66), (54, .lowered, some 20, some 15),
        (24, .ceilingRaised, some 175, some 180), (3, .stepDropped, some 9, none), (3, .stepAppended, none, some 4),
        (3, .stepAppended, none, some 5)] ∧
    (cfgOf body116).steps = [0, 1, 2, 3, 3, 4, 5] ∧ (cfgOf body116).reserveFloor = 1 := by decide

/-- A start with the 66 bytes read. -/
def loadingWith (img : List Byte) : State :=
  { after (.start 4 false) State.reset with sul.image := img, sul.cfda := memoryTransfer (img.flatMap msbBits) }

/-- The end of loading with the image of 11.6. -/
theorem test_loadingEnd :
    let s := after (.loadingEnd false 0 true) (loadingWith (withCrc body116))
    s.sul.state = .joining ∧ s.slots.length = 6 ∧ s.sul.clampCount = 7 ∧ s.alw.allowance = 6000 := by decide +kernel

/-- The 66 bytes with a wrong CRC halt the station (R177, R181). -/
theorem test_loadingEnd_bad :
    (after (.loadingEnd false 0 true) (loadingWith (body116 ++ [0, 0]))).sul.halt = some .badCrc := by decide +kernel

theorem test_loadingTimerExpiry :
    (after .loadingTimerExpiry (loadingWith [])).sul.halt = some .noResponse := by decide

theorem test_configMemoryReady :
    let s := after (.configMemoryReady (msbBits 7)) (after (.start 4 false) State.reset)
    (s.sul.cfda.take 8).filterMap CfdaCycle.driven = [false, false, false, false, false, false, true, true] ∧
    (s.sul.cfda.drop 24).map CfdaCycle.driven = List.replicate 8 none ∧ s.sul.image = [7] ∧ s.cfsl = false := by decide

theorem test_start_warm :
    (after (.start 9 false) { State.reset with rhs := ⟨true, 7, List.replicate 8 none, none⟩ }).sul.cold = false ∧
    (after (.start 9 true) { State.reset with rhs := ⟨true, 7, List.replicate 8 none, none⟩ }).rhs.seconds = 0 := by decide

/-! ### Holds (7.6) -/

/-- The cabinet of the hold example: slot 0 PLEDGED for the request. -/
def pledgedCabinet : State :=
  { work [inRole (full (pk 100 1 930 91 29 1300)) .pledged rid, hole] [{ ent .offered with pledgeTimer := some 3000 }] with
    rhs := ⟨true, 5000, List.replicate 8 none, none⟩, alw.grant := 3000 }

/-- "An ASSIGN for entry (14, 0x2A7), ETA 12, is taken at second 5,000": the deadline is 6,020. -/
theorem test_assign_deadline :
    let s := after (.assign rid 4 0) pledgedCabinet
    s.ofe.book.map (fun e => (e.state, e.deadline, e.holdTimer)) = [(.held, some 6020, some 6020)] ∧
    s.rhs.holds.head? = some (some ⟨rid, 0, 6020, 1, 1, .standard, 12⟩) ∧ s.slots.map (fun sl => sl.role) = [.held, .free] := by
  decide

/-- The cabinet with the hold made. -/
def heldCabinet : State :=
  { work [inRole (full (pk 100 1 930 91 29 1300)) .held rid, hole] [heldEnt] with
    rhs := ⟨true, 5400, (List.replicate 8 none).set 0 (some ⟨rid, 0, 6020, 1, 1, .standard, 12⟩), none⟩ }

/-- "At second 5,400 an UPDATE brings ETA 20": the deadline becomes 6,900. -/
theorem test_update_deadline :
    let s := after (.update rid 20) heldCabinet
    s.ofe.book.map (fun e => e.deadline) = [some 6900] ∧
    s.rhs.holds.head? = some (some ⟨rid, 0, 6900, 1, 1, .standard, 20⟩) := by decide

/-- "Had no UPDATE come, the hold would have expired at the tick that brought the counter to 6,020": not one second
before. -/
theorem test_holdTimerExpiry :
    (after .holdTimerExpiry { heldCabinet with rhs.seconds := 6019 }).ofe.book.map (fun e => e.state) = [.held] ∧
    (after .holdTimerExpiry { heldCabinet with rhs.seconds := 6020 }).ofe.book.map (fun e => e.state) = [.lapsed] := by decide

theorem test_cancel :
    let s := after (.cancel rid) heldCabinet
    s.ofe.book.map (fun e => e.state) = [.cancelled] ∧ s.rhs.holds = List.replicate 8 none ∧ s.lif.queue = [] := by decide

theorem test_beginSwap :
    let s := after (.beginSwap 4 rid) heldCabinet
    s.slots.map (fun sl => (sl.role, sl.unlocked)) = [(.held, false), (.dock, true)] ∧ s.svy.focus = some 1 ∧
    s.rhs.progress.map (fun p => (p.step, p.dock, p.release)) = some (.returnOpen, 1, 0) := by decide

/-! ### The survey (1.3, 1.6, 1.7) -/

/-- A reply of the contact link: class 1, SoC, status OK. -/
def reply (id : Word) (soc : Nat) : List Byte :=
  let r := bytes32 id ++ [1] ++ bytes16 (halfOf soc) ++ [90, 25] ++ bytes16 700 ++ [0]
  r ++ [crc8 r]

/-- The levels of a run of characters on the contact link, after four idle bit times. -/
def onLink (chars : List Byte) : List Bool := List.replicate 4 true ++ chars.flatMap linkChar

/-- The read command 0xA5 as it stands on the contact link (1.3): start bit low, least significant bit first, stop bit
high. -/
theorem test_readCommand :
    linkSent ⟨3, .regular, true, 60⟩ true =
      some (3, [false, true, false, true, false, false, true, false, true, true]) := by decide

/-- A survey step in progress on slot `n`. -/
def stepping (n : Nat) (sl : Slot) : State :=
  { work [hole, sl] [] with svy.step := some ⟨n, .regular, true, 60⟩, svy.next := 1 }

/-- 1.6, step d: the dock sees a pack: SETTLING, counts 1 and 0. -/
theorem test_surveyStepEnd_settling :
    (after (.surveyStepEnd true (onLink (reply 7 820)) false) (stepping 1 { hole with absentCount := 2 })).slots[1]?.map
      (fun sl => (sl.cond, sl.presentCount, sl.absentCount, sl.pack)) = some (.settling, 1, 0, none) := by decide +kernel

/-- 1.6, step e: the next valid visit: OCCUPIED with the record of this read, count 2. -/
theorem test_surveyStepEnd_occupied :
    (after (.surveyStepEnd true (onLink (reply 7 820)) false) (stepping 1 { hole with cond := .settling, presentCount := 1 })).slots[1]?.map
      (fun sl => (sl.cond, sl.presentCount, sl.pack)) = some (.occupied, 2, some (pk 7 1 820 90 25 700)) := by decide +kernel

/-- The slot of 1.7 after its first absent visit. -/
def forced : Slot := { full (pk 7 1 820 90 25 700) with role := .held, rid := some rid, absentCount := 1 }

/-- 1.7: the second absent visit finds a tamper. -/
theorem test_tamper :
    let s := after (.surveyStepEnd false [] false) (stepping 1 forced)
    s.slots[1]?.map (fun sl => (sl.cond, sl.reason, sl.absentCount)) = some (.fault, some .tamper, 2) ∧ s.faultLamp = true := by
  decide

/-- 1.7: the open event clears the door-clear mark and takes ACTIVE to WITHDRAWN. -/
theorem test_doorOpen :
    let s := after .doorOpen (work [hole, { forced with cond := .fault, reason := some .tamper, pack := none, absentCount := 2 }] [])
    s.slots[1]?.map (fun sl => (sl.doorClear, sl.doorOpened)) = some (false, true) ∧ s.sul.state = .withdrawn := by decide

/-- The cabinet of 1.7 with the door open. -/
def doorStands : State :=
  let s := work [hole, { forced with
    cond := .fault, reason := some .tamper, pack := none, absentCount := 2, doorClear := false, doorOpened := true }] []
  { s with sul := { s.sul with doorOpen := true, state := .withdrawn } }

/-- 1.7: the close event clears the slot. -/
theorem test_doorClose :
    let s := after .doorClose doorStands
    s.slots[1]?.map (fun sl => (sl.cond, sl.absentCount, sl.doorCycle)) = some (.empty, 2, true) ∧ s.sul.state = .active := by
  decide

/-! ### Announcements (4.6) and peers (4.1) -/

/-- "enter HOLDUP" at 2,600 ms: the demand timer stops, a DEMAND with wanted 0 is produced, the spacing timer runs. -/
theorem test_mainsGoodLow :
    let s := after .mainsGoodLow { work [hole] [] with pln.wanted := 7100, alw.announced := 6800, alw.demandTimer := some 2000 }
    s.sul.state = .holdup ∧ s.alw.demandTimer = none ∧ s.alw.announced = 0 ∧ s.alw.spacingTimer = some 250 ∧
    (frames s).map (fun f => f.data.take 2) = [[0, 0]] := by decide

/-- "spacing timer expires" at 290 ms with the mark set: an early DEMAND of 6,800. -/
theorem test_spacingTimerExpiry :
    let s := after .spacingTimerExpiry { work [hole] [] with
      pln.wanted := 6800, alw.announced := 6000, alw.spacingTimer := some 250, alw.earlyPending := true }
    s.alw.announced = 6800 ∧ s.alw.earlyPending = false ∧ s.alw.spacingTimer = some 250 := by decide

/-- "demand timer expires" at 2,000 ms: it reloads, and the DEMAND carries 6,800. -/
theorem test_demandTimerExpiry :
    let s := after .demandTimerExpiry { work [hole] [] with pln.wanted := 6800, alw.demandTimer := some 2000 }
    s.alw.demandTimer = some 2000 ∧ (frames s).map (fun f => f.data.take 2) = [bytes16 6800] := by decide

/-- Second 100 of the worked example in file 04: METER with N 26,000 W gives A 12,000; the freshness timer's expiry gives
6,000. -/
theorem test_meter :
    (after (.meter 2600 3000) (work [hole] [])).alw.allowance = 12000 ∧
    (after .freshnessTimerExpiry { work [hole] [] with
      alw.freshTimer := some 3000, alw.meter.fresh := true, alw.allowance := 12000 }).alw.allowance = 6000 := by decide

/-- The peer 5 of that example, STALE and last heard at second 92: at second 108 its age is 16, and it is ABSENT. -/
theorem test_secondsTick :
    let s := work [hole] []
    let t := after .secondsTick { s with
      rhs.seconds := 107, alw.peers := s.alw.peers.set 5 (some ⟨.stale, 4400, 1200, 92, 1, 1, 1, 1, 1⟩) }
    t.alw.peers[5]? = some (some ⟨.absent, 0, 0, 92, 0, 0, 0, 0, 0⟩) ∧ t.rhs.seconds = 108 := by decide

/-- A DEMAND with urgent above wanted is written with urgent lowered (R58). -/
theorem test_demand :
    (after (.demand 5 4400 5000 0 1 2 3 4 5 2) (work [hole] [])).alw.peers[5]? =
      some (some ⟨.present, 4400, 4400, 0, 1, 2, 3, 4, 5⟩) := by decide

/-! ### Hypotheses that are met: the machine and its invariants -/

theorem test_hyps_StepRunsFrontCommand :
    (∃ s : State, s.pending = [.clashTimerExpiry, .doorOpen]) ∧ State.reset.pending = [] :=
  ⟨⟨{ State.reset with pending := [.clashTimerExpiry, .doorOpen] }, rfl⟩, rfl⟩

theorem test_hyps_CommandsLeaveTheQueue : ∃ t, exec .secondsTick heldCabinet = .next t := ⟨_, rfl⟩

/-- A cabinet with one HEARD entry, its evaluation not begun. -/
def heardCabinet : State := work [hole] [{ ent .heard with offer := none }]

/-- A cabinet in the pass gap with a focus slot and no step. -/
def gapFocus : State :=
  { work [hole] [] with svy.gap := .running 500, svy.focus := some 0, pln.replan := true }

theorem test_hyps_SettleBeginsWhatIsDue :
    (operates heardCabinet = true ∧ heardCabinet.ofe.evaluation = none ∧
      heardCabinet.ofe.book.find? (fun e => decide (e.state = .heard)) = some { ent .heard with offer := none }) ∧
    (∀ e ∈ gapFocus.ofe.book, e.state ≠ .heard) ∧
    (operates gapFocus = true ∧ gapFocus.svy.step = none ∧ gapFocus.svy.gap = .running 500 ∧
      gapFocus.svy.focus = some 0) ∧ heardCabinet.svy.focus = none ∧
    (operates gapFocus = true ∧ gapFocus.pln.replan = true ∧ gapFocus.pln.pass = none) := by decide

/-- The swap of the held request, its dock open. -/
def openCabinet : State :=
  { heldCabinet with
    slots := [inRole (full (pk 100 1 930 91 29 1300)) .held rid, { inRole hole .dock rid with unlocked := true }],
    ofe := ⟨[{ heldEnt with state := .serving, servePos := some .active, holdTimer := none }], none⟩,
    seq := { Seq.initial with
      firstPassSeen := true, timer := some (.ret, 90000),
      active := some ⟨rid, .returnOpen, some 1, 0, none, none, none, none⟩ },
    rhs := { heldCabinet.rhs with progress := some ⟨rid, .returnOpen, 1, 0, none⟩ },
    svy := { Svy.initial with focus := some 1 }, pending := [.returnTimerExpiry] }

/-- The open cabinet, charging slot 0, with a queued DEMAND. -/
def busyCabinet : State :=
  { openCabinet with
    slots := openCabinet.slots.modify 0 (fun sl => { sl with setpoint := 1200 }),
    lif.queue := [⟨demandOf 1, 0, none⟩, ⟨status 1, 1, none⟩], lif.nextOrder := 2 }

theorem test_hyps_SetpointsStaySafe : SetpointsSafe busyCabinet ∧ ∃ t, step busyCabinet = .next t := ⟨by decide, ⟨_, rfl⟩⟩

theorem test_hyps_LatchesStayWithTheSwap : LatchesFollowSwap busyCabinet ∧ ∃ t, step busyCabinet = .next t :=
  ⟨by decide, ⟨_, rfl⟩⟩

theorem test_hyps_AtMostOneLatchOpen :
    LatchesFollowSwap busyCabinet ∧ (busyCabinet.slots.filter (fun sl => sl.unlocked)).length = 1 := by decide

theorem test_hyps_CapacitiesStayWithin :
    (WithinCapacity busyCabinet ∧ PeerPlaces busyCabinet) ∧ ∃ t, step busyCabinet = .next t := ⟨by decide, ⟨_, rfl⟩⟩

theorem test_hyps_TransmitQueueStaysInOrder : QueueInOrder busyCabinet ∧ ∃ t, step busyCabinet = .next t :=
  ⟨by decide, ⟨_, rfl⟩⟩

theorem test_hyps_RequestIdsStayUnique : RequestIdsUnique busyCabinet ∧ ∃ t, step busyCabinet = .next t :=
  ⟨by decide, ⟨_, rfl⟩⟩

theorem test_hyps_NothingDueWaits : NothingDue busyCabinet ∧ ∃ t, step busyCabinet = .next t :=
  ⟨nothingDue_of _ rfl (by decide) rfl, ⟨_, rfl⟩⟩

theorem test_hyps_ConfigurationStaysFixed :
    (∃ t, exec .secondsTick busyCabinet = .next t) ∧ (∀ straps clr, Instr.secondsTick ≠ .start straps clr) ∧
    Instr.secondsTick ≠ .coreStop ∧ ∀ d h m, Instr.secondsTick ≠ .loadingEnd d h m := by
  refine ⟨⟨_, rfl⟩, ?_, ?_, ?_⟩ <;> simp

theorem test_hyps_RetainedMarkerAndCounterChangeOnlyByTheirRules :
    (∃ t, exec .coreStop busyCabinet = .next t) ∧ (∃ t, exec .retainedCellFail busyCabinet = .next t) ∧
    (∃ t, exec (.start 4 false) busyCabinet = .next t) ∧ (∃ t, exec .secondsTick busyCabinet = .next t) ∧
    busyCabinet.rhs.valid = true ∧ busyCabinet.core = true ∧ State.reset.rhs.valid = false ∧
    (∀ straps clr, Instr.coreStop ≠ .start straps clr) ∧ Instr.coreStop ≠ .secondsTick ∧
    Instr.coreStop ≠ .retainedCellFail := by
  refine ⟨⟨_, rfl⟩, ⟨_, rfl⟩, ⟨_, rfl⟩, ⟨_, rfl⟩, rfl, rfl, rfl, ?_, ?_, ?_⟩ <;> simp

theorem test_hyps_CountersNeverDecrease :
    (∃ t, exec .returnTimerExpiry busyCabinet = .next t) ∧
    (∀ straps clr, Instr.returnTimerExpiry ≠ .start straps clr) ∧ Instr.returnTimerExpiry ≠ .coreStop := by
  refine ⟨⟨_, rfl⟩, ?_, ?_⟩ <;> simp

theorem test_hyps_OnlySwapCommandsOpenLatches :
    (∃ t, exec .secondsTick busyCabinet = .next t ∧ t.slots[1]? = busyCabinet.slots[1]?) ∧
    busyCabinet.lif.rxBuf = [] ∧ busyCabinet.slots[1]?.map (fun sl => sl.unlocked) = some true := by
  exact ⟨⟨_, rfl, by decide⟩, by decide, by decide⟩

/-! ### Hypotheses that are met: the line -/

theorem test_hyps_SentCharactersAreReadBack :
    (6 ≤ ([1, 2, 3, 0, 5, 6] : List Byte).length ∧ ([1, 2, 3, 0, 5, 6] : List Byte).length = 6 + 0) ∧
    (([1, 2, 3, 24] ++ List.replicate 26 0 : List Byte).getD 3 0).toNat ≤ 24 ∧
    ([1, 2, 3, 24] ++ List.replicate 26 0 : List Byte).length = 6 + 24 := by decide

theorem test_hyps_SentFramesAreGood :
    ((⟨0xC0, .status, 1, []⟩ : TxFrame).data.length ≤ 24) ∧
    (⟨0xC0, .status, 1, List.replicate 24 0⟩ : TxFrame).data.length ≤ 24 := by decide

/-- The characters are read from their own cells. -/
abbrev ReadsBack (chars : List Byte) : Prop := readFrame ((onLine chars).map cellValue) = some chars

/-- A frame to station 9, a frame of kind code 12, a CANCEL of three bytes. -/
def foreignChars : List Byte := withCrc [0x38, 0x9F, 9, 4, 0, 0, 0, 0]

def kind12Chars : List Byte := withCrc [0xC0, 0xCE, 0x3F, 0]

def longCancelChars : List Byte := withCrc [0x08, 0x6E, 0x3F, 3, 0xE2, 0xA7, 0]

/-- Two METERs in the receive buffer. -/
def fullBuffer : State :=
  let f : RxFrame := ⟨1, 0x38, 0x3F, .meter 1 1⟩
  { work [hole] [] with lif.rxBuf := [f, f] }

/-- One METER in the receive buffer. -/
def oneHeld : State := { work [hole] [] with lif.rxBuf := [⟨1, 0x38, 0x3F, .meter 1 1⟩] }

/-- The line after the end of a frame. -/
def inSpace : State := { work [hole] [] with lif := Lif.initial }

theorem test_hyps_CompleteFrameIsFiltered :
    receiving (work [hole] []) = true ∧ (work [hole] []).lif.lossPending = false ∧ receiving fullBuffer = true ∧
    (ReadsBack (requestChars.set 12 0) ∧ (lineFrame (requestChars.set 12 0)).crcGood = false) ∧
    (ReadsBack foreignChars ∧ (lineFrame foreignChars).crcGood = true ∧
      targeted (work [hole] []) (lineFrame foreignChars).target = false) ∧
    (ReadsBack kind12Chars ∧ (lineFrame kind12Chars).crcGood = true ∧
      targeted (work [hole] []) (lineFrame kind12Chars).target = true ∧ 12 ≤ (lineFrame kind12Chars).kindCode.toNat) ∧
    (ReadsBack longCancelChars ∧ (lineFrame longCancelChars).crcGood = true ∧
      Kind.ofCode (lineFrame longCancelChars).kindCode = some .cancel ∧
      Kind.cancel.sizeFits (lineFrame longCancelChars).data.length = false) ∧
    (ReadsBack requestChars ∧ (lineFrame requestChars).crcGood = true ∧
      Kind.ofCode (lineFrame requestChars).kindCode = some .request ∧
      Kind.request.sizeFits (lineFrame requestChars).data.length = true ∧ 2 ≤ fullBuffer.lif.rxBuf.length ∧
      (work [hole] []).lif.rxBuf = [] ∧ oneHeld.lif.rxBuf.length = 1) ∧
    (receiving oneHeld = true ∧ oneHeld.lif.lossPending = false ∧
      targeted oneHeld (lineFrame requestChars).target = true) ∧
    (listening inSpace = true ∧ inSpace.lif.cond = .space ∧ inSpace.lif.lossPending = false) := by decide +kernel

theorem test_hyps_ReceptionErrorsAreCounted :
    (∀ s ∈ [work [hole] [], inSpace, { work [hole] [] with lif.malformed := true, lif.cond := .frame }],
      lifRuns s = true ∧ s.lif.lossPending = false) ∧
    (listening inSpace = true ∧ inSpace.lif.cond = .space ∧ receiving (work [hole] []) = true) := by decide

/-- An OFFER of a score for the request in the register. -/
def regOf (score : Byte) : Register :=
  ⟨rid, ⟨score, .offer, 0x3F, ridBytes rid ++ [0, score] ++ bytes16 20 ++ bytes16 820 ++ bytes32 100⟩⟩

/-- A start point with a queue, a register and a mark. -/
def atPoint (q : List TxEntry) (r : Option Register) (m : Option Mark) (c : LineCond) : State :=
  { work [full (pk 100 1 820 88 31 700)] [ent .evaluating] with
    lif.queue := q, lif.register := r, lif.mark := m, lif.cond := c, lif.nextOrder := 5 }

theorem test_hyps_StartPointSendsTheLower :
    let free (s : State) : Prop := lifRuns s = true ∧ s.lif.tx = none ∧ s.lif.stretch = none ∧ s.lif.mark = none ∧
      (s.lif.cond = .idle ∨ s.lif.cond = .space)
    (free (atPoint [⟨status 1, 0, none⟩] none none .idle) ∧ free (atPoint [] (some (regOf 12)) none .space) ∧
      free (atPoint [] none none .idle) ∧ free (atPoint [⟨closeOf, 0, none⟩] (some (regOf 13)) none .idle) ∧
      free (atPoint [⟨closeOf, 0, none⟩] (some (regOf 12)) none .idle)) ∧
    (atPoint [] (some (regOf 12)) none .space).sul.state = .active ∧
    closeOf.contest < (regOf 13).frame.contest ∧ ¬ closeOf.contest < (regOf 12).frame.contest := by
  decide

theorem test_hyps_ContestPointIsForItsOffer :
    ∀ s ∈ [atPoint [] none (some ⟨rid, false, false⟩) .space, atPoint [] (some (regOf 12)) (some ⟨rid, true, false⟩) .idle,
        atPoint [] (some (regOf 12)) (some ⟨rid, true, true⟩) .space],
      lifRuns s = true ∧ s.lif.tx = none ∧ s.lif.stretch = none ∧ s.lif.mark.map (fun m => m.rid) = some rid ∧
      (s.lif.cond = .idle ∨ s.lif.cond = .space) ∧ s.sul.state = .active ∧
      s.entry? rid = some (ent .evaluating) ∧ (ent .evaluating).state = .evaluating := by decide

/-- The queue's head in transmission. -/
def sendingQueue : State :=
  { work [hole] [] with
    lif.queue := [⟨status 1, 0, none⟩], lif.nextOrder := 1, lif.cond := .frame,
    lif.tx := some ⟨.queue 0, (status 1).chars 4⟩ }

theorem test_hyps_QueueFrameOutcomes :
    (lifRuns sendingQueue = true ∧ sendingQueue.lif.tx = some ⟨.queue 0, (status 1).chars 4⟩ ∧
      sendingQueue.lif.cond ≠ .hold ∧ sendingQueue.lif.stretch = none ∧ sendingQueue.lif.lossPending = false ∧
      sendingQueue.lif.queue.find? (fun e => e.order == 0) = some ⟨status 1, 0, none⟩) ∧
    (lifRuns keptBeside = true ∧ keptBeside.lif.tx = some ⟨.queue 0, (demandOf 2).chars 4⟩ ∧
      keptBeside.lif.queue.find? (fun e => e.order == 0) = some ⟨demandOf 2, 0, some [3]⟩) := by decide +kernel

/-- The register's OFFER in transmission, its slot in a role. -/
def sendingOffer (r : Role) (cleared : Bool) : State :=
  { work [inRole (full (pk 100 1 820 88 31 700)) r rid] [ent .contending] with
    lif.register := some (regOf 38), lif.clearPending := cleared, lif.cond := .frame,
    lif.tx := some ⟨.register, [38]⟩ }

theorem test_hyps_OfferWonPledgesItsSlot :
    let meets (s : State) (r : Role) : Prop := lifRuns s = true ∧ s.lif.tx = some ⟨.register, [38]⟩ ∧
      s.lif.register = some (regOf 38) ∧ s.lif.clearPending = false ∧ s.entry? rid = some (ent .contending) ∧
      (ent .contending).offer = some ⟨0, 38, 100⟩ ∧
      s.slots[0]? = some (inRole (full (pk 100 1 820 88 31 700)) r rid) ∧ operates s = true
    meets (sendingOffer .free false) .free ∧ meets (sendingOffer .dock false) .dock := by decide

theorem test_hyps_LostOfferWaitsForItsReport :
    (lifRuns (sendingOffer .free false) = true ∧ (sendingOffer .free false).lif.clearPending = false) ∧
    (lifRuns (sendingOffer .free true) = true ∧ (sendingOffer .free true).lif.clearPending = true) ∧
    (sendingOffer .free true).lif.tx = some ⟨.register, [38]⟩ ∧
    (sendingOffer .free true).lif.register = some (regOf 38) := by decide

/-- Station 5's OFFER for the request, score 20. -/
def foreignOfferChars : List Byte := withCrc ([20, 0x15, 0x3F, 12] ++ ridBytes rid ++ [2, 20] ++ List.replicate 8 0)

/-- The register's OFFER has lost. -/
def lostOffer : State :=
  { sendingOffer .free false with lif.tx := none, lif.lossPending := true }

/-- The state with two tries made. -/
def triedTwice (s : State) : State := { s with ofe := ⟨[{ ent .contending with tries := 2 }], none⟩ }

/-- The third failed try: SAT_OUT with cause LOST, the register empty (R131). -/
theorem test_framingError_third_try :
    let s := after (.framingError false) (triedTwice (sendingOffer .free false))
    s.ofe.book.map (fun e => (e.state, e.satOut)) = [(.satOut, some .lost)] ∧ s.lif.register = none := by decide

theorem test_hyps_LossToSameRequestBeats :
    (ReadsBack foreignOfferChars ∧ receiving lostOffer = true ∧ lostOffer.lif.lossPending = true ∧
      lostOffer.lif.rxBuf = [] ∧ lostOffer.lif.register = some (regOf 38) ∧
      lostOffer.entry? (regOf 38).rid = some (ent .contending) ∧ (lineFrame foreignOfferChars).crcGood = true ∧
      (lineFrame foreignOfferChars).kindCode = 1#4 ∧ (lineFrame foreignOfferChars).data.length = 12 ∧
      ridOfBytes ((lineFrame foreignOfferChars).data.getD 0 0) ((lineFrame foreignOfferChars).data.getD 1 0) =
        (regOf 38).rid) ∧
    (∀ s ∈ [sendingOffer .free false, lostOffer, triedTwice lostOffer, triedTwice (sendingOffer .free false),
        { lostOffer with lif.malformed := true }],
      lifRuns s = true ∧ s.lif.register = some (regOf 38) ∧ (s.entry? rid).map (fun e => e.state) = some .contending ∧
      s.lif.clearPending = false ∧ s.lif.cond ≠ .hold ∧ s.lif.stretch = none) ∧
    ((sendingOffer .free false).lif.tx = some ⟨.register, [38]⟩ ∧
      (sendingOffer .free false).lif.lossPending = false ∧ lostOffer.lif.tx = none ∧ lostOffer.lif.malformed = false) ∧
    NothingDue lostOffer ∧ NothingDue (sendingOffer .free false) ∧ NothingDue (triedTwice lostOffer) :=
  ⟨by decide +kernel, by decide, by decide, nothingDue_of _ rfl (by decide) rfl, nothingDue_of _ rfl (by decide) rfl,
    nothingDue_of _ rfl (by decide) rfl⟩

/-- Station 5's OFFER for the request, cut down to 4 bytes, with a good CRC. -/
def shortOfferChars : List Byte := withCrc ([20, 0x15, 0x3F, 4] ++ ridBytes rid ++ [2, 20])

/-- Winning frames that are a try: a bad CRC, an unknown kind, one for another station, a length that does not fit, a DEMAND,
an OFFER for another request, an OFFER of 4 bytes for the request itself (log 13); and a CANCEL of that request. -/
def winningFrames : List (List Byte) :=
  [requestChars.set 12 0, kind12Chars, foreignChars, longCancelChars, withCrc ([0x40, 0x89, 0x3F, 12] ++ List.replicate 12 0),
    withCrc ([20, 0x15, 0x3F, 12, 0x10, 1, 2, 20] ++ List.replicate 8 0), shortOfferChars, withCrc [0x08, 0x6E, 0x3F, 2, 0xE2, 0xA7]]

theorem test_hyps_LossToSameRequestBeats_frames :
    (∀ chars ∈ winningFrames, ReadsBack chars ∧ (((lineFrame chars).crcGood && decide ((lineFrame chars).kindCode = 1#4) &&
      decide ((lineFrame chars).data.length = 12) && decide (ridOfBytes ((lineFrame chars).data.getD 0 0) ((lineFrame chars).data.getD 1 0) = rid)) = false)) ∧
    winningFrames.map (fun chars => let f := lineFrame chars
      (f.crcGood, targeted lostOffer f.target, Kind.ofCode f.kindCode)) =
      [(false, true, some .request), (true, true, none), (true, false, some .meter), (true, true, some .cancel),
        (true, true, some .demand), (true, true, some .offer), (true, true, some .offer), (true, true, some .cancel)] ∧
    (ridOfBytes ((lineFrame shortOfferChars).data.getD 0 0) ((lineFrame shortOfferChars).data.getD 1 0) = rid ∧
      Kind.offer.sizeFits (lineFrame shortOfferChars).data.length = false) ∧
    Kind.cancel.sizeFits 3 = false ∧ lostOffer.entry? (ridOfBytes 0x10 1) = none := by decide +kernel

/-- Log 13: an OFFER of a wrong length for the same request is a try, counted as malformed. -/
theorem test_wrong_length_offer_is_a_try :
    let s := after (.frameReceived (onLine shortOfferChars)) lostOffer
    s.ofe.book.map (fun e => (e.state, e.tries)) = [(.contending, 1)] ∧ s.count .malformed = 1 := by decide +kernel

/-- R131: a frame with a bad CRC is a try; a CANCEL of the request takes effect after the report. -/
theorem test_loss_is_a_try :
    (let s := after (.frameReceived (onLine (requestChars.set 12 0))) lostOffer
     s.ofe.book.map (fun e => (e.state, e.tries)) = [(.contending, 1)] ∧ s.lif.register = some (regOf 38)) ∧
    (let s := after (.frameReceived (onLine (withCrc [0x08, 0x6E, 0x3F, 2, 0xE2, 0xA7]))) lostOffer
     s.ofe.book.map (fun e => e.state) = [.cancelled] ∧ s.lif.register = none) := by decide +kernel

theorem test_hyps_StationClashIsFlaggedAndNotRetried :
    (lifRuns (sendingOffer .free false) = true ∧ (sendingOffer .free false).lif.tx = some ⟨.register, [38]⟩ ∧
      (sendingOffer .free false).counters.length = 32 ∧
      (sendingOffer .free false).entry? rid = some (ent .contending)) ∧
    (lifRuns { work [hole] [] with lif.clashFlag := true, lif.clashTimer := some 60000 } = true) ∧
    (∃ t, exec (.start 4 false) (work [hole] []) = .next t) := ⟨by decide, by decide, ⟨_, rfl⟩⟩

/-- A stored request's gap, its entry under evaluation, in a station state. -/
def gapIn (st : StationState) (driving : Option ReqId) : State :=
  let s := work [hole] [ent .evaluating]
  { s with lif.mark := some ⟨rid, false, false⟩, lif.stretch := driving, lif.cond := .space, sul.state := st }

theorem test_hyps_StretchDrivesAndLetsGo :
    let meets (s : State) : Prop := lifRuns s = true ∧ s.lif.cond = .space ∧ s.lif.tx = none ∧ s.lif.stretch = none ∧
      s.lif.mark = some ⟨rid, false, false⟩ ∧ s.entry? rid = some (ent .evaluating)
    meets (gapIn .active none) ∧ meets (gapIn .joining none) ∧
    (let u := { gapIn .active (some rid) with ofe.evaluation := some ⟨viewA 3000, 1500⟩ }
     lifRuns u = true ∧ u.core = true ∧ u.lif.stretch = some rid ∧ (viewA 3000).rid = rid ∧
      u.ofe.evaluation = some ⟨viewA 3000, 1500⟩ ∧ u.entry? rid = some (ent .evaluating) ∧
      (ent .evaluating).state = .evaluating ∧ u.counters.length = 32) := by decide

theorem test_hyps_LineHoldPausesCharging :
    let meets (s : State) : Prop := lifRuns s = true ∧ s.lif.cond ≠ .hold ∧ s.lif.stretch = none ∧ s.lif.tx = none ∧
      s.lif.lossPending = false ∧ operates s = true
    (meets busyCabinet ∧ busyCabinet.lif.linePause = false) ∧
    (meets { busyCabinet with lif.linePause := true, lif.pauseTimer := some 2000 }) ∧
    lifRuns { busyCabinet with lif.cond := .hold } = true ∧ busyCabinet.lif.cond = .idle := by decide

/-- The states in which the counts of a line hold differ: a frame received, a tail in SPACE, a frame sent from the queue and
from the register, a loss that waits for its report. -/
theorem test_hyps_LineHoldPausesCharging_counts :
    ∀ s ∈ [busyCabinet, { busyCabinet with lif.cond := .space }, sendingQueue, sendingOffer .free false, lostOffer],
      lifRuns s = true ∧ s.lif.cond ≠ .hold ∧ s.lif.stretch = none := by decide

/-- The same for the counts of reception errors while a loss waits, and of a framing error of a frame sent. -/
theorem test_hyps_ReceptionErrorsAreCounted_loss :
    (listening lostOffer = true ∧ receiving lostOffer = true ∧ lostOffer.lif.lossPending = true) ∧
    (lifRuns { lostOffer with lif.malformed := true } = true) ∧
    ((after (.framingError true) sendingQueue).count .framing = 1 ∧
      (after (.framingError true) sendingQueue).count .noisy = 0) := by decide

/-- R23, R24, R33: what a hold counts as framing and noisy, in a frame received and sent; log 14: nothing in SPACE. -/
theorem test_lineHold_counts :
    let counts (s : State) (noisy later : Bool) : Half × Half :=
      let t := after (.lineHoldStart noisy later) s
      (t.count .framing, t.count .noisy)
    counts busyCabinet true true = (1, 1) ∧ counts busyCabinet true false = (0, 1) ∧
    counts sendingQueue true true = (1, 0) ∧ counts sendingQueue true false = (0, 0) ∧
    counts (sendingOffer .free false) true true = (1, 0) ∧
    counts { busyCabinet with lif.cond := .space } true true = (0, 0) := by decide +kernel

theorem test_hyps_EnqueuePlacesByTheRule :
    (work [] []).counters.length = 32 ∧
    (∃ e ∈ keptBeside.lif.queue, e.frame.kind = .demand ∧ inTransmission keptBeside.lif.tx e = true) ∧
    (∃ e ∈ (queued [demandOf 1]).lif.queue, e.frame.kind = .demand ∧
      inTransmission (queued [demandOf 1]).lif.tx e = false) ∧
    ((queued [closeOf, closeOf, status 1]).lif.queue.length = 3 ∧ closeOf.kind ≠ .demand) ∧
    (4 ≤ (queued [closeOf, closeOf, status 1, status 2]).lif.queue.length ∧ closeOf.kind = .close ∧
      newestStatus (queued [closeOf, closeOf, status 1, status 2]).lif = some 3) ∧
    (4 ≤ (queued [closeOf, closeOf, closeOf, closeOf]).lif.queue.length ∧
      newestStatus (queued [closeOf, closeOf, closeOf, closeOf]).lif = none) ∧
    ((status 1).kind ≠ .close ∧ (status 1).kind ≠ .decline ∧ (status 1).kind ≠ .demand) := by decide

/-! ### Hypotheses that are met: requests, offers, assignment -/

/-- Fifteen terminal entries of other requests. -/
def fifteen : List Entry :=
  (List.range 15).map (fun n => { ent .done with rid := ⟨3, BitVec.ofNat 12 n⟩, linger := some 0 })

/-- An entry of another request. -/
def other (st : EntryState) : Entry := { ent st with rid := ⟨5, 5⟩ }

theorem test_hyps_RequestEntersTheBook :
    (∀ s ∈ [work [hole] fifteen, work [hole] (fifteen ++ [other .held]), work [hole] (fifteen ++ [ent .unassigned]),
        { work [hole] fifteen with ofe := ⟨fifteen, some ⟨viewA 3000, 250⟩⟩ }],
      operates s = true ∧ FrameMayEnd s ∧ ∀ x ∈ s.ofe.book, x.state ≠ .heard) ∧
    ((work [hole] fifteen).entry? ⟨14, 0x2A7⟩ = none ∧ fifteen.length < 16 ∧ (3#8).toNat < 4 ∧ (0#8).toNat < 4) ∧
    ((work [hole] (fifteen ++ [other .held])).entry? ⟨14, 0x2A7⟩ = none ∧
      16 ≤ (fifteen ++ [other .held]).length ∧
      fifteen ++ [other .held] = [] ++ { ent .done with rid := ⟨3, 0⟩, linger := some 0 } ::
        (fifteen.tail ++ [other .held]) ∧ (ent .done).state.live = false) ∧
    ((work [hole] (fifteen ++ [ent .unassigned])).entry? ⟨14, 0x2A7⟩ = some (ent .unassigned) ∧
      (ent .unassigned).attempt < 2) := by decide

/-- A book full of live entries. -/
def fullBook : List Entry := (List.range 16).map (fun n => { ent .held with rid := ⟨3, BitVec.ofNat 12 n⟩ })

theorem test_hyps_RequestNotEntered :
    (∀ b ∈ [[ent .serving], [ent .done], [ent .unassigned], fullBook],
      operates (work [hole] b) = true ∧ FrameMayEnd (work [hole] b) ∧ ∀ e ∈ b, e.state ≠ .heard) ∧
    NothingDue (work [hole] fullBook) ∧ (rid.term ≠ 13#4 ∧ 4 ≤ (4#8).toNat) ∧
    (rid.term = 14#4 ∧ (3#8).toNat < 4 ∧ (work [hole] [ent .serving]).entry? rid = some (ent .serving) ∧
      (ent .serving).state.live = true ∧ 1#8 ≤ (ent .unassigned).attempt) ∧
    ((work [hole] fullBook).entry? rid = none ∧ 16 ≤ fullBook.length ∧ ∀ e ∈ fullBook, e.state.live = true) :=
  ⟨by decide, nothingDue_of _ rfl (by decide) rfl, by decide, by decide, by decide⟩

/-- An evaluation of the request in progress, with or without an OFFER in the register. -/
def evaluatingWith (grant : Nat) (docks : Nat) (r : Option Register) : State :=
  { work [hole] [{ ent .evaluating with offer := none }] with
    ofe.evaluation := some ⟨{ viewA grant with promised := docks }, 1500⟩, lif.register := r }

theorem test_hyps_EvaluationEndSettlesTheEntry :
    let meets (s : State) (v : EvalView) : Prop := operates s = true ∧ s.ofe.evaluation = some ⟨v, 1500⟩ ∧
      s.entry? v.rid = some { ent .evaluating with offer := none }
    (meets (evaluatingWith 3000 2 none) { viewA 3000 with promised := 2 } ∧
      evaluate (work [hole] []).sul.cfg { viewA 3000 with promised := 2 } = none) ∧
    (meets (evaluatingWith 3000 1 none) { viewA 3000 with promised := 1 } ∧
      (evaluate (work [hole] []).sul.cfg { viewA 3000 with promised := 1 }).isSome = true ∧
      ({ ent .evaluating with offer := none } : Entry).winner = none ∧ (evaluatingWith 3000 1 none).lif.register = none) ∧
    (meets (evaluatingWith 3000 1 (some (regOf 38))) { viewA 3000 with promised := 1 } ∧
      (evaluatingWith 3000 1 (some (regOf 38))).lif.register.isSome = true) := by decide

/-- The evaluation's entry holds a winner already, or has been cancelled. -/
theorem test_hyps_EvaluationEndSettlesTheEntry_winner :
    (let e : Entry := { ent .evaluating with winner := some ⟨9, some 20⟩ }
     let s := { evaluatingWith 3000 1 none with ofe.book := [e] }
     operates s = true ∧ s.entry? rid = some e ∧ e.state = .evaluating ∧ e.winner.isSome = true ∧
      s.ofe.evaluation = some ⟨{ viewA 3000 with promised := 1 }, 1500⟩ ∧ (viewA 3000).rid = rid) ∧
    (let s := { evaluatingWith 3000 1 none with ofe.book := [ent .cancelled] }
     s.core = true ∧ s.ofe.evaluation.isSome = true ∧ s.entry? (viewA 3000).rid = some (ent .cancelled) ∧
      (ent .cancelled).state ≠ .evaluating) := by decide

/-- R128: with a winner recorded during the evaluation the entry is BEATEN and no OFFER is placed. -/
theorem test_evaluation_beaten :
    let s := after .evaluationEnd { evaluatingWith 3000 1 none with
      ofe.book := [{ ent .evaluating with winner := some ⟨9, some 20⟩ }] }
    s.ofe.book.map (fun e => (e.state, e.winner)) = [(.beaten, some ⟨9, some 20⟩)] ∧ s.lif.register = none := by decide

theorem test_hyps_CandidateIsTheBestEligible :
    (evaluate (cfgFor 6) (viewA 3000)).isSome = true ∧
    (judgeSlot (cfgFor 6) (viewA 3000) 0 ((viewA 3000).slots.getD 0 ⟨.empty, none, false, .free, .none⟩)).isSome = true ∧
    (let v := { viewA 3000 with packClass := 2 }
     evaluate (cfgFor 6) v = none ∧ v.station = .active ∧ 1 ≤ dockCount v) := by decide

theorem test_hyps_WaitWearAndFillTerms :
    ((60 : Nat) ≤ 60 ∧ (0 : Nat) ≤ 1000 ∧ (1000 : Nat) ≤ 1000) ∧
    prospectiveReady (cfgFor 6) (viewA 350).grant (viewA 350).slots 0 (pk 100 1 820 88 31 700) = 1023 ∧
    (judgeSlot (cfgFor 6) (viewA 3000) 1 ((viewA 3000).slots.getD 1 ⟨.empty, none, false, .free, .none⟩)).isSome = true ∧
    (work [full (pk 1 1 500 90 20 0)] []).slots[0]? = some (full (pk 1 1 500 90 20 0)) ∧
    (full (pk 1 1 500 90 20 0)).cond = .occupied := by decide

/-- R104: a reservation of a standard rider with an ETA above 0 whose class has one releasable FREE pack, or none, carries the
penalty under a floor of 1; one with two such packs, or of a fleet rider, does not. -/
theorem test_hyps_WaitWearAndFillTerms_reserve :
    let sv (r : Role) : SlotView := ⟨.occupied, some (pk 1 1 950 91 29 0), false, r, .none⟩
    let v (l : List SlotView) : EvalView := { viewA 3000 with slots := l, kind := .reservation, rider := .standard, eta := 15 }
    TakesReserve (cfgFor 6) (v []) ∧ TakesReserve (cfgFor 6) (v [sv .free, sv .held]) ∧
    ¬ TakesReserve (cfgFor 6) (v [sv .free, sv .free]) ∧ ¬ TakesReserve (cfgFor 6) { v [] with rider := .fleet } := by decide

theorem test_hyps_ReadyEstimateCoversTheCharge :
    cls1.release ≤ 900 ∧ 899 < cls1.release ∧ (0 < 1200 ∧ 0 < cls1.capacity) := by decide

theorem test_hyps_ForeignOfferBeatsAContender :
    let s := fun st => work [hole] [ent st]
    (operates (s .contending) = true ∧ FrameMayEnd (s .contending) ∧
      (s .contending).entry? rid = some (ent .contending) ∧ 254#8 ≠ 255#8 ∧ 254#8 = 254#8 ∧ (253#8 ≠ 254#8)) ∧
    ((s .offered).entry? rid = some (ent .offered) ∧ FrameMayEnd (s .offered) ∧ operates (s .offered) = true) ∧
    NothingDue (s .contending) ∧ NothingDue (s .offered) :=
  ⟨by decide, by decide, nothingDue_of _ rfl (by decide) rfl, nothingDue_of _ rfl (by decide) rfl⟩

/-- A request HEARD behind another evaluation, under evaluation, terminal, and unknown. -/
theorem test_hyps_ForeignOfferBeatsAContender_noted :
    (∀ b ∈ [[ent .evaluating], [{ ent .satOut with winner := some ⟨3, none⟩ }], [ent .done], []],
      operates (work [hole] b) = true ∧ FrameMayEnd (work [hole] b)) ∧
    (let s := { work [hole] [ent .heard] with ofe.evaluation := some ⟨viewA 3000, 250⟩ }
     operates s = true ∧ FrameMayEnd s ∧ s.entry? rid = some (ent .heard)) ∧
    (work [hole] []).entry? rid = none ∧ NothingDue (work [hole] []) ∧ NothingDue (work [hole] [ent .evaluating]) ∧
    NothingDue (work [hole] [ent .done]) ∧
    NothingDue { work [hole] [ent .heard] with ofe.evaluation := some ⟨viewA 3000, 250⟩ } :=
  ⟨by decide, by decide, by decide, nothingDue_of _ rfl (by decide) rfl, nothingDue_of _ rfl (by decide) rfl,
    nothingDue_of _ rfl (by decide) rfl,
    fun _ => ⟨fun h => absurd h (by decide), fun h => absurd h (by decide), fun _ _ _ h => by cases h⟩⟩

/-- The pledged cabinet with the cut of the pledged slot tripped, the slot in a role. -/
def failedPledge (r : Role) : State :=
  { pledgedCabinet with slots := [{ inRole (full (pk 100 1 930 91 29 1300)) r rid with cut := true }, hole] }

/-- A slot that fails the re-check frees its pledge and draws DECLINE NOT_ELIGIBLE (R137). -/
theorem test_assign_recheck_fails :
    let s := after (.assign rid 4 0) (failedPledge .pledged)
    s.ofe.book.map (fun e => e.state) = [.unassigned] ∧ s.slots.map (fun sl => sl.role) = [.free, .free] ∧
    s.count .declineNotEligible = 1 := by decide

theorem test_hyps_AssignMakesTheHold :
    (operates pledgedCabinet = true ∧ FrameMayEnd pledgedCabinet ∧ (4#8).toNat = pledgedCabinet.sul.station.toNat ∧
      pledgedCabinet.entry? rid = some { ent .offered with pledgeTimer := some 3000 } ∧
      recheck { ent .offered with pledgeTimer := some 3000 } ⟨0, 38, 100⟩ pledgedCabinet = true) ∧
    (∀ r, some r ∈ pledgedCabinet.rhs.holds → r.rid ≠ rid) ∧
    (∀ s ∈ [failedPledge .pledged, failedPledge .releasing], operates s = true ∧ FrameMayEnd s ∧
      s.entry? rid = some { ent .offered with pledgeTimer := some 3000 } ∧
      recheck { ent .offered with pledgeTimer := some 3000 } ⟨0, 38, 100⟩ s = false ∧
      s.slots[0]?.map (fun sl => sl.rid) = some (some rid)) := ⟨by decide, by simp [pledgedCabinet], by decide⟩

/-- The pledged slot of `pledgedCabinet`. -/
def pledgedSlot : Slot := inRole (full (pk 100 1 930 91 29 1300)) .pledged rid

theorem test_hyps_AssignElsewhereEndsInterest :
    (operates pledgedCabinet = true ∧ FrameMayEnd pledgedCabinet ∧ (15#8).toNat ≤ 15 ∧
      (15#8).toNat ≠ pledgedCabinet.sul.station.toNat ∧ pledgedCabinet.slots[0]? = some pledgedSlot ∧
      pledgedSlot.role = .pledged ∧ pledgedSlot.rid = some rid ∧
      pledgedCabinet.entry? rid = some { ent .offered with pledgeTimer := some 3000 }) ∧
    (operates heldCabinet = true ∧ FrameMayEnd heldCabinet ∧ heldCabinet.entry? rid = some heldEnt ∧
      heldEnt.state = .held) ∧
    NothingDue pledgedCabinet ∧ NothingDue heldCabinet :=
  ⟨by decide, by decide, nothingDue_of _ rfl (by decide) rfl, nothingDue_of _ rfl (by decide) rfl⟩

/-- Entries in the other states, with the chosen station 15 and an earlier winner that is the same or another. -/
theorem test_hyps_AssignElsewhereEndsInterest_states :
    (∀ e ∈ [ent .evaluating, ent .contending, { ent .satOut with winner := some ⟨15, some 20⟩, linger := some 7 },
        { ent .beaten with winner := some ⟨9, some 20⟩ }, ent .unassigned, ent .done],
      operates (work [hole] [e]) = true ∧ FrameMayEnd (work [hole] [e]) ∧ (work [hole] [e]).entry? rid = some e ∧
      (work [hole] [e]).pln.replan = false ∧ (work [hole] [e]).svy.gap = .inPass ∧ e.state ≠ .heard) ∧
    (work [hole] []).entry? rid = none ∧ (15#8).toNat ≠ (work [hole] []).sul.station.toNat ∧
    (15#4).toNat = (15#8).toNat ∧ (9#4).toNat ≠ (15#8).toNat ∧ NothingDue (work [hole] [ent .contending]) :=
  ⟨by decide, by decide, by decide, by decide, by decide, nothingDue_of _ rfl (by decide) rfl⟩

/-- R140: an ASSIGN for the earlier winner keeps its score; one for another station has none. -/
theorem test_elsewhere_score :
    (∀ x ∈ [(15#8, some 20), (9#8, none)],
      (after (.assignOther rid x.1 0) (work [hole] [{ ent .beaten with winner := some ⟨15, some 20⟩ }])).ofe.book.map
        (fun e => (e.state, e.winner.bind (fun w => w.score))) = [(.elsewhere, x.2)]) := by decide

theorem test_hyps_PledgeExpiryFreesTheSlot :
    operates pledgedCabinet = true ∧ pledgedCabinet.entry? rid = some { ent .offered with pledgeTimer := some 3000 } ∧
    pledgedCabinet.slots[0]? = some pledgedSlot ∧ pledgedSlot.role = .pledged ∧ pledgedSlot.rid = some rid := by decide

/-- The held slot of `heldCabinet`. -/
def heldSlot : Slot := inRole (full (pk 100 1 930 91 29 1300)) .held rid

/-- The held cabinet at the second of its deadline. -/
def dueCabinet : State := { heldCabinet with rhs.seconds := 6020 }

theorem test_hyps_HoldLapsesAtItsDeadline :
    operates dueCabinet = true ∧ dueCabinet.ofe.book.filter (holdDue dueCabinet.rhs.seconds) = [heldEnt] ∧
    dueCabinet.entry? heldEnt.rid = some heldEnt ∧ heldEnt.heldSlot = some 0 ∧ dueCabinet.slots[0]? = some heldSlot ∧
    heldSlot.role = .held ∧ heldSlot.rid = some heldEnt.rid := by decide

/-- Two holds due at one expiry, and one that is not. -/
def twoDue : State :=
  let e1 : Entry := { heldEnt with rid := ⟨3, 1⟩, heldSlot := some 1 }
  let e2 : Entry := { heldEnt with rid := ⟨3, 2⟩, heldSlot := some 2, holdTimer := some 7000 }
  { dueCabinet with
    slots := [heldSlot, { heldSlot with rid := some ⟨3, 1⟩ }, { heldSlot with rid := some ⟨3, 2⟩ }]
    ofe := ⟨[heldEnt, e1, e2], none⟩ }

theorem test_hyps_HoldLapsesAtItsDeadline_several :
    operates twoDue = true ∧ RequestIdsUnique twoDue ∧
    (twoDue.ofe.book.filter (holdDue twoDue.rhs.seconds)).map (fun e => e.rid) = [rid, ⟨3, 1⟩] ∧
    twoDue.slots[2]?.map (fun sl => sl.rid) = some (some ⟨3, 2⟩) := by decide

/-- R141: several holds lapse one after another in book order, each with its CLOSE. -/
theorem test_two_holds_lapse :
    let s := after .holdTimerExpiry twoDue
    s.ofe.book.map (fun e => e.state) = [.lapsed, .lapsed, .held] ∧
    s.slots.map (fun sl => sl.role) = [.free, .free, .held] ∧
    (frames s).map (fun f => f.data.take 2) = [ridBytes rid, ridBytes ⟨3, 1⟩] ∧ s.count .lapsed = 2 := by decide

theorem test_hyps_UpdateMovesTheDeadline :
    (operates heldCabinet = true ∧ FrameMayEnd heldCabinet ∧ heldCabinet.entry? rid = some heldEnt ∧
      some (⟨rid, 0, 6020, 1, 1, .standard, 12⟩ : HoldRecord) ∈ heldCabinet.rhs.holds ∧ RequestIdsUnique heldCabinet ∧
      heldCabinet.entry? ⟨1, 1⟩ = none) ∧ NothingDue heldCabinet ∧
    ((work [hole] [ent .done]).entry? rid = some (ent .done) ∧ (ent .done).state.live = false) ∧
    (work [hole] [ent .contending]).entry? rid = some (ent .contending) ∧ NothingDue (work [hole] [ent .done]) ∧
    NothingDue (work [hole] [ent .contending]) :=
  ⟨by decide, nothingDue_of _ rfl (by decide) rfl, by decide, by decide, nothingDue_of _ rfl (by decide) rfl,
    nothingDue_of _ rfl (by decide) rfl⟩


/-! ### Hypotheses that are met: swaps -/

theorem test_hyps_BeginOpensTheReturn :
    (∀ s ∈ [heldCabinet, { heldCabinet with slots := [heldSlot, full (pk 7 1 300 90 25 9)] },
        { heldCabinet with seq := Seq.initial }],
      operates s = true ∧ FrameMayEnd s ∧ (4#8).toNat = s.sul.station.toNat ∧ s.entry? rid = some heldEnt ∧
      heldEnt.heldSlot = some 0 ∧ s.sul.state = .active ∧ s.seq.active = none ∧ s.seq.queue = []) ∧
    (heldCabinet.seq.firstPassSeen = true ∧ heldCabinet.slots[1]? = some hole ∧ hole.cond = .empty ∧
      hole.role = .free ∧ NothingDue heldCabinet ∧ Seq.initial.firstPassSeen = false) ∧
    (∀ x ∈ [heldSlot, full (pk 7 1 300 90 25 9)], ¬ (x.cond = .empty ∧ x.role = .free)) ∧
    (let s := { heldCabinet with sul.state := .joining, seq.queue := [⟨1, 2⟩] }
     operates s = true ∧ FrameMayEnd s ∧ s.entry? rid = some heldEnt ∧ s.sul.state = .joining ∧ s.seq.active = none) ∧
    ∀ (m : Nat) (x : Slot), m < 1 → heldCabinet.slots[m]? = some x → ¬ (x.cond = .empty ∧ x.role = .free) := by
  refine ⟨by decide, ⟨rfl, rfl, rfl, rfl, nothingDue_of _ rfl (by decide) rfl, rfl⟩, by decide, by decide, ?_⟩
  intro m x hm hx
  obtain rfl : m = 0 := by omega
  obtain rfl : heldSlot = x := Option.some.inj hx
  decide

/-- The held cabinet in a station state, its sequencer busy with another request or with requests queued. -/
def busyWith (st : StationState) (q : List ReqId) : State :=
  { heldCabinet with
    sul := { heldCabinet.sul with state := st },
    seq := { Seq.initial with active := some ⟨⟨1, 1⟩, .startingWait, none, 0, none, none, none, none⟩, queue := q } }

theorem test_hyps_BeginQueuedOrDeclined :
    (∀ s ∈ [heldCabinet, busyWith .withdrawn [], busyWith .holdup [], busyWith .active [⟨1, 2⟩],
        busyWith .joining [⟨1, 2⟩, ⟨1, 3⟩]],
      operates s = true ∧ FrameMayEnd s ∧ s.entry? rid = some heldEnt ∧ s.entry? ⟨9, 9⟩ = none ∧
      targeted s 0x22 = true ∧ (0x22#8).toNat ≠ s.sul.station.toNat ∧ (4#8).toNat = s.sul.station.toNat) ∧
    (busyWith .active [⟨1, 2⟩]).seq.queue.length < 2 ∧ rid ∉ (busyWith .active [⟨1, 2⟩]).seq.queue ∧
    2 ≤ (busyWith .joining [⟨1, 2⟩, ⟨1, 3⟩]).seq.queue.length ∧ (busyWith .active []).seq.active.isSome = true ∧
    (work [hole] [ent .unassigned]).entry? rid = some (ent .unassigned) ∧ 15 < (16#8).toNat := by decide

theorem test_hyps_BeginQueuedOrDeclined_nothingDue :
    NothingDue heldCabinet ∧ NothingDue (busyWith .active [⟨1, 2⟩]) ∧ NothingDue (busyWith .joining [⟨1, 2⟩, ⟨1, 3⟩]) ∧
    NothingDue (work [hole] [ent .unassigned]) :=
  ⟨nothingDue_of _ rfl (by decide) rfl, nothingDue_of _ rfl (by decide) rfl, nothingDue_of _ rfl (by decide) rfl,
    nothingDue_of _ rfl (by decide) rfl⟩

/-- A swap in a step, dock 1, release slot 0, with a pack in the dock and a step timer. -/
def swapAt (st : SwapStep) (tm : StepTimer × Nat) (dockRole releaseRole : Role) : State :=
  { openCabinet with
    slots := [inRole (full (pk 100 1 930 91 29 1300)) releaseRole rid, inRole (full (pk 7 1 300 90 25 9)) dockRole rid],
    seq := { openCabinet.seq with timer := some tm, active := some ⟨rid, st, some 1, 0, none, none, none, none⟩ } }

/-- The swap of the held request, in a step, the release slot 0 and the dock 1 as given, another pack in slot 2, and a survey
step in progress on slot `n`. -/
def visiting (n : Nat) (st : SwapStep) (abort : Option AbortReason) (release dock third : Slot) : State :=
  { openCabinet with
    slots := [release, dock, third, hole],
    seq := { openCabinet.seq with active := some ⟨rid, st, some 1, 0, none, none, abort, none⟩ },
    svy := { openCabinet.svy with step := some ⟨n, .regular, true, 60⟩ }, pending := [] }

/-- A swap resumed at a warm start, waiting in STARTING_WAIT for the first pass's last step, a confirm step on slot 2. -/
def resumedAt (p : ProgressStep) (taken : Word) (release : Slot) : State :=
  { openCabinet with
    slots := [release, inRole hole .dock rid, hole],
    seq := { Seq.initial with
      active := some ⟨rid, .startingWait, some 1, 0, if taken = 0 then none else some taken, none, none, some p⟩ },
    svy := { Svy.initial with step := some ⟨2, .confirm, true, 60⟩, next := 2 }, pending := [] }

/-- The held request queued behind another swap. -/
def queuedCabinet : State :=
  { openCabinet with seq := { openCabinet.seq with
      active := some ⟨⟨1, 1⟩, .startingWait, none, 1, none, none, none, none⟩, queue := [rid] } }

theorem test_hyps_CancelReleasesTheHold :
    (operates heldCabinet = true ∧ FrameMayEnd heldCabinet ∧ heldCabinet.entry? rid = some heldEnt ∧
      heldEnt.heldSlot = some 0 ∧ heldCabinet.slots[0]? = some heldSlot ∧ heldSlot.role = .held ∧
      heldSlot.rid = some rid ∧ heldCabinet.entry? ⟨1, 1⟩ = none) ∧ NothingDue heldCabinet ∧
    (∀ s ∈ [queuedCabinet, openCabinet, resumedAt .returnOpen 0 heldSlot, resumedAt .rejectOut 0 heldSlot,
        swapAt .returnCheck (.check, 10000) .dock .held],
      operates s = true ∧ FrameMayEnd s ∧ s.slots[0]? = some heldSlot ∧
      (s.entry? rid).map (fun e => (e.state, e.heldSlot)) = some (.serving, some 0)) ∧
    (rid ∈ queuedCabinet.seq.queue ∧ queuedCabinet.seq.active.map (fun w => w.rid) = some ⟨1, 1⟩) ∧
    (∀ s ∈ [openCabinet, resumedAt .returnOpen 0 heldSlot, resumedAt .rejectOut 0 heldSlot,
        swapAt .returnCheck (.check, 10000) .dock .held],
      s.seq.queue = [] ∧ s.seq.active.map (fun w => (w.rid, w.dock, w.release)) = some (rid, some 1, 0)) ∧
    NothingDue (resumedAt .rejectOut 0 heldSlot) ∧ NothingDue (swapAt .returnCheck (.check, 10000) .dock .held) :=
  ⟨by decide, nothingDue_of _ rfl (by decide) rfl, by decide, by decide, by decide, nothingDue_of _ rfl (by decide) rfl,
    nothingDue_of _ rfl (by decide) rfl⟩

/-- The held request fresh in STARTING_WAIT, with requests in the serve queue, in a station state. -/
def waitingWith (st : StationState) (q : List ReqId) : State :=
  { openCabinet with
    slots := [heldSlot, inRole (full (pk 200 1 950 91 29 0)) .held ⟨3, 1⟩, hole]
    ofe := ⟨[{ heldEnt with state := .serving, servePos := some .active, holdTimer := none },
      { heldEnt with rid := ⟨3, 1⟩, state := .serving, heldSlot := some 1, servePos := some .queued1 }], none⟩
    seq := { Seq.initial with active := some ⟨rid, .startingWait, none, 0, none, none, none, none⟩, queue := q }
    sul := { openCabinet.sul with state := st } }

theorem test_hyps_CancelReleasesTheHold_states :
    (∀ e ∈ [ent .heard, ent .evaluating, ent .contending, ent .done],
      operates (work [hole] [e]) = true ∧ FrameMayEnd (work [hole] [e]) ∧ (work [hole] [e]).entry? rid = some e) ∧
    NothingDue (work [hole] [ent .done]) ∧ (ent .done).state.live = false ∧
    (operates pledgedCabinet = true ∧ FrameMayEnd pledgedCabinet ∧
      pledgedCabinet.entry? rid = some { ent .offered with pledgeTimer := some 3000 } ∧
      pledgedCabinet.slots[0]? = some pledgedSlot) ∧
    (∀ s ∈ [waitingWith .active [], waitingWith .active [⟨3, 1⟩], waitingWith .joining [⟨3, 1⟩]],
      operates s = true ∧ FrameMayEnd s ∧ RequestIdsUnique s ∧ rid ∉ s.seq.queue ∧
      (s.entry? rid).map (fun e => (e.state, e.heldSlot)) = some (.serving, some 0) ∧
      s.slots[0]? = some heldSlot ∧ s.seq.firstPassSeen = false ∧
      s.seq.active = some ⟨rid, .startingWait, none, 0, none, none, none, none⟩) :=
  ⟨by decide, nothingDue_of _ rfl (by decide) rfl, by decide, by decide, by decide⟩

/-- R160: a CANCEL of a fresh swap frees its slot, sends nothing, and the queued request becomes the active one. -/
theorem test_cancel_startingWait :
    let s := after (.cancel rid) (waitingWith .active [⟨3, 1⟩])
    s.seq.active = some ⟨⟨3, 1⟩, .startingWait, none, 1, none, none, none, none⟩ ∧ s.seq.queue = [] ∧
    s.ofe.book.map (fun e => (e.state, e.servePos)) = [(.cancelled, none), (.serving, some .active)] ∧
    s.slots.map (fun sl => sl.role) = [.free, .held, .free] ∧ s.lif.queue = [] := by decide

/-- The dock of the held request with a pack in it, the latch UNLOCKED. -/
def dockWith (c : Cond) (p : Option Pack) (present absent : Nat) : Slot :=
  { inRole { hole with cond := c, pack := p, presentCount := present, absentCount := absent } .dock rid with
    unlocked := true }

/-- The return of class 1 that the rider announced. -/
def returned : Pack := pk 7 1 300 90 25 700

/-- The release slot with its pack at an SoC, in a role. -/
def releaseAt (soc : Nat) (r : Role) : Slot := inRole (full (pk 100 1 soc 91 29 1300)) r rid

/-- R149, R152, R156: the accepted return locks the dock and opens the releasable pack's slot. -/
theorem test_return_accepted :
    let s := after (.surveyStepEnd true (onLink (reply 7 300)) false)
      (visiting 1 .returnCheck none (releaseAt 930 .held) (dockWith .settling none 1 0) hole)
    s.slots.map (fun sl => (sl.role, sl.unlocked)) =
      [(.releasing, true), (.free, false), (.free, false), (.free, false)] ∧
    s.seq.active = some ⟨rid, .releaseOpen, some 1, 0, some 7, some 100, none, none⟩ ∧
    s.seq.timer = some (.collect, 60000) ∧ s.svy.focus = some 0 := by decide +kernel

/-- R153: the release slot's cut is tripped; the substitute is the releasable pack of slot 2. -/
theorem test_return_substituted :
    let s := after (.surveyStepEnd true (onLink (reply 7 300)) false)
      (visiting 1 .returnCheck none { releaseAt 930 .held with cut := true } (dockWith .settling none 1 0)
        (full (pk 200 1 950 91 29 0)))
    s.slots.map (fun sl => (sl.role, sl.unlocked)) =
      [(.free, false), (.free, false), (.releasing, true), (.free, false)] ∧
    (s.entry? rid).map (fun e => e.heldSlot) = some (some 2) := by decide +kernel

/-- R174: a RETURN_OPEN resumed with its dock EMPTY opens the same dock with a fresh return timer. -/
theorem test_resume_returnOpen :
    let s := after (.surveyStepEnd false [] false) (resumedAt .returnOpen 0 (releaseAt 930 .held))
    s.seq.active = some ⟨rid, .returnOpen, some 1, 0, none, none, none, none⟩ ∧ s.seq.timer = some (.ret, 90000) ∧
    s.slots.map (fun sl => sl.unlocked) = [false, true, false] ∧ s.svy.focus = some 1 := by decide

theorem test_hyps_StepTimersEndTheirSteps :
    ∀ x ∈ [(swapAt .returnOpen (.ret, 90000) .dock .held, SwapStep.returnOpen, Role.dock, Role.held),
        (swapAt .returnCheck (.check, 10000) .dock .held, .returnCheck, .dock, .held),
        (swapAt .rejectOut (.removal, 60000) .dock .held, .rejectOut, .dock, .held),
        (swapAt .releaseWait (.wait, 600000) .free .held, .releaseWait, .free, .held),
        (swapAt .releaseOpen (.collect, 60000) .free .releasing, .releaseOpen, .free, .releasing)],
      operates x.1 = true ∧ x.1.seq.queue = [] ∧
      x.1.seq.active = some ⟨rid, x.2.1, some 1, 0, none, none, none, none⟩ ∧
      (x.1.entry? rid).isSome = true ∧ x.1.slots[1]? = some (inRole (full (pk 7 1 300 90 25 9)) x.2.2.1 rid) ∧
      x.1.slots[0]? = some (inRole (full (pk 100 1 930 91 29 1300)) x.2.2.2 rid) := by decide

/-- A swap in a step with its timer, with two requests in the serve queue, the first pass seen or not, a bay EMPTY or not. -/
def queueBehind (st : SwapStep) (tm : StepTimer) (abort : Option AbortReason) (r : Role) (seen : Bool) (bay : Slot)
    (state : StationState) : State :=
  let q (n : BitVec 12) (slot : Nat) (p : ServePos) : Entry :=
    { heldEnt with rid := ⟨3, n⟩, state := .serving, heldSlot := some slot, servePos := some p, holdTimer := none }
  { openCabinet with
    slots := [releaseAt 930 r, dockWith .occupied (some returned) 2 0,
      inRole (full (pk 200 1 950 91 29 0)) .held ⟨3, 1⟩, bay]
    ofe := ⟨[{ heldEnt with state := .serving, servePos := some .active, holdTimer := none }, q 1 2 .queued1,
      q 2 2 .queued2], none⟩
    seq := ⟨some ⟨rid, st, some 1, 0, none, none, abort, none⟩, [⟨3, 1⟩, ⟨3, 2⟩], seen, some (tm, 9000)⟩
    sul := { openCabinet.sul with state := state } }

theorem test_hyps_StepTimersEndTheirSteps_queue :
    (∀ x ∈ [(SwapStep.returnOpen, StepTimer.ret, none, Role.held),
        (.giveBack, .removal, some AbortReason.noPack, .held), (.releaseOpen, .collect, none, .releasing)],
      ∀ y ∈ [(true, hole), (false, hole), (true, { hole with cond := .settling })],
      ∀ st ∈ [StationState.active, .withdrawn],
        let s := queueBehind x.1 x.2.1 x.2.2.1 x.2.2.2 y.1 y.2 st
        operates s = true ∧ RequestIdsUnique s ∧ rid ∉ s.seq.queue ∧ (s.entry? rid).isSome = true ∧
        s.seq.active = some ⟨rid, x.1, some 1, 0, none, none, x.2.2.1, none⟩ ∧
        s.slots[0]? = some (releaseAt 930 x.2.2.2) ∧ (s.slots[1]?).isSome = true ∧
        (s.entry? ⟨3, 1⟩).map (fun e => (e.state, e.heldSlot)) = some (.serving, some 2)) ∧
    IsDock [heldSlot, hole] 1 ∧ (∀ x ∈ [heldSlot], ¬ (x.cond = .empty ∧ x.role = .free)) := by
  refine ⟨by decide, ⟨⟨hole, rfl, rfl, rfl⟩, ?_⟩, by decide⟩
  intro m y hm hy
  obtain rfl : m = 0 := by omega
  cases hy
  decide

/-- R145, R147: at the swap's end the oldest queued request opens its return on the EMPTY bay, and the other moves up; in
WITHDRAWN the queue stays. -/
theorem test_queue_starts :
    (let s := after .collectTimerExpiry (queueBehind .releaseOpen .collect none .releasing true hole .active)
     s.seq.active = some ⟨⟨3, 1⟩, .returnOpen, some 3, 2, none, none, none, none⟩ ∧ s.seq.queue = [⟨3, 2⟩] ∧
      s.ofe.book.map (fun e => e.servePos) = [none, some .active, some .queued1]) ∧
    (let s := after .collectTimerExpiry (queueBehind .releaseOpen .collect none .releasing true hole .withdrawn)
     s.seq.active = none ∧ s.seq.queue = [⟨3, 1⟩, ⟨3, 2⟩]) := by decide

/-- The states from which the reports of a survey step reach the swap, one for each clause. -/
def reported : List (Nat × State) :=
  [(1, visiting 1 .returnOpen none (releaseAt 930 .held) (dockWith .empty none 0 2) hole),
    (1, visiting 1 .returnCheck none (releaseAt 930 .held) (dockWith .settling none 2 0) hole),
    (1, visiting 1 .returnCheck none (releaseAt 500 .held) (dockWith .settling none 1 0) hole),
    (1, visiting 1 .returnCheck none { releaseAt 930 .held with cut := true } (dockWith .settling none 1 0)
      (full (pk 200 1 950 91 29 0))),
    (1, visiting 1 .rejectOut none (releaseAt 930 .held) (dockWith .occupied (some returned) 2 1) hole),
    (0, visiting 0 .releaseWait none { releaseAt 500 .held with absentCount := 1 }
      (full returned) (full (pk 200 1 950 91 29 0))),
    (0, visiting 0 .releaseOpen none { releaseAt 930 .releasing with absentCount := 1, unlocked := true }
      (full returned) hole),
    (1, visiting 1 .giveBack (some .noPack) (releaseAt 930 .held) (dockWith .occupied (some returned) 2 1) hole)]

theorem test_hyps_StepTimersEndTheirSteps_reports :
    (∀ x ∈ reported, operates x.2 = true ∧ x.2.svy.step = some ⟨x.1, .regular, true, 60⟩ ∧ x.2.seq.queue = [] ∧
      x.2.seq.active.map (fun w => (w.rid, w.dock, w.release)) = some (rid, some 1, 0) ∧
      (x.2.entry? rid).map (fun e => e.returnClass) = some 1 ∧ x.2.slots[0]?.map (fun sl => sl.rid) = some (some rid) ∧
      x.2.slots[1]?.isSome = true) ∧
    (readReply (linkChars (onLink (reply 7 300))) = .valid returned ∧ returned.cls = 1 ∧ returned.ok = true ∧
      returned.temp < (60 : Nat) ∧ readReply (linkChars []) = .noReply) ∧
    (readReply (linkChars (onLink (reply 100 500))) = .valid (pk 100 1 500 90 25 700) ∧
      (releasable (cfgFor 4) 1 { releaseAt 500 .held with pack := some (pk 100 1 500 90 25 700) } = false ∧
        sound (cfgFor 4) 1 { releaseAt 500 .held with pack := some (pk 100 1 500 90 25 700) } = true) ∧
      releasable (cfgFor 4) 1 (releaseAt 930 .held) = true ∧
      sound (cfgFor 4) 1 { releaseAt 930 .held with cut := true } = false) := by decide +kernel

theorem test_hyps_StepTimersEndTheirSteps_more :
    ((visiting 1 .returnCheck none (releaseAt 930 .held) (dockWith .empty none 0 1) hole).slots[1]? =
      some (dockWith .empty none 0 1)) ∧
    ((swapAt .giveBack (.removal, 60000) .dock .held).seq.timer = some (.removal, 60000)) ∧
    IsSubstitute (visiting 1 .returnCheck none { releaseAt 930 .held with cut := true } (dockWith .settling none 1 0)
      (full (pk 200 1 950 91 29 0))) 1 1 2 (full (pk 200 1 950 91 29 0)) := by
  refine ⟨by decide, by decide, by decide, by decide, by decide, by decide, ?_⟩
  intro m y hy hm hr hrel
  have : m < 4 := (List.getElem?_eq_some_iff.1 hy).1
  obtain rfl | rfl | rfl | rfl : m = 0 ∨ m = 1 ∨ m = 2 ∨ m = 3 := by omega
  all_goals (cases Option.some.inj hy; revert hr hrel hm; decide)

/-! ### Hypotheses that are met: the survey, the cut, the door -/

/-- The slots that the clauses about a survey step start from. -/
def surveyed : List Slot :=
  [hole, { hole with cond := .settling, presentCount := 2 }, full (pk 7 1 820 90 25 700), forced,
    { forced with unlocked := true }, { hole with cond := .settling, presentCount := 1 }, full (pk 8 1 820 90 25 700)]

/-- UNREADABLE and FAULT slots, before and at their second absent visit. -/
def surveyedBad : List Slot :=
  [{ hole with cond := .unreadable }, { hole with cond := .unreadable, absentCount := 1 },
    { hole with cond := .fault, reason := some .packFault, absentCount := 1 },
    { hole with cond := .fault, reason := some .tamper, absentCount := 1 },
    { hole with cond := .fault, reason := some .tamper, absentCount := 1, doorCycle := true }]

theorem test_hyps_SurveyStepMovesTheCondition :
    (∀ sl ∈ surveyed ++ surveyedBad, operates (stepping 1 sl) = true ∧
      (stepping 1 sl).svy.step = some ⟨1, .regular, true, 60⟩ ∧ (stepping 1 sl).slots[1]? = some sl ∧
      (stepping 1 sl).seq.active = none ∧ (stepping 1 sl).counters.length = 32) ∧
    (readReply (linkChars (onLink (reply 7 820))) = .valid (pk 7 1 820 90 25 700) ∧ (pk 7 1 820 90 25 700).ok = true ∧
      ((pk 7 1 820 90 25 700).temp ≤ ((60 : Nat) : Int) - 5) ∧ (pk 8 1 820 90 25 700).id ≠ 7 ∧
      (readReply (linkChars (onLink ((reply 7 820).set 11 1))) = .badCrc) ∧ readReply (linkChars []) = .noReply) ∧
    (30 ≤ ((30 : Word) - 0).toNat ∧ ((29 : Word) - 0).toNat < 30) := by decide +kernel

/-- A swap runs in RETURN_OPEN on slots 1 and 0 while slot 2 is visited. -/
theorem test_hyps_SurveyStepMovesTheCondition_swap :
    let s := visiting 2 .returnOpen none (releaseAt 930 .held) (dockWith .empty none 0 2) hole
    s.seq.active = some ⟨rid, .returnOpen, some 1, 0, none, none, none, none⟩ ∧ s.slots[2]? = some hole ∧
    operates s = true := by decide

/-- R13: at an age of 30 s a visit without a reply makes FAULT(UNREADABLE_TIMEOUT); R13, R14: an exchanged pack in a slot
opened at its door goes to SETTLING, count 1. -/
theorem test_timeout_and_exchange :
    ((after (.surveyStepEnd true [] false) { stepping 1 (full (pk 7 1 820 90 25 700)) with
      rhs.seconds := 30 }).slots[1]?.map (fun sl => (sl.cond, sl.reason)) = some (.fault, some .unreadableTimeout)) ∧
    ((after (.surveyStepEnd true (onLink (reply 8 500)) false) (stepping 1 { full (pk 7 1 820 90 25 700) with
      unlocked := true })).slots[1]?.map (fun sl => (sl.cond, sl.presentCount, sl.pack)) =
        some (.settling, 1, none)) := by decide +kernel

/-- R18: a visit that sees presence sets the door-clear mark with the door closed and leaves it clear with the door open; R12:
the third unread visit makes UNREADABLE, counted. -/
theorem test_door_clear_and_unreadable :
    let visited (door : Bool) : State := after (.surveyStepEnd true [] false)
      (let s := stepping 1 { hole with cond := .settling, presentCount := 2, doorClear := false }
       { s with sul.doorOpen := door })
    ((visited false).slots[1]?.map (fun sl => (sl.cond, sl.doorClear)) = some (.unreadable, true)) ∧
    ((visited true).slots[1]?.map (fun sl => (sl.cond, sl.doorClear)) = some (.unreadable, false)) ∧
    (visited false).count .unreadable = 1 := by decide +kernel

theorem test_hyps_SurveyStepMovesTheCondition_fault :
    let r : List Byte := bytes32 7 ++ [1] ++ bytes16 820 ++ [90, 25] ++ bytes16 700 ++ [1]
    let r4 : List Byte := bytes32 7 ++ [4] ++ bytes16 820 ++ [90, 58] ++ bytes16 700 ++ [0]
    readReply (linkChars (onLink (r ++ [crc8 r]))) = .valid { pk 7 1 820 90 25 700 with ok := false } ∧
    readReply (linkChars (onLink (r4 ++ [crc8 r4]))) = .invalid := by decide +kernel

/-- No other slot of the state is a FREE slot with a pack. -/
abbrev NoSubstituteAt (s : State) (d : Nat) : Prop :=
  ∀ x ∈ s.slots.zipIdx, x.2 ≠ d → x.1.role = .free → releasable s.sul.cfg 1 x.1 = false

/-- A survey step on slot 1 of two EMPTY slots, before the first pass has ended. -/
def walking (k : StepKind) (f : Option Nat) (next : Nat) (g : Gap) (gap : Nat) : State :=
  let s := work [hole, hole] []
  { s with
    svy := ⟨some ⟨1, k, true, 60⟩, next, g, f, false, none⟩, seq := Seq.initial, sul.cfg.passGap := gap }

/-- GIVE_BACK has nothing to hand back: the slot of the accepted return is HELD for a later request, or EMPTY. -/
theorem test_hyps_StepTimersEndTheirSteps_givenAway :
    (∀ ds ∈ [inRole (full returned) .held ⟨3, 1⟩, hole],
      let s := visiting 0 .releaseWait none { releaseAt 500 .held with absentCount := 1 } ds hole
      operates s = true ∧ s.svy.step = some ⟨0, .regular, true, 60⟩ ∧ s.seq.queue = [] ∧ s.slots[1]? = some ds ∧
      (ds.role ≠ .free ∨ ds.cond = .empty) ∧ s.seq.active = some ⟨rid, .releaseWait, some 1, 0, none, none, none, none⟩ ∧
      (s.entry? rid).isSome = true ∧ NoSubstituteAt s 1) ∧
    (let s := queueBehind .releaseWait .wait none .held true hole .active
     s.seq.timer = some (.wait, 9000) ∧ s.slots[1]? = some (dockWith .occupied (some returned) 2 0) ∧
      (dockWith .occupied (some returned) 2 0).role ≠ .free ∧ RequestIdsUnique s ∧ rid ∉ s.seq.queue) ∧
    ({ swapAt .releaseWait (.wait, 600000) .pledged .held with seq.timer := some (.wait, 1) }.slots[1]?.map
      (fun sl => sl.role) = some .pledged) := by decide

/-- R154, second case: the wait ends with the return's slot given away; the swap ends at once, nothing is opened. -/
theorem test_giveBack_nothing_to_open :
    let s := after .waitTimerExpiry (swapAt .releaseWait (.wait, 600000) .pledged .held)
    s.seq.active = none ∧ s.slots.map (fun sl => (sl.role, sl.unlocked)) = [(.free, false), (.pledged, false)] ∧
    s.ofe.book.map (fun e => e.state) = [.aborted] ∧ s.lif.queue.map (fun e => e.frame.kind) = [.close] := by decide

theorem test_hyps_ThermalTripAndPassGap :
    (operates (work surveyed []) = true ∧ (work surveyed []).slots[2]? = some (full (pk 7 1 820 90 25 700)) ∧
      (full (pk 7 1 820 90 25 700)).cut = false ∧ (work surveyed []).seq.active = none) ∧
    ((work [{ hole with cut := true }] []).slots[0]? = some { hole with cut := true }) ∧
    ((work surveyed []).slots.length ≤ 7) ∧
    (operates gapFocus = true ∧ gapFocus.svy.gap = .running 500 ∧ gapFocus.sul.cfg.steps = [0] ∧
      gapFocus.svy.step = none ∧ { gapFocus with svy.step := some ⟨0, .focus, true, 60⟩ }.svy.step.isSome = true) ∧
    (let s := visiting 0 .releaseWait none (releaseAt 500 .held) (full returned) hole
     operates s = true ∧ s.seq.active.map (fun w => (w.step, w.release, w.dock)) = some (.releaseWait, 0, some 1) ∧
      (s.entry? rid).isSome = true ∧ s.slots[0]? = some (releaseAt 500 .held) ∧ (releaseAt 500 .held).cut = false ∧
      s.slots[1]? = some (full returned) ∧ (full returned).role = .free ∧ (full returned).cond ≠ .empty ∧
      NoSubstituteAt s 1) ∧
    (let s := visiting 0 .releaseWait none (releaseAt 500 .held) hole hole
     operates s = true ∧ s.slots[1]? = some hole ∧ hole.cond = .empty ∧ s.seq.queue = [] ∧ NoSubstituteAt s 1) := by
  decide

/-- The end of a step of each kind on slot 1: in the pass, at its end, in the gap and after it, with and without a focus
slot, with a pass gap and without. -/
theorem test_hyps_ThermalTripAndPassGap_walk :
    (∀ k ∈ [StepKind.regular, .confirm, .focus], ∀ f ∈ [none, some 1, some 0], ∀ next ∈ [1, 2],
      ∀ g ∈ [Gap.inPass, .running 500, .due], ∀ gap ∈ [0, 500],
        let s := walking k f next g gap
        operates s = true ∧ s.svy.step = some ⟨1, k, true, 60⟩ ∧ s.slots[1]? = some hole ∧ s.seq.active = none ∧
        s.sul.cfg.steps = [0, 1] ∧ s.svy.next = next ∧ s.sul.cfg.passGap = gap) ∧
    hole.visited = true ∧
    (stepping 1 { hole with visited := false }).slots[1]? = some { hole with visited := false } := by decide

/-- A swap in RETURN_OPEN on dock 1, the focus slot, and release slot 0, and a survey step in progress on slot `n`. -/
def walkingSwap (n : Nat) (k : StepKind) (next : Nat) (g : Gap) (gap : Nat) : State :=
  let s := visiting 1 .returnOpen none (releaseAt 930 .held) (dockWith .empty none 0 2) hole
  { s with
    sul.cfg := { cfgFor 4 with passGap := gap }, svy := ⟨some ⟨n, k, true, 60⟩, next, g, some 1, true, none⟩ }

/-- The same of a step while a swap is active: on a slot that it does not watch, and on its dock. -/
theorem test_hyps_ThermalTripAndPassGap_swap :
    ∀ n ∈ [1, 2], ∀ k ∈ [StepKind.regular, .confirm, .focus], ∀ next ∈ [2, 3, 4], ∀ g ∈ [Gap.inPass, .running 500, .due],
      ∀ gap ∈ [0, 500],
        let s := walkingSwap n k next g gap
        operates s = true ∧ s.svy.step = some ⟨n, k, true, 60⟩ ∧ (s.slots[n]?.map (fun x => x.visited)) = some true ∧
        s.seq.active = some ⟨rid, .returnOpen, some 1, 0, none, none, none, none⟩ ∧ s.svy.focus = some 1 ∧
        s.sul.cfg.steps = [0, 1, 2, 3] ∧ s.svy.next = next := by decide +kernel

/-- R8, with a swap: a focus step after a regular step on another slot, none after one on the focus slot itself, the next
regular step after a focus step, a focus step after the last step, also with a gap of 0, and back to back in the gap. -/
theorem test_survey_walk_swap :
    let next (s : State) : Option (Nat × StepKind) × Nat :=
      let t := after (.surveyStepEnd false [] false) s
      (t.svy.step.map (fun x => (x.slot, x.kind)), t.svy.next)
    next (walkingSwap 2 .regular 3 .inPass 500) = (some (1, .focus), 3) ∧
    next (walkingSwap 1 .regular 2 .inPass 500) = (some (2, .regular), 3) ∧
    next (walkingSwap 1 .focus 3 .inPass 500) = (some (3, .regular), 4) ∧
    next (walkingSwap 2 .regular 4 .inPass 500) = (some (1, .focus), 4) ∧
    next (walkingSwap 2 .regular 4 .inPass 0) = (some (1, .focus), 4) ∧
    next (walkingSwap 1 .focus 4 (.running 500) 500) = (some (1, .focus), 4) ∧
    next (walkingSwap 1 .focus 4 .due 500) = (some (0, .regular), 1) := by decide +kernel

/-- R8: a regular step on another slot is followed by a focus step on the focus slot; R7: the pass ends after its last step
and the gap runs. -/
theorem test_survey_walk :
    (after (.surveyStepEnd false [] false) (walking .regular (some 0) 1 .inPass 500)).svy.step =
      some ⟨0, .focus, true, 60⟩ ∧
    (let s := after (.surveyStepEnd false [] false) (walking .regular none 2 .inPass 500)
     s.svy.step = none ∧ s.svy.gap = .running 500 ∧ s.seq.firstPassSeen = true) := by decide

theorem test_hyps_DoorEventsMarkAndChangeState :
    (operates (work surveyed []) = true ∧ (work surveyed []).sul.doorOpen = false) ∧
    (operates doorStands = true ∧ doorStands.sul.doorOpen = true ∧ doorStands.seq.active = none ∧
      doorStands.seq.queue = []) ∧
    ((doorStands.slots[1]?).map (fun sl => (sl.cond, sl.reason, sl.doorOpened, sl.absentCount)) =
      some (.fault, some .tamper, true, 2)) := by decide

/-! ### Hypotheses that are met: charging -/

/-- Nothing is due in the state. -/
abbrev NothingDueAt (s : State) : Prop :=
  s.pln.replan = false ∧ (∀ e ∈ s.ofe.book, e.state ≠ .heard) ∧ s.svy.gap = .inPass

theorem test_hyps_PassEndStaysWithinTheGrant :
    let p : Pass := ⟨takeSnapshot (cabinet59 4350), 1250⟩
    (∀ s ∈ [{ cabinet59 4350 with pln.pass := some p },
        { cabinet59 4350 with pln.pass := some p, alw.spacingTimer := some 250 },
        { cabinet59 4350 with pln.pass := some p, alw.announced := 6600 }],
      s.core = true ∧ s.pln.pass = some p ∧ operates s = true ∧ s.sul.state = .active ∧ NothingDueAt s) ∧
    (cabinet59 4350).pln.pass = none ∧ State.reset.core = false ∧
    wantedOf (cfgFor 7) (takeSnapshot (cabinet59 4350)) = 6600 := by decide

/-- The walk, the plan and the second walk from a lower G at the end, on the cabinet of 5.9 and 5.10; a slot of each tier and one
that is no candidate; a slot that is zeroed at the end and one that is not. -/
theorem test_hyps_PassEndStaysWithinTheGrant_plan :
    let sn := takeSnapshot (cabinet59 5800)
    (walkOf (cfgFor 7) sn = [(2, 1000), (1, 1200), (4, 2000), (0, 1200), (3, 1200)] ∧ sn.pause = false ∧
      sn.station = .active ∧ 3000 < ((walkOf (cfgFor 7) sn).map (fun x => planned (planOf (cfgFor 7) sn) x.1)).sum) ∧
    (sn.slots.map (fun x => (tierOf (cfgFor 7) x, x.cond)) = [(.b, .occupied), (.a, .occupied), (.a, .occupied),
      (.c, .occupied), (.b, .occupied), (.none, .empty), (.none, .occupied)] ∧
      planOf (cfgFor 7) { sn with pause := true } = []) ∧
    (let s := after (.thermalTrip 4) { cabinet59 5800 with pln.pass := some ⟨sn, 1250⟩ }
     s.pln.pass = some ⟨sn, 1250⟩ ∧ s.slots.map (fun sl => sl.cut) = [false, false, false, false, true, false, false] ∧
      s.lif.linePause = false ∧ s.sul.state = .active) := by decide

/-- The grants of the two cases of R68 and of no remaining want: U at or above A, a share of the rest, D of 0. -/
theorem test_hyps_PassEndStaysWithinTheGrant_grant :
    let s := fun (a wd wu : Nat) => { work [hole] [] with
      alw.allowance := a, pln.wanted := wd, pln.urgent := wu, alw.grant := 0 }
    ((s 2000 9000 2400).alw.allowance ≤ 2400 ∧ 0 < 2400 ∧ grantNow (s 2000 9000 2400) = 2000) ∧
    (grantNow (s 3000 9000 2400) = 3000) ∧ (grantNow (s 3000 2400 2400) = 2400) ∧ (grantNow (s 0 0 0) = 0) := by decide

theorem test_hyps_AnnouncementsAreTaken :
    (operates (work [hole] []) = true ∧ FrameMayEnd (work [hole] []) ∧ 15#4 ≠ (work [hole] []).sul.station ∧
      4#4 = (work [hole] []).sul.station) ∧ NothingDue (work [hole] []) ∧
    { work [hole] [] with alw.freshTimer := some 3000 }.alw.freshTimer.isSome = true :=
  ⟨by decide, nothingDue_of _ rfl (by decide) rfl, rfl⟩

theorem test_hyps_DemandTimersAnnounce :
    let s := { work [hole] [] with alw.demandTimer := some 2000, alw.spacingTimer := some 250 }
    s.core = true ∧ s.alw.demandTimer.isSome = true ∧ s.alw.spacingTimer.isSome = true ∧ s.alw.earlyPending = false ∧
    { s with alw.earlyPending := true }.alw.earlyPending = true := by decide

/-! ### Hypotheses that are met: starts, loading, mains and supply -/

theorem test_hyps_StartSamplesAndSelects :
    loading (after (.start 4 false) State.reset) = true ∧ (after (.start 4 false) State.reset).sul.selected = true ∧
    (after (.start 4 false) State.reset).sul.cfda = [] ∧ (List.replicate 66 (0#8)).length ≤ 66 ∧
    State.reset.rhs.valid = false ∧ heldCabinet.rhs.valid = true := by decide

/-- The 66 bytes of the image of 11.6, or without a fitted slot. -/
def image116 (fitted : Byte) : List Byte := withCrc (body116.set 1 fitted)

theorem test_hyps_FailedLoadingHalts :
    (loading (loadingWith (image116 0)) = true ∧ (loadingWith (image116 0)).slots = [] ∧ (image116 0).length = 66 ∧
      (loadingWith (image116 0)).sul.image = image116 0) ∧
    (crc16 ((image116 0).take 64) = be16 ((image116 0).getD 64 0) ((image116 0).getD 65 0) ∧ (image116 0).getD 1 0 = 0) ∧
    (crc16 (((image116 6).set 65 0).take 64) ≠
      be16 (((image116 6).set 65 0).getD 64 0) (((image116 6).set 65 0).getD 65 0)) := by decide +kernel

theorem test_hyps_LoadingEndJoins :
    let s := loadingWith (image116 6)
    loading s = true ∧ s.sul.image.length = 66 ∧ imageFault s.sul.image = none ∧ s.sul.cold = true ∧
    s.alw = Alw.initial ∧ s.ofe = Ofe.initial ∧ s.seq = Seq.initial ∧ s.svy = Svy.initial := by decide +kernel

/-- R180: two slots fitted and sixteen steps that all name slot 0: the last of them makes room for slot 1. -/
theorem test_full_list_makes_room :
    let img := ((body116.set 1 2).set 2 16).take 3 ++ List.replicate 8 0 ++ body116.drop 11
    (buildSteps img).1 = List.replicate 15 0 ++ [1] ∧
    (buildSteps img).2 = [⟨3, .stepRemoved, some 0, none⟩, ⟨3, .stepAppended, none, some 1⟩] := by decide +kernel

/-- Records of two requests: on slot 5, the last fitted one, and on slot 6, which is not fitted. -/
def warmLoading : State :=
  let s := loadingWith (image116 6)
  { s with
    sul.cold := false,
    rhs := ⟨true, 7000, [some ⟨rid, 5, 7001, 1, 1, .fleet, 12⟩, none, some ⟨⟨14, 1⟩, 6, 7300, 2, 1, .standard, 3⟩], none⟩ }

theorem test_hyps_WarmStartRestoresHolds :
    (loading warmLoading = true ∧ warmLoading.sul.image.length = 66 ∧ imageFault warmLoading.sul.image = none ∧
      warmLoading.sul.cold = false ∧ warmLoading.rhs.progress = none ∧ ((warmLoading.rhs.holds.filterMap id).map (fun r => r.rid)).Nodup ∧
      ((warmLoading.rhs.holds.filterMap id).map (fun r => r.slot)).Nodup ∧
      5 < (cfgOf warmLoading.sul.image).fitted ∧ (cfgOf warmLoading.sul.image).fitted ≤ 6) ∧
    (some (⟨rid, 5, 7001, 1, 1, .fleet, 12⟩ : HoldRecord) ∈ warmLoading.rhs.holds) ∧
    ∀ r, some r ∈ warmLoading.rhs.holds → reached warmLoading.rhs.seconds r.deadline = false := by
  refine ⟨by decide +kernel, by decide, ?_⟩
  intro r h
  simp only [warmLoading, List.mem_cons, Option.some.injEq, reduceCtorEq, List.not_mem_nil, or_false, false_or] at h
  obtain rfl | rfl := h <;> decide

/-- Hold records of each kind: overdue, of the slot of a lower-numbered place, of no fitted slot, overdue and the one that the
progress record resumes, and not yet due. -/
def overdueLoading : State :=
  { warmLoading with rhs := ⟨true, 7000,
      [some ⟨⟨14, 1⟩, 2, 6990, 2, 1, .standard, 3⟩, some ⟨⟨14, 2⟩, 2, 7300, 2, 1, .standard, 3⟩,
        some ⟨⟨14, 3⟩, 6, 6980, 2, 1, .standard, 3⟩, some ⟨rid, 5, 6970, 1, 1, .fleet, 12⟩, none,
        some ⟨⟨14, 4⟩, 1, 7001, 2, 1, .standard, 3⟩, some ⟨⟨14, 5⟩, 3, 6990, 2, 1, .standard, 3⟩, none],
      some ⟨rid, .returnCheck, 0, 5, none⟩⟩ }

theorem test_hyps_WarmStartRestoresHolds_overdue :
    loading overdueLoading = true ∧ overdueLoading.sul.image.length = 66 ∧ imageFault overdueLoading.sul.image = none ∧
    overdueLoading.sul.cold = false ∧ ((overdueLoading.rhs.holds.filterMap id).map (fun r => r.rid)).Nodup ∧
    3 < (cfgOf overdueLoading.sul.image).fitted ∧ 5 < (cfgOf overdueLoading.sul.image).fitted ∧
    (cfgOf overdueLoading.sul.image).fitted ≤ 6 ∧ reached 7000 6990 = true ∧ reached 7000 6970 = true ∧
    reached 7000 7001 = false := by decide +kernel

/-- R124, R141, R173: what the rebuild leaves of those records, and the two CLOSE LAPSED in book order. -/
theorem test_loadingEnd_lapses :
    let s := after (.loadingEnd false 0 true) overdueLoading
    s.rhs.holds.map (fun h => h.map (fun r => r.slot)) = [none, none, none, some 5, none, some 1, none, none] ∧
    s.ofe.book.map (fun e => (e.rid, e.state)) =
      [(rid, .serving), (⟨14, 1⟩, .lapsed), (⟨14, 5⟩, .lapsed), (⟨14, 4⟩, .held)] ∧
    s.lif.queue.map (fun e => e.frame.data.take 3) = [ridBytes ⟨14, 1⟩ ++ [1], ridBytes ⟨14, 5⟩ ++ [1]] := by
  decide +kernel

/-- The loading of `warmLoading` with a progress record of the first request: one that stands, and those R173 empties. -/
theorem test_hyps_WarmStartRestoresHolds_progress :
    (let s := { warmLoading with rhs.progress := some ⟨rid, .returnCheck, 0, 5, none⟩ }
     loading s = true ∧ s.rhs.progress = some ⟨rid, .returnCheck, 0, 5, none⟩ ∧ (0 : Nat) ≠ 5 ∧
      5 < (cfgOf s.sul.image).fitted) ∧ (cfgOf warmLoading.sul.image).fitted ≤ 7 := by decide +kernel

/-- Log 37: a store, which no run writes, whose resumed dock is the slot of another hold record. -/
def dockOnHold : State :=
  { warmLoading with rhs := ⟨true, 7000, [some ⟨rid, 5, 7001, 1, 1, .fleet, 12⟩, some ⟨⟨14, 1⟩, 2, 7300, 2, 1, .standard, 3⟩],
      some ⟨rid, .returnCheck, 2, 5, none⟩⟩ }

theorem test_hyps_WarmStartRestoresHolds_dockOnHold :
    loading dockOnHold = true ∧ dockOnHold.sul.image.length = 66 ∧ imageFault dockOnHold.sul.image = none ∧
    ((dockOnHold.rhs.holds.filterMap id).map (fun r => r.rid)).Nodup ∧
    ((dockOnHold.rhs.holds.filterMap id).map (fun r => r.slot)).Nodup ∧
    reached 7000 7300 = false ∧ 5 < (cfgOf dockOnHold.sul.image).fitted ∧
    (after (.loadingEnd false 0 true) dockOnHold).slots[2]?.map (fun sl => (sl.role, sl.rid)) =
      some (.dock, some rid) := by decide +kernel

/-- R173, R174: the swap of the record stands in STARTING_WAIT, its dock DOCK, no latch UNLOCKED. -/
theorem test_loadingEnd_resumes :
    let s := after (.loadingEnd false 0 true) { warmLoading with rhs.progress := some ⟨rid, .returnCheck, 0, 5, none⟩ }
    s.seq.active = some ⟨rid, .startingWait, some 0, 5, none, none, none, some .returnCheck⟩ ∧
    s.slots.map (fun sl => (sl.role, sl.unlocked)) = [(.dock, false), (.free, false), (.free, false), (.free, false),
      (.free, false), (.held, false)] ∧ s.ofe.book.map (fun e => e.state) = [.serving] := by decide +kernel

theorem test_hyps_WarmStartRestoresHolds_resumption :
    (∀ p ∈ [ProgressStep.returnOpen, .returnCheck, .rejectOut, .releaseWait, .releaseOpen, .giveBackNoPack,
        .giveBackWaitExceeded],
      let s := resumedAt p 7 (releaseAt 930 .held)
      operates s = true ∧ s.svy.step = some ⟨2, .confirm, true, 60⟩ ∧ s.sul.cfg.steps.length ≤ s.svy.next ∧
      s.svy.firstPassDone = false ∧ s.seq.queue = [] ∧
      s.seq.active = some ⟨rid, .startingWait, some 1, 0, some 7, none, none, some p⟩ ∧ (s.entry? rid).isSome = true ∧
      s.slots[1]? = some (inRole hole .dock rid) ∧ s.slots[0]? = some (releaseAt 930 .held) ∧
      s.slots[2]? = some hole ∧ hole.cond ≠ .occupied) ∧
    ((resumedAt .releaseOpen 7 (inRole hole .releasing rid)).slots[0]?.map (fun sl => sl.cond) = some .empty) := by decide

/-- The last step of the first pass ends on slot 2, with a fresh swap in STARTING_WAIT; slot 2 is a bay or has a pack. -/
def firstPassEnds (third : Slot) : State :=
  let s := waitingWith .active []
  { s with
    slots := [heldSlot, inRole (full (pk 200 1 950 91 29 0)) .held ⟨3, 1⟩, third]
    svy := { Svy.initial with step := some ⟨2, .confirm, true, 60⟩, next := 3 } }

theorem test_hyps_WarmStartRestoresHolds_begun :
    (∀ x ∈ [hole, { hole with cond := .settling, role := .dock }],
      let s := firstPassEnds x
      operates s = true ∧ s.svy.step = some ⟨2, .confirm, true, 60⟩ ∧ s.sul.cfg.steps.length ≤ s.svy.next ∧
      s.svy.firstPassDone = false ∧ s.seq.active = some ⟨rid, .startingWait, none, 0, none, none, none, none⟩ ∧
      s.seq.queue = [] ∧ s.slots[2]? = some x ∧ (s.entry? rid).isSome = true) ∧
    ((hole : Slot).cond = .empty ∧ (hole : Slot).role = .free) ∧ heldSlot.cond ≠ .empty := by decide

/-- R143, R147: a swap that waits for the first pass opens its return at the report, or is handed back without a bay. -/
theorem test_first_pass_begins :
    (let s := after (.surveyStepEnd false [] false) (firstPassEnds hole)
     s.seq.active = some ⟨rid, .returnOpen, some 2, 0, none, none, none, none⟩ ∧
      s.slots.map (fun sl => sl.unlocked) = [false, false, true] ∧ s.svy.focus = some 2) ∧
    (let s := after (.surveyStepEnd true [] false) (firstPassEnds hole)
     s.seq.active = none ∧ (s.entry? rid).map (fun e => e.state) = some .held ∧
      frames s = [declineFrame rid .noDock]) := by decide

/-- A cabinet in a station state, with the timers of joining and of the mains return. -/
def stateIn (st : StationState) (join back : Option Nat) : State :=
  let s := work [hole] []
  { s with sul := { s.sul with state := st, joiningTimer := join, mainsReturnTimer := back } }

theorem test_hyps_MainsAndJoiningChangeTheState :
    (∀ s ∈ [stateIn .joining (some 3000) none, stateIn .active none none, stateIn .withdrawn none none,
        stateIn .holdup none none, stateIn .holdup (some 3000) (some 1000)], s.core = true) ∧
    (stateIn .holdup none none).sul.mainsReturnTimer = none ∧
    (stateIn .holdup (some 3000) (some 1000)).sul.mainsReturnTimer.isSome = true ∧
    (stateIn .joining (some 3000) none).sul.joiningTimer.isSome = true ∧
    (stateIn .holdup (some 3000) (some 1000)).sul.joiningTimer.isSome = true ∧
    (stateIn .holdup none (some 1000)).sul.joiningTimer = none := by decide

/-- R74: the DEMAND on entry to HOLDUP from ACTIVE, with one EMPTY, FREE slot and one pack of class 1 ready; none from
JOINING. -/
theorem test_holdup_demand :
    let s := work [hole, full (pk 100 1 930 91 29 1300)] []
    frames (after .mainsGoodLow { s with pln.wanted := 3000, pln.urgent := 500, alw.grant := 2000 }) =
      [⟨0x40#8, .demand, 0x3F#8, [0, 0, 0, 0, 0, 0, 0, 1, 0, 0, 1, 4]⟩] ∧
    frames (after .mainsGoodLow (stateIn .joining (some 3000) none)) = [] := by decide +kernel

/-- SEQ idle with two requests queued through a mains loss, in JOINING, and through an open door. -/
theorem test_hyps_MainsAndJoiningChangeTheState_queue :
    let q := fun (st : StationState) (join back : Option Nat) (door : Bool) =>
      let s := queueBehind .startingWait .ret none .free true hole st
      { s with seq := { s.seq with active := none }
               sul := { s.sul with joiningTimer := join, mainsReturnTimer := back, doorOpen := door } }
    (∀ s ∈ [q .holdup none (some 1000) false, q .joining (some 3000) none false, q .withdrawn none none true],
      s.core = true ∧ RequestIdsUnique s ∧ s.seq.active = none ∧ s.seq.queue = [⟨3, 1⟩, ⟨3, 2⟩] ∧
      ∀ sl ∈ s.slots, sl.cond ≠ .fault) ∧
    (after .mainsReturnTimerExpiry (q .holdup none (some 1000) false)).seq.active =
      some ⟨⟨3, 1⟩, .returnOpen, some 3, 2, none, none, none, none⟩ ∧
    (after .doorClose (q .withdrawn none none true)).seq.queue = [⟨3, 2⟩] := by decide

theorem test_hyps_CoreStopKeepsTheStore :
    (heldCabinet.core = true ∧ heldCabinet.rhs.valid = true) ∧ State.reset.core = false ∧
    (after .coreStop { heldCabinet with rhs.valid := false }).rhs = { heldCabinet.rhs with valid := false } := by decide

theorem test_hyps_TickAgesPeersAndEntries :
    State.reset.core = false ∧ operates heldCabinet = true ∧
    heldCabinet.alw.peers[15]? = some (some ⟨.absent, 0, 0, 0, 0, 0, 0, 0, 0⟩) ∧
    ({ heldCabinet with alw.peers := [some ⟨.present, 1, 1, 0, 0, 0, 0, 0, 0⟩] }.alw.peers[0]? =
      some (some ⟨.present, 1, 1, 0, 0, 0, 0, 0, 0⟩)) ∧
    ({ heldCabinet with alw.peers := [some ⟨.stale, 1, 1, 5386, 0, 0, 0, 0, 0⟩] }.alw.peers[0]? =
      some (some ⟨.stale, 1, 1, 5386, 0, 0, 0, 0, 0⟩)) ∧ ((5400 : Word) + 1 - 5386).toNat ≤ 15 ∧
    15 < ((5400 : Word) + 1 - 5385).toNat := by decide

/-- A cabinet with nothing due that wants 3,000 W under a site allowance of 5,000 W, G 3,000 W, and one peer. -/
def withPeer (p : Peer) : State :=
  { heldCabinet with
    alw := { heldCabinet.alw with peers := [some p, none], allowance := 5000, grant := 3000 }, pln.wanted := 3000 }

theorem test_hyps_TickAgesPeersAndEntries_grant :
    (∀ p ∈ [(⟨.present, 7000, 0, 5395, 0, 0, 0, 0, 0⟩ : Peer), ⟨.stale, 7000, 0, 5386, 0, 0, 0, 0, 0⟩,
        ⟨.stale, 7000, 0, 5385, 0, 0, 0, 0, 0⟩, ⟨.absent, 0, 0, 0, 0, 0, 0, 0, 0⟩],
      operates (withPeer p) = true ∧ some p ∈ (withPeer p).alw.peers) ∧
    NothingDue (withPeer ⟨.stale, 7000, 0, 5385, 0, 0, 0, 0, 0⟩) :=
  ⟨by decide, nothingDue_of _ rfl (by decide) rfl⟩

/-- R63, R69: a tick without a transition leaves G alone, though the formula would give 1,500 W; with PRESENT made STALE it is
recomputed to that, and a pass begins; with STALE made ABSENT it comes out at 3,000 W as before, and none begins. -/
theorem test_tick_recomputes_grant :
    let g (p : Peer) : Nat × Bool :=
      let t := after .secondsTick (withPeer p)
      (t.alw.grant, t.pln.pass.isSome)
    g ⟨.present, 7000, 0, 5396, 0, 0, 0, 0, 0⟩ = (3000, false) ∧ g ⟨.present, 7000, 0, 5395, 0, 0, 0, 0, 0⟩ = (1500, true) ∧
    g ⟨.stale, 7000, 0, 5386, 0, 0, 0, 0, 0⟩ = (3000, false) ∧ g ⟨.stale, 7000, 0, 5385, 0, 0, 0, 0, 0⟩ = (3000, false) := by
  decide +kernel

/-! ### Hypotheses that are met: status -/

/-- A cabinet with one clamp record. -/
def queried : State :=
  let s := heldCabinet
  { s with sul.clamps := [⟨11, .rounded, some 65, some 60⟩] }

/-- 12.2, by hand: a HELD slot in tier A with pack 0x64 of class 1, its latch locked, charged at 1,200 W, read 3 s ago. -/
theorem test_slot_reply_bytes :
    slotBytes 5003 { inRole (full (pk 100 1 930 91 (-2) 1300)) .held ⟨14, 0x2A7⟩ with
      tier := .a, setpoint := 1200, ready := 258, goodAt := 5000, present := true } =
      [2, 0, 0x19, 2, 1, 0xE2, 0xA7, 24, 0x01, 0x02, 0, 0, 0, 100, 0x03, 0xA2, 91, 0xFE, 0x05, 0x14, 0, 3] := by decide

/-- 12.2, by hand: a HELD reservation of a fleet rider, and the SUMMARY 0 of a fresh ACTIVE cabinet with G 1,500 W. -/
theorem test_book_and_summary_bytes :
    bookBytes { ent .held with
      rid := ⟨14, 0x2A7⟩, kind := .reservation, rider := .fleet, packClass := 1, returnClass := 2, eta := 12, attempt := 3,
      heldSlot := some 5, deadline := some 6020, offer := some ⟨5, 38, 100⟩, winner := none } =
      [0xE2, 0xA7, 4, 3, 0x12, 12, 3, 0, 5, 0, 0, 0x17, 0x84, 0, 0xFF, 0xFF, 5, 38, 0, 0, 0, 0] ∧
    summaryBytes { work [hole] [] with alw.grant := 1500, alw.allowance := 6000, rhs.valid := true } =
      [2, 2, 0xFF, 0, 0x05, 0xDC, 0x02, 0x58, 0, 0, 0, 0, 0, 0, 0, 0, 0, 0, 0] := by decide

theorem test_hyps_QueriesAreAnswered :
    (lifRuns queried = true ∧ FrameMayEnd queried) ∧ NothingDue queried ∧
    (queried.sul.clamps[(2#8).toNat - 2]? = some ⟨11, .rounded, some 65, some 60⟩ ∧
      queried.slots[(1#8).toNat]? = some hole ∧ queried.ofe.book[(0#8).toNat]? = some heldEnt ∧ (3#8).toNat < 4 ∧
      (15#8).toNat ≠ queried.sul.station.toNat ∧ queried.alw.peers[(15#8).toNat]? = some (some Peer.initial) ∧
      5 ≤ (5#8).toNat ∧ queried.slots.length ≤ (2#8).toNat ∧ queried.ofe.book.length ≤ (1#8).toNat ∧ 4 ≤ (4#8).toNat ∧
      (4#8).toNat = queried.sul.station.toNat ∧ 2 ≤ (3#8).toNat ∧ queried.sul.clamps.length ≤ (3#8).toNat - 2 ∧
      17 < (18#8).toNat ∧ 16 ≤ (16#8).toNat ∧ queried.alw.peers.length = 16) := ⟨by decide, nothingDue_of _ rfl (by decide) rfl, by decide⟩

end Sys2Proof.Tests
end

