-- ==== Sys2Proof/Proofs/Readiness.lean ====
section
/-! Proofs about the readiness and score arithmetic of file 06: what the ready estimate, the prospective power, the terms of
a score and the judgement of one slot answer, and from these the statements O35 and O36. -/

namespace Sys2Proof.Machine

open Sys2Proof

/-! ### The ready estimate (R96) -/

/-- The power of the taper phase, at least 1 W (R96). -/
def taperPower (f : ClassFigures) (p : Nat) : Nat := max 1 (p * f.taper / 100)

/-- The numerator of R96: the bulk phase ends at the knee or at T, the taper phase at T. -/
def chargeWork (f : ClassFigures) (soc p : Nat) : Nat :=
  (min f.release f.knee - soc) * f.capacity * 60 * taperPower f p + (f.release - max soc f.knee) * f.capacity * 60 * p

/-- The denominator of R96. -/
def chargeRate (f : ClassFigures) (p : Nat) : Nat := 1000 * p * taperPower f p

theorem taperPower_pos (f : ClassFigures) (p : Nat) : 0 < taperPower f p :=
  le_max_left 1 _

theorem chargeRate_pos (f : ClassFigures) {p : Nat} (hp : 0 < p) : 0 < chargeRate f p :=
  Nat.mul_pos (Nat.mul_pos (by decide) hp) (taperPower_pos f p)

/-- Below T there is always work left: in the bulk phase below the knee, in the taper phase from the knee on. -/
theorem chargeWork_pos {f : ClassFigures} {soc p : Nat} (hs : soc < f.release) (hp : 0 < p) (hc : 0 < f.capacity) :
    0 < chargeWork f soc p := by
  have ht := taperPower_pos f p
  unfold chargeWork
  rcases lt_or_ge soc f.knee with hk | hk
  · have bulk : 0 < min f.release f.knee - soc := by omega
    exact Nat.add_pos_left (by positivity) _
  · have taper : 0 < f.release - max soc f.knee := by omega
    exact Nat.add_pos_right _ (by positivity)

theorem readyEstimate_of_release_le {f : ClassFigures} {soc : Nat} (p : Nat) (h : f.release ≤ soc) :
    readyEstimate f soc p = 0 := by
  simp [readyEstimate, h]

theorem readyEstimate_without_power {f : ClassFigures} {soc : Nat} (h : soc < f.release) :
    readyEstimate f soc 0 = 1023 := by
  simp [readyEstimate, Nat.not_le.2 h]

/-- Below T and with power the estimate is R96's quotient rounded up, cut off at 1022. -/
theorem readyEstimate_eq_ceilDiv {f : ClassFigures} {soc p : Nat} (hs : soc < f.release) (hp : 0 < p) :
    readyEstimate f soc p = min 1022 (chargeWork f soc p ⌈/⌉ chargeRate f p) := by
  rw [Nat.ceilDiv_eq_add_pred_div]
  simp [readyEstimate, Nat.not_le.2 hs, hp.ne', chargeWork, chargeRate, taperPower]

/-- The rounded-up quotient is the least number of minutes in which the power does the work. -/
theorem readyEstimate_bounds {f : ClassFigures} {soc p : Nat} (hs : soc < f.release) (hp : 0 < p)
    (hc : 0 < f.capacity) :
    1 ≤ readyEstimate f soc p ∧ readyEstimate f soc p ≤ 1022 ∧
      (readyEstimate f soc p - 1) * chargeRate f p < chargeWork f soc p ∧
      (readyEstimate f soc p < 1022 → chargeWork f soc p ≤ readyEstimate f soc p * chargeRate f p) := by
  have covers (m : Nat) : chargeWork f soc p ⌈/⌉ chargeRate f p ≤ m ↔ chargeWork f soc p ≤ m * chargeRate f p := by
    rw [ceilDiv_le_iff_le_mul (chargeRate_pos f hp), mul_comm]
  have positive : ¬ chargeWork f soc p ⌈/⌉ chargeRate f p ≤ 0 := by
    rw [covers, zero_mul]
    exact Nat.not_le.2 (chargeWork_pos hs hp hc)
  rw [readyEstimate_eq_ceilDiv hs hp]
  refine ⟨by omega, min_le_left _ _, ?_, fun h => (covers _).1 (by omega)⟩
  rw [← Nat.not_le, ← covers]
  omega

/-! ### The prospective power (R99, R100) -/

/-- The prospective power is the slot's share of G under its evaluation cap, as R99 and R100 give it. -/
theorem prospectivePower_shared (cfg : Cfg) (grant : Nat) (slots : List SlotView) (n : Nat) (p : Pack) :
    PowerShared cfg grant slots n p (prospectivePower cfg grant slots n p) := by
  constructor
  · exact fun below => if_pos below
  · exact fun enough => if_neg (Nat.not_lt.2 enough)

/-! ### The terms of a score (R102 to R104) -/

theorem waitTerm_eq_ite (r e : Nat) : waitTerm r e = if r ≤ e then 0 else r - e := by
  unfold waitTerm
  split
  · next ready => exact Nat.sub_eq_zero_of_le ready
  · rfl

/-- A slot without power waits at least 963 minutes for every ETA of at most 60 (R102). -/
theorem le_waitTerm_without_power {e : Nat} (h : e ≤ 60) : 963 ≤ waitTerm 1023 e := by
  unfold waitTerm
  omega

theorem wearTerm_eq_fifteen_iff (c : Half) : wearTerm c = 15 ↔ 3840 ≤ c.toNat := by
  unfold wearTerm
  omega

theorem fillTerm_eq_zero_iff {soc : Nat} (h : soc ≤ 1000) : fillTerm soc = 0 ↔ 961 ≤ soc := by
  unfold fillTerm
  omega

theorem fillTerm_eq_twentyFour_iff {soc : Nat} (h : soc ≤ 1000) : fillTerm soc = 24 ↔ 1 ≤ soc ∧ soc ≤ 40 := by
  unfold fillTerm
  omega

theorem fillTerm_eq_twentyFive_iff {soc : Nat} (h : soc ≤ 1000) : fillTerm soc = 25 ↔ soc = 0 := by
  unfold fillTerm
  omega

/-- The model's test of a slot for the ready counts is the one of R58. -/
theorem countsReady_eq_readyForRelease (cfg : Cfg) (k : PackClass) (sv : SlotView) :
    countsReady cfg k sv = ReadyForRelease cfg k sv := by
  cases hp : sv.pack with
  | none => simp [countsReady, ReadyForRelease, hp]
  | some p => simp [countsReady, ReadyForRelease, hp, Bool.and_assoc]

/-- The ready count is the number of slots that R58 counts. -/
theorem readyCount_eq_length_filter (cfg : Cfg) (slots : List SlotView) (k : PackClass) :
    readyCount cfg slots k = (slots.filter (ReadyForRelease cfg k)).length := by
  have test : countsReady cfg k = ReadyForRelease cfg k := funext (countsReady_eq_readyForRelease cfg k)
  rw [readyCount, test, List.countP_eq_length_filter]

/-- The floor is compared with the ready count less 1 as an integer, so that a count of 0 lies below a floor of 0 (R104). -/
theorem reserveTerm_eq_ite (cfg : Cfg) (v : EvalView) : reserveTerm cfg v = if TakesReserve cfg v then 32 else 0 := by
  have below (count floor : Nat) : (count : Int) - 1 < floor ↔ count < floor + 1 := by omega
  simp only [reserveTerm, readyCount_eq_length_filter, below]

/-! ### The judgement of one slot (R105, R106) -/

/-- What makes a slot eligible, and the candidate that it then gives. -/
theorem judgeSlot_eq_some_iff {cfg : Cfg} {v : EvalView} {n : Nat} {sv : SlotView} {c : Candidate} :
    judgeSlot cfg v n sv = some c ↔ ∃ p, sv.pack = some p ∧
      (sv.cond = .occupied ∧ p.ok = true ∧ sv.cut = false ∧ sv.role = .free ∧ p.cls = v.packClass ∧
        (cfg.figures p.cls).minSoh ≤ p.soh ∧ prospectiveReady cfg v.grant v.slots n p ≤ 1022 ∧
        waitTerm (prospectiveReady cfg v.grant v.slots n p) v.eta ≤ cfg.maxWait v.rider) ∧
      c = ⟨n, scoreOf (waitTerm (prospectiveReady cfg v.grant v.slots n p) v.eta) p (reserveTerm cfg v),
        prospectiveReady cfg v.grant v.slots n p, p⟩ := by
  cases hp : sv.pack with
  | none => simp [judgeSlot, hp]
  | some p => simp [judgeSlot, hp, eq_comm (a := c)]

/-- A slot without prospective power is given no score (R102, R106). -/
theorem judgeSlot_eq_none_of_no_power {cfg : Cfg} {v : EvalView} {n : Nat} {sv : SlotView} {p : Pack}
    (hp : sv.pack = some p) (h : prospectiveReady cfg v.grant v.slots n p = 1023) : judgeSlot cfg v n sv = none := by
  refine Option.eq_none_iff_forall_ne_some.2 fun c judged => ?_
  obtain ⟨q, hq, ⟨-, -, -, -, -, -, inTime, -⟩, -⟩ := judgeSlot_eq_some_iff.1 judged
  obtain rfl : p = q := Option.some.inj (hp.symm.trans hq)
  omega

/-- The score of a judged slot is made of the terms of its pack record (R105). -/
theorem score_of_judgeSlot {cfg : Cfg} {v : EvalView} {n : Nat} {sv : SlotView} {c : Candidate}
    (h : judgeSlot cfg v n sv = some c) :
    ∃ p, sv.pack = some p ∧ c.score = min 254 (8 * waitTerm (prospectiveReady cfg v.grant v.slots n p) v.eta +
      wearTerm p.cycles + fillTerm p.soc + reserveTerm cfg v) := by
  obtain ⟨p, hp, -, rfl⟩ := judgeSlot_eq_some_iff.1 h
  exact ⟨p, hp, rfl⟩

/-! ### What the view and the pack record hold (R9, R98) -/

/-- The view of an OCCUPIED slot holds the slot's pack record (R98). -/
theorem pack_view_of_occupied {sl : Slot} (h : sl.cond = .occupied) : sl.view.pack = sl.pack := by
  simp [Slot.view, h]

/-- The evaluation view holds the view of each slot under the slot's number (R98). -/
theorem getElem?_takeView_slots (e : Entry) (s : State) (n : Nat) :
    (takeView e s).slots[n]? = s.slots[n]?.map Slot.view :=
  List.getElem?_map

theorem etaOf_le (b : Byte) : etaOf b ≤ 60 := min_le_left 60 _

theorem packOf_soc_le (r : List Byte) (k : PackClass) : (packOf r k).soc ≤ 1000 := min_le_left 1000 _

/-! ### The statements -/

/-- Settles O36: the estimate below T with power is a quotient rounded up. -/
theorem readyEstimateCoversTheCharge : Obligations.ReadyEstimateCoversTheCharge := by
  intro f soc p
  exact ⟨readyEstimate_of_release_le p, readyEstimate_without_power, readyEstimate_bounds⟩

/-- Settles O35, from what each term and the judgement of a slot answer. -/
theorem waitWearAndFillTerms : Obligations.WaitWearAndFillTerms := by
  refine ⟨waitTerm_eq_ite, fun e => le_waitTerm_without_power,
    fun cfg v n sv p => judgeSlot_eq_none_of_no_power, fun cfg v n sv c => score_of_judgeSlot,
    fun e s => ⟨rfl, fun n sl hsl occupied => ?viewed⟩,
    fun cfg v => ⟨fun takes => ?reserved, fun spared => ?unreserved⟩,
    fun cfg grant slots n p => ⟨prospectivePower cfg grant slots n p, prospectivePower_shared cfg grant slots n p, rfl⟩,
    etaOf_le, packOf_soc_le, fun c => ⟨rfl, wearTerm_eq_fifteen_iff c⟩,
    fun soc h => ⟨rfl, fillTerm_eq_zero_iff h, fillTerm_eq_twentyFour_iff h, fillTerm_eq_twentyFive_iff h⟩⟩
  case viewed => exact ⟨sl.view, by simp [getElem?_takeView_slots, hsl], pack_view_of_occupied occupied⟩
  case reserved => rw [reserveTerm_eq_ite, if_pos takes]
  case unreserved => rw [reserveTerm_eq_ite, if_neg spared]

end Sys2Proof.Machine
end

section
/-! Proofs about what a command can do to the state at all: the elementary writes of the blocks, and that every shared
operation is a chain of them. The invariants that every step keeps are then proved of the elementary writes alone. -/

namespace Sys2Proof.Machine

open Sys2Proof

/-! ### The elementary writes -/

/-- What one write may do to one slot record in state `s`. `seq` says that SEQ takes part, so that latches may move, and `svy`
that SVY takes part, so that conditions, packs and cuts may. A setpoint becomes 0 or is kept on a slot that may charge as
before; it becomes another figure only where charging is allowed (R90). -/
structure SlotWrite (seq svy : Prop) (s : State) (a b : Slot) : Prop where
  latch : seq ∨ b.unlocked = a.unlocked
  cond : svy ∨ (b.cond = a.cond ∧ b.pack = a.pack ∧ b.cut = a.cut)
  setpoint : b.setpoint = 0 ∨ (b.setpoint = a.setpoint ∧ (mustNotCharge b = true → mustNotCharge a = true)) ∨
    (chargingStopped s = false ∧ mustNotCharge b = false)

/-- The request ids of the hold records. -/
def holdIds (l : List (Option HoldRecord)) : List ReqId := (l.filterMap id).map (fun r => r.rid)

/-- The request ids of the Request Book. -/
def bookIds (l : List Entry) : List ReqId := l.map (fun e => e.rid)

/-- The Peer Table has an entry for every number but the own (R61). -/
def PeersPlaced (s : State) : Prop := ∀ x ∈ s.alw.peers.zipIdx, (x.1 = none ↔ x.2 = s.sul.station.toNat)

/-- The elementary writes of the blocks, each under what its place in the operations guarantees. -/
inductive Write (seq svy : Prop) (s : State) : State → Prop where
  | counter (c : Counter) : Write seq svy s (bump c s)
  | line (l : Lif) (queue : l.queue = s.lif.queue) (order : l.nextOrder = s.lif.nextOrder)
      (buffer : l.rxBuf = s.lif.rxBuf) (pause : l.linePause = s.lif.linePause) : Write seq svy s { s with lif := l }
  | store (f : RxFrame) : Write seq svy s (storeFrame f s)
  | drop : Write seq svy s (dropHead s)
  | frame (f : TxFrame) (contest : f.kind = .demand → f.contest = 0x40#8) : Write seq svy s (enqueue f s)
  | completed (o : Nat) : Write seq svy s (queueCompleted o s)
  | retries (o : Nat) : Write seq svy s (queueRetries o s)
  | abandoned (o : Nat) : Write seq svy s (queueAbandoned o s)
  | planner (p : Pln) : Write seq svy s { s with pln := p }
  | allowance (a : Alw) (peers : a.peers = s.alw.peers) : Write seq svy s { s with alw := a }
  | peer (n : Nat) (p : Peer) (other : n ≠ s.sul.station.toNat) :
      Write seq svy s { s with alw.peers := s.alw.peers.set n (some p) }
  | peersAged (f : Peer → Peer) : Write seq svy s { s with alw.peers := s.alw.peers.map (Option.map f) }
  | offers (o : Ofe) (ids : RequestIdsUnique s → (bookIds o.book).Nodup)
      (room : WithinCapacity s → o.book.length ≤ 16) : Write seq svy s { s with ofe := o }
  | progress (p : Option Progress) : Write seq svy s { s with rhs.progress := p }
  | holds (l : List (Option HoldRecord)) (places : l.length = s.rhs.holds.length)
      (ids : (holdIds s.rhs.holds).Nodup → (holdIds l).Nodup) : Write seq svy s { s with rhs.holds := l }
  | survey (v : Svy) : Write seq svy s { s with svy := v }
  | sequencer (q : Seq) (acts : seq) (room : s.seq.queue.length ≤ 2 → q.queue.length ≤ 2) :
      Write seq svy s { s with seq := q }
  | slots (l : List Slot) (each : List.Forall₂ (SlotWrite seq svy s) s.slots l) : Write seq svy s { s with slots := l }
  | station (u : Sul) (cfg : u.cfg = s.sul.cfg) (number : u.station = s.sul.station) (clamps : u.clamps = s.sul.clamps)
      (clampCount : u.clampCount = s.sul.clampCount) (state : u.state = s.sul.state) :
      Write seq svy s { s with sul := u }
  | stationState (new : StationState) (runs : s.sul.state ≠ .starting ∨ PeersPlaced s)
      (zero : new = .active ∨ new = .withdrawn ∨ new = .holdup ∨ chargingStopped s = true) :
      Write seq svy s (plannerHandOff { s with sul.state := new })
  | pause : Write seq svy s (zeroAllSetpoints { s with lif.linePause := true })
  | pauseEnds : Write seq svy s { s with lif.linePause := false }

/-- A chain of elementary writes. -/
def Writes (seq svy : Prop) (s t : State) : Prop := Relation.ReflTransGen (Write seq svy) s t

/-- What every elementary write keeps, a chain keeps. -/
theorem Writes.keeps {seq svy : Prop} {P : State → Prop} (each : ∀ s t, Write seq svy s t → P s → P t) {s t : State}
    (h : Writes seq svy s t) (hs : P s) : P t := by
  induction h with
  | refl => exact hs
  | tail _ w ih => exact each _ _ w ih

section
variable {seq svy : Prop} {s u v : State}

theorem Writes.refl : Writes seq svy s s := Relation.ReflTransGen.refl

theorem Writes.trans (h : Writes seq svy s u) (k : Writes seq svy u v) : Writes seq svy s v :=
  Relation.ReflTransGen.trans h k

theorem Writes.next (h : Writes seq svy s u) (w : Write seq svy u v) : Writes seq svy s v :=
  Relation.ReflTransGen.tail h w

/-- An operation that the elementary writes make, after others that they make. -/
theorem Writes.ite {p : Prop} [Decidable p] (h : p → Writes seq svy s u) (k : ¬ p → Writes seq svy s v) :
    Writes seq svy s (if p then u else v) := by
  split
  · exact h ‹_›
  · exact k ‹_›

end

/-! ### Writes of one slot -/

theorem forall₂_modify {α : Type} {r : α → α → Prop} (refl : ∀ a, r a a) (f : α → α) (l : List α) (n : Nat)
    (h : ∀ a, l[n]? = some a → r a (f a)) : List.Forall₂ r l (l.modify n f) := by
  induction l generalizing n with
  | nil => simp
  | cons a l ih =>
    cases n with
    | zero => simpa [List.forall₂_same] using ⟨h a rfl, fun a _ => refl a⟩
    | succ n => simpa using ⟨refl a, ih n (fun a ha => h a (by simpa using ha))⟩

theorem forall₂_map {α : Type} {r : α → α → Prop} (f : α → α) (l : List α) (h : ∀ a ∈ l, r a (f a)) :
    List.Forall₂ r l (l.map f) := by
  simpa [List.forall₂_map_right_iff, List.forall₂_same] using h

theorem forall₂_mapIdx {α : Type} {r : α → α → Prop} (f : Nat → α → α) (l : List α) (h : ∀ n, ∀ a ∈ l, r a (f n a)) :
    List.Forall₂ r l (l.mapIdx f) := by
  induction l generalizing f with
  | nil => simp
  | cons a l ih =>
    simpa using ⟨h 0 a (by simp), ih (fun n => f (n + 1)) (fun n b hb => h (n + 1) b (by simp [hb]))⟩

section
variable {seq svy : Prop} {s : State}

theorem SlotWrite.refl (a : Slot) : SlotWrite seq svy s a a := ⟨.inr rfl, .inr ⟨rfl, rfl, rfl⟩, .inr (.inl ⟨rfl, id⟩)⟩

/-- A setpoint written as 0 (R92, R93). -/
theorem SlotWrite.zeroed (cfg : Cfg) (a : Slot) : SlotWrite seq svy s a (a.zeroed cfg) :=
  ⟨.inr rfl, .inr ⟨rfl, rfl, rfl⟩, .inl rfl⟩

@[simp] theorem mustNotCharge_refreshed (cfg : Cfg) (a : Slot) :
    mustNotCharge (a.refreshed cfg) = mustNotCharge a := rfl

end

section
variable {seq svy : Prop} {s u : State}

theorem modSlot_writes {n : Nat} {f : Slot → Slot} (h : Writes seq svy s u)
    (hf : ∀ a, u.slots[n]? = some a → SlotWrite seq svy u a (f a)) : Writes seq svy s (modSlot n f u) :=
  h.next (.slots _ (forall₂_modify SlotWrite.refl f u.slots n hf))

/-! ### The queue, the register and the counters (R38 to R42, R185) -/

theorem bump_writes (c : Counter) (h : Writes seq svy s u) : Writes seq svy s (bump c u) := h.next (.counter c)

theorem bumpIf_writes (b : Bool) (c : Counter) (h : Writes seq svy s u) : Writes seq svy s (bumpIf b c u) :=
  .ite (fun _ => bump_writes c h) (fun _ => h)

theorem setReplan_writes (h : Writes seq svy s u) : Writes seq svy s (setReplan u) := h.next (.planner _)

theorem decline_writes (rid : ReqId) (r : DeclineReason) (h : Writes seq svy s u) :
    Writes seq svy s (decline rid r u) :=
  (bump_writes _ h).next (.frame _ (by simp [declineFrame]))

theorem bumpClose_writes (o : Outcome) (a : Option AbortReason) (h : Writes seq svy s u) :
    Writes seq svy s (bumpClose o a u) := by
  unfold bumpClose
  split
  · exact bump_writes _ (bump_writes _ h)
  · exact bump_writes _ h

theorem close_writes (rid : ReqId) (o : Outcome) (a : Option AbortReason) (x y : Option Word) (h : Writes seq svy s u) :
    Writes seq svy s (close rid o a x y u) :=
  (bumpClose_writes o a h).next (.frame _ (by simp [closeFrame]))

theorem closeStretch_writes (rid : ReqId) (h : Writes seq svy s u) : Writes seq svy s (closeStretch rid u) :=
  h.next (.line _ rfl rfl rfl rfl)

theorem barRequest_writes (rid : ReqId) (h : Writes seq svy s u) : Writes seq svy s (barRequest rid u) :=
  (closeStretch_writes rid h).next (.line _ rfl rfl rfl rfl)

theorem clearRegister_writes (h : Writes seq svy s u) : Writes seq svy s (clearRegister u) :=
  .ite (fun _ => h.next (.line _ rfl rfl rfl rfl)) (fun _ => h.next (.line _ rfl rfl rfl rfl))

/-! ### The Allowance Unit (file 04) -/

theorem recomputeGrant_writes (h : Writes seq svy s u) : Writes seq svy s (recomputeGrant u) :=
  .ite (fun _ => h) (fun _ => setReplan_writes (h.next (.allowance _ rfl)))

theorem recomputeAllowance_writes (h : Writes seq svy s u) : Writes seq svy s (recomputeAllowance u) :=
  .ite (fun _ => h) (fun _ => recomputeGrant_writes (h.next (.allowance _ rfl)))

theorem produceDemand_writes (h : Writes seq svy s u) : Writes seq svy s (produceDemand u) :=
  (h.next (.frame (demandFrame u) (fun _ => rfl))).next (.allowance _ (by simp))

theorem earlyDemand_writes (h : Writes seq svy s u) : Writes seq svy s (earlyDemand u) := by
  unfold earlyDemand
  split
  · split
    · exact produceDemand_writes h
    · exact h.next (.allowance _ rfl)
  · exact h

theorem takeDemand_writes (n : BitVec 4) (p : Peer) (h : Writes seq svy s u) : Writes seq svy s (takeDemand n p u) :=
  .ite (fun _ => h)
    (fun other => recomputeGrant_writes (h.next (.peer _ p (fun e => other (BitVec.eq_of_toNat_eq e)))))

theorem takeMeter_writes (l m : Half) (h : Writes seq svy s u) : Writes seq svy s (takeMeter l m u) :=
  recomputeAllowance_writes (h.next (.allowance { u.alw with meter := _, freshTimer := _ } rfl))

theorem agePeers_writes (h : Writes seq svy s u) : Writes seq svy s (agePeers u) :=
  .ite (fun _ => h) (fun _ => recomputeGrant_writes (h.next (.peersAged _)))

theorem allowanceHandOff_writes (old : StationState) (h : Writes seq svy s u) :
    Writes seq svy s (allowanceHandOff old u) := by
  have hg := recomputeGrant_writes h
  unfold allowanceHandOff
  dsimp only
  split
  · split
    · exact hg
    · exact hg.next (.allowance _ rfl)
  · split
    · exact produceDemand_writes (hg.next (.allowance _ rfl))
    · exact hg.next (.allowance _ rfl)

/-! ### The Charge Planner (file 05) -/

theorem zeroAllSetpoints_writes (h : Writes seq svy s u) : Writes seq svy s (zeroAllSetpoints u) :=
  h.next (.slots _ (forall₂_map _ _ (fun a _ => SlotWrite.zeroed _ a)))

theorem setRole_writes (n : Nat) (r : Role) (rid : Option ReqId) (h : Writes seq svy s u) :
    Writes seq svy s (setRole n r rid u) := by
  refine setReplan_writes (modSlot_writes h (fun a _ => ?_))
  split
  · exact ⟨.inr rfl, .inr ⟨rfl, rfl, rfl⟩, .inl rfl⟩
  · refine ⟨.inr rfl, .inr ⟨rfl, rfl, rfl⟩, .inr (.inl ⟨rfl, ?_⟩)⟩
    simp_all [mustNotCharge]
    tauto

theorem freeRole_writes (n : Nat) (r : Role) (rid : ReqId) (h : Writes seq svy s u) :
    Writes seq svy s (freeRole n r rid u) := by
  unfold freeRole
  split
  · exact .ite (fun _ => setRole_writes _ _ _ h) (fun _ => h)
  · exact h

theorem beginPass_writes (h : Writes seq svy s u) : Writes seq svy s (beginPass u) :=
  .ite (fun _ => h.next (.planner _)) (fun _ => h)

theorem writePlan_slotWrite (p : Pass) (plan : List (Nat × Nat)) (n : Nat) (a : Slot) :
    SlotWrite seq svy u a (writePlan u.sul.cfg p.snap plan (mayCharge u.sul.state u.lif.linePause) n a) := by
  refine ⟨.inr rfl, .inr ⟨rfl, rfl, rfl⟩, ?_⟩
  by_cases zero : mayCharge u.sul.state u.lif.linePause && !zeroedAtEnd p.snap.slots[n]? a
  · right; right
    simp only [mayCharge, zeroedAtEnd, Bool.and_eq_true, Bool.not_eq_true'] at zero
    obtain ⟨⟨pause, state⟩, -⟩ := by simpa using zero
    rcases state with state | state <;> simp_all [chargingStopped, mustNotCharge, writePlan, Slot.refreshed]
  · left
    simp [writePlan, Slot.refreshed, zero]

theorem endPass_writes (p : Pass) (h : Writes seq svy s u) : Writes seq svy s (endPass p u) :=
  earlyDemand_writes ((recomputeGrant_writes (h.next (.planner _))).next
    (.slots _ (forall₂_mapIdx _ _ (fun n a _ => writePlan_slotWrite p _ n a))))

theorem plannerHandOff_writes (h : Writes seq svy s u) : Writes seq svy s (plannerHandOff u) :=
  .ite (fun _ => (zeroAllSetpoints_writes h).next (.planner _)) (fun _ => setReplan_writes h)

/-! ### What begins at the end of an event (R7, R77, R115) -/

theorem bookIds_map (f : Entry → Entry) (hf : ∀ e, (f e).rid = e.rid) (l : List Entry) :
    bookIds (l.map f) = bookIds l := by
  simp [bookIds, Function.comp_def, hf]

/-- OFE rewrites entries in their places (R110). -/
theorem offers_writes (o : Ofe) (ids : bookIds o.book = bookIds u.ofe.book) (h : Writes seq svy s u) :
    Writes seq svy s { u with ofe := o } := by
  refine h.next (.offers o (fun k => ids ▸ k.1) (fun k => ?_))
  have := congrArg List.length ids
  simp only [bookIds, List.length_map] at this
  exact this ▸ k.2.2.2.2.1

theorem beginEvaluation_writes (h : Writes seq svy s u) : Writes seq svy s (beginEvaluation u) := by
  unfold beginEvaluation
  split
  · split
    · exact offers_writes _ (bookIds_map _ (fun x => by split <;> rfl) _) h
    · exact h
  · exact h

theorem beginStep_writes (k : StepKind) (n : Nat) (h : Writes seq svy s u) : Writes seq svy s (beginStep k n u) :=
  h.next (.survey _)

theorem beginGapFocus_writes (h : Writes seq svy s u) : Writes seq svy s (beginGapFocus u) := by
  unfold beginGapFocus
  split
  · exact .ite (fun _ => beginStep_writes _ _ h) (fun _ => h)
  · exact h

theorem settle_writes (h : Writes seq svy s u) : Writes seq svy s (settle u) :=
  beginGapFocus_writes (beginEvaluation_writes (beginPass_writes h))

end

end Sys2Proof.Machine
end

section
/-! Proofs that the operations on the Request Book, the retained store and the swap are chains of elementary writes. -/

namespace Sys2Proof.Machine

open Sys2Proof

section
variable {seq svy : Prop} {s u : State}

/-! ### The retained store (R169) -/

theorem holdIds_sublist_of_map {f : Option HoldRecord → Option HoldRecord} (hf : ∀ h, f h = none ∨ f h = h)
    (l : List (Option HoldRecord)) : (holdIds (l.map f)).Sublist (holdIds l) := by
  induction l with
  | nil => exact .slnil
  | cons x l ih =>
    rcases hf x with e | e <;> cases x <;> simp_all [holdIds]

theorem holdIds_dropHold_sublist (rid : ReqId) (l : List (Option HoldRecord)) :
    (holdIds (dropHold rid l)).Sublist (holdIds l) :=
  holdIds_sublist_of_map (fun h => by split <;> simp) l

theorem length_placeHold (r : HoldRecord) (l : List (Option HoldRecord)) : (placeHold r l).length = l.length := by
  induction l with
  | nil => rfl
  | cons x l ih => cases x <;> simp [placeHold, ih]

theorem length_putHold (r : HoldRecord) (l : List (Option HoldRecord)) : (putHold r l).length = l.length := by
  unfold putHold
  split <;> simp [length_placeHold]

theorem holdIds_placeHold_perm (r : HoldRecord) (l : List (Option HoldRecord)) (free : none ∈ l) :
    (holdIds (placeHold r l)).Perm (r.rid :: holdIds l) := by
  induction l with
  | nil => simp at free
  | cons x l ih =>
    cases x with
    | none => simp [placeHold, holdIds]
    | some x =>
      have := ih (by simpa using free)
      simpa [placeHold, holdIds] using (this.cons x.rid).trans (.swap _ _ _)

theorem placeHold_of_full (r : HoldRecord) (l : List (Option HoldRecord)) (full : none ∉ l) : placeHold r l = l := by
  induction l with
  | nil => rfl
  | cons x l ih => cases x <;> simp_all [placeHold]

theorem holdsFor_iff {rid : ReqId} {h : Option HoldRecord} : holdsFor rid h = true ↔ ∃ r, h = some r ∧ r.rid = rid := by
  cases h <;> simp [holdsFor]

theorem mem_holdIds {rid : ReqId} {l : List (Option HoldRecord)} : rid ∈ holdIds l ↔ l.any (holdsFor rid) = true := by
  simp [holdIds, holdsFor_iff]

theorem holdIds_putHold_of_any (r : HoldRecord) (l : List (Option HoldRecord)) :
    holdIds (l.map (fun h => if holdsFor r.rid h then some r else h)) = holdIds l := by
  induction l with
  | nil => rfl
  | cons x l ih =>
    cases x with
    | none => simpa [holdIds, holdsFor] using ih
    | some x => by_cases e : x.rid = r.rid <;> simpa [holdIds, holdsFor, e] using ih

/-- A record that is written keeps the ids of the records unique (R169). -/
theorem holdIds_putHold_nodup (r : HoldRecord) (l : List (Option HoldRecord)) (h : (holdIds l).Nodup) :
    (holdIds (putHold r l)).Nodup := by
  unfold putHold
  split
  · rwa [holdIds_putHold_of_any]
  · next new =>
    by_cases free : none ∈ l
    · rw [(holdIds_placeHold_perm r l free).nodup_iff, List.nodup_cons, mem_holdIds]
      exact ⟨new, h⟩
    · rwa [placeHold_of_full r l free]

theorem removeRecord_writes (rid : ReqId) (h : Writes seq svy s u) : Writes seq svy s (removeRecord rid u) :=
  h.next (.holds _ (by simp [dropHold]) (fun k => k.sublist (holdIds_dropHold_sublist rid _)))

theorem syncRecord_writes (rid : ReqId) (h : Writes seq svy s u) : Writes seq svy s (syncRecord rid u) := by
  unfold syncRecord
  split
  · exact h.next (.holds _ (length_putHold _ _) (holdIds_putHold_nodup _ _))
  · exact h

/-! ### The Request Book (7.1) -/

theorem modEntry_writes (rid : ReqId) {f : Entry → Entry} (hf : ∀ e, (f e).rid = e.rid) (h : Writes seq svy s u) :
    Writes seq svy s (modEntry rid f u) :=
  offers_writes { u.ofe with book := _ } (bookIds_map _ (fun e => by split <;> simp [hf]) _) h

theorem holdAgain_writes (rid : ReqId) (h : Writes seq svy s u) : Writes seq svy s (holdAgain rid u) :=
  setReplan_writes (syncRecord_writes _ (modEntry_writes _ (fun _ => rfl) h))

theorem lapse_writes (rid : ReqId) (h : Writes seq svy s u) : Writes seq svy s (lapse rid u) := by
  unfold lapse
  split
  · exact h
  · refine close_writes _ _ _ _ _ (setReplan_writes (modEntry_writes _ (fun _ => rfl) (removeRecord_writes _ ?_)))
    split
    · exact freeRole_writes _ _ _ h
    · exact h

theorem foldl_writes {α : Type} {f : State → α → State} (hf : ∀ a u, Writes seq svy s u → Writes seq svy s (f u a))
    (l : List α) (h : Writes seq svy s u) : Writes seq svy s (l.foldl f u) := by
  induction l generalizing u with
  | nil => exact h
  | cons a l ih => exact ih (hf a u h)

theorem lapseDue_writes (h : Writes seq svy s u) : Writes seq svy s (lapseDue u) :=
  foldl_writes (fun rid _ k => lapse_writes rid k) _ h

theorem removeLingered_writes (h : Writes seq svy s u) : Writes seq svy s (removeLingered u) :=
  h.next (.offers { u.ofe with book := _ } (fun k => k.1.sublist (List.filter_sublist.map _))
    (fun k => (List.length_filter_le _ _).trans k.2.2.2.2.1))

theorem cancelServing_writes (rid : ReqId) (h : Writes seq svy s u) : Writes seq svy s (cancelServing rid u) := by
  unfold cancelServing
  split
  · exact h
  · refine setReplan_writes (removeRecord_writes _ (modEntry_writes _ (fun _ => rfl) ?_))
    split
    · exact freeRole_writes _ _ _ h
    · exact h

theorem writeProgress_writes (h : Writes seq svy s u) : Writes seq svy s (writeProgress u) := by
  unfold writeProgress
  split
  · exact h.next (.progress _)
  · exact h

theorem setFocus_writes (f : Option Nat) (h : Writes seq svy s u) :
    Writes seq svy s (setFocus f u) := h.next (.survey _)

theorem renumberQueue_writes (h : Writes seq svy s u) : Writes seq svy s (renumberQueue u) :=
  offers_writes { u.ofe with book := _ } (bookIds_map _ (fun e => by split <;> [rfl; split <;> rfl]) _) h

theorem endServing_writes (rid : ReqId) (after : EntryAfter) (h : Writes seq svy s u) :
    Writes seq svy s (endServing rid after u) := by
  cases after
  · exact removeRecord_writes _ (modEntry_writes _ (fun _ => rfl) h)
  · exact removeRecord_writes _ (modEntry_writes _ (fun _ => rfl) h)
  · exact holdAgain_writes _ h

theorem freeRelease_writes (w : Swap) (h : Writes seq svy s u) : Writes seq svy s (freeRelease w u) :=
  freeRole_writes _ _ _ h

end

/-! ### The swap (file 09): SEQ acts -/

section
variable {svy : Prop} {s u : State}

/-- SEQ rewrites its records but for the serve queue. -/
theorem sequencer_writes (q : Seq) (queue : q.queue = u.seq.queue) (h : Writes True svy s u) :
    Writes True svy s { u with seq := q } :=
  h.next (.sequencer q trivial (fun k => queue ▸ k))

theorem setLatch_writes (n : Nat) (b : Bool) (h : Writes True svy s u) : Writes True svy s (setLatch n b u) :=
  modSlot_writes h (fun _ _ => ⟨.inl trivial, .inr ⟨rfl, rfl, rfl⟩, .inr (.inl ⟨rfl, id⟩)⟩)

theorem startTimer_writes (t : StepTimer) (ms : Nat) (h : Writes True svy s u) :
    Writes True svy s (startTimer t ms u) :=
  sequencer_writes _ rfl h

theorem modSwap_writes (f : Swap → Swap) (h : Writes True svy s u) : Writes True svy s (modSwap f u) :=
  sequencer_writes _ rfl h

theorem openReturnAt_writes (d : Nat) (h : Writes True svy s u) : Writes True svy s (openReturnAt d u) :=
  writeProgress_writes (modSwap_writes _ (startTimer_writes _ _ (setFocus_writes _ (setLatch_writes _ _ h))))

theorem handBack_writes (rid : ReqId) (h : Writes True svy s u) : Writes True svy s (handBack rid u) :=
  decline_writes _ _ (holdAgain_writes _ (Writes.next
    (sequencer_writes { u.seq with active := none, timer := none } rfl h) (.progress none)))

theorem openReturn_writes (rid : ReqId) (h : Writes True svy s u) : Writes True svy s (openReturn rid u) := by
  unfold openReturn
  split
  · exact openReturnAt_writes _ (setRole_writes _ _ _ h)
  · exact handBack_writes _ h

theorem startSwap_writes (rid : ReqId) (h : Writes True svy s u) : Writes True svy s (startSwap rid u) := by
  have k : ∀ w, Writes True svy s (modEntry rid (fun e => { e with servePos := some .active })
      { u with seq.active := w }) :=
    fun w => modEntry_writes _ (fun _ => rfl) (sequencer_writes { u.seq with active := w } rfl h)
  exact .ite (fun _ => openReturn_writes _ (k _)) (fun _ => k _)

theorem runQueue_writes (n : Nat) (h : Writes True svy s u) : Writes True svy s (runQueue n u) := by
  induction n generalizing u with
  | zero => exact h
  | succ n ih =>
    unfold runQueue
    split
    · exact h
    · next rid rest queue =>
      refine .ite (fun _ => ih (startSwap_writes _ (renumberQueue_writes (h.next (.sequencer _ trivial ?_)))))
        (fun _ => h)
      simp only [queue, List.length_cons]
      omega

theorem lookAtQueue_writes (h : Writes True svy s u) : Writes True svy s (lookAtQueue u) := runQueue_writes _ h

theorem clearSwap_writes (h : Writes True svy s u) : Writes True svy s (clearSwap u) :=
  setFocus_writes none (Writes.next (sequencer_writes { u.seq with timer := none, active := none } rfl h)
    (.progress none))

theorem endSwap_writes (o : Outcome) (a : Option AbortReason) (after : EntryAfter) (w : Swap)
    (h : Writes True svy s u) : Writes True svy s (endSwap o a after w u) :=
  lookAtQueue_writes (clearSwap_writes (close_writes _ _ _ _ _ (endServing_writes _ _ h)))

theorem closeDock_writes (w : Swap) (h : Writes True svy s u) : Writes True svy s (closeDock w u) := by
  unfold closeDock
  split
  · exact setRole_writes _ _ _ (setLatch_writes _ _ h)
  · exact h

theorem stopTimer_writes (h : Writes True svy s u) : Writes True svy s { u with seq.timer := none } :=
  sequencer_writes { u.seq with timer := none } rfl h

theorem openRelease_writes (n : Nat) (w : Swap) (h : Writes True svy s u) : Writes True svy s (openRelease n w u) :=
  writeProgress_writes (modSwap_writes _ (startTimer_writes _ _ (setFocus_writes _ (setLatch_writes _ _
    (setRole_writes _ _ _ h)))))

theorem endGiveBack_writes (r : AbortReason) (w : Swap) (h : Writes True svy s u) :
    Writes True svy s (endGiveBack r w u) :=
  endSwap_writes _ _ _ _ (freeRelease_writes _ h)

theorem openGiveBack_writes (d : Nat) (r : AbortReason) (w : Swap) (h : Writes True svy s u) :
    Writes True svy s (openGiveBack d r w u) :=
  writeProgress_writes (modSwap_writes _ (startTimer_writes _ _ (setFocus_writes _ (setLatch_writes _ _
    (setRole_writes _ _ _ h)))))

theorem giveBack_writes (r : AbortReason) (w : Swap) (h : Writes True svy s u) :
    Writes True svy s (giveBack r w u) := by
  have ends := endGiveBack_writes r w (setReplan_writes h)
  unfold giveBack
  split
  · split
    · exact .ite (fun _ => openGiveBack_writes _ _ _ h) (fun _ => ends)
    · exact ends
  · exact ends

theorem substitute_writes (w : Swap) (e : Entry) (h : Writes True svy s u) : Writes True svy s (substitute w e u) := by
  unfold substitute
  split
  · exact openRelease_writes _ _ (syncRecord_writes _ (modEntry_writes _ (fun _ => rfl)
      (freeRelease_writes _ (setRole_writes _ _ _ h))))
  · exact giveBack_writes _ _ h

theorem openWait_writes (e : Entry) (h : Writes True svy s u) : Writes True svy s (openWait e u) :=
  setReplan_writes (writeProgress_writes (modSwap_writes _ (startTimer_writes _ _ h)))

theorem releaseReady_writes (w : Swap) (h : Writes True svy s u) : Writes True svy s (releaseReady w u) := by
  unfold releaseReady
  split
  · exact .ite (fun _ => openRelease_writes _ _ h) (fun _ => .ite
      (fun _ => .ite (fun _ => openWait_writes _ h) (fun _ => giveBack_writes _ _ h)) (fun _ => substitute_writes _ _ h))
  · exact substitute_writes _ _ h
  · exact h

theorem judgeWaiting_writes (w : Swap) (h : Writes True svy s u) : Writes True svy s (judgeWaiting w u) := by
  unfold judgeWaiting
  split
  · exact .ite (fun _ => openRelease_writes _ _ h) (fun _ => .ite (fun _ => h) (fun _ => substitute_writes _ _ h))
  · exact h

theorem rejudge_writes (n : Nat) (h : Writes True svy s u) : Writes True svy s (rejudge n u) := by
  unfold rejudge
  split
  · exact .ite (fun _ => judgeWaiting_writes _ h) (fun _ => h)
  · exact h

theorem openCheck_writes (h : Writes True svy s u) : Writes True svy s (openCheck u) :=
  writeProgress_writes (modSwap_writes _ (startTimer_writes _ _ h))

theorem openReject_writes (d : Nat) (h : Writes True svy s u) : Writes True svy s (openReject d u) :=
  writeProgress_writes (modSwap_writes _ (startTimer_writes _ _ (setFocus_writes _ (setLatch_writes _ _ h))))

theorem endReject_writes (w : Swap) (h : Writes True svy s u) : Writes True svy s (endReject w u) :=
  endSwap_writes _ _ _ _ (closeDock_writes _ (stopTimer_writes h))

theorem acceptReturn_writes (p : Pack) (w : Swap) (h : Writes True svy s u) : Writes True svy s (acceptReturn p w u) :=
  releaseReady_writes _ (modEntry_writes _ (fun _ => rfl) (setFocus_writes _ (closeDock_writes _
    (sequencer_writes { u.seq with timer := none, active := _ } rfl h))))

theorem judgeReturn_writes (c : Cond) (p : Option Pack) (d : Nat) (w : Swap) (h : Writes True svy s u) :
    Writes True svy s (judgeReturn c p d w u) := by
  unfold judgeReturn
  split
  · exact .ite (fun _ => acceptReturn_writes _ _ h) (fun _ => openReject_writes _ h)
  · exact openReject_writes _ h

theorem takeReport_writes (n : Nat) (r : Report) (h : Writes True svy s u) : Writes True svy s (takeReport n r u) := by
  unfold takeReport
  split
  · exact h
  · split
    · exact h
    · exact .ite (fun _ => openCheck_writes h) (fun _ => h)
    · exact .ite (fun _ => judgeReturn_writes _ _ _ _ h) (fun _ => h)
    · exact .ite (fun _ => endReject_writes _ h) (fun _ => h)
    · exact .ite (fun _ => judgeWaiting_writes _ h) (fun _ => h)
    · exact .ite (fun _ => endSwap_writes _ _ _ _ (setRole_writes _ _ _ (setLatch_writes _ _ (stopTimer_writes h))))
        (fun _ => h)
    · exact .ite (fun _ => endGiveBack_writes _ _ (closeDock_writes _ (stopTimer_writes h))) (fun _ => h)

theorem resumeReturn_writes (d : Nat) (w : Swap) (h : Writes True svy s u) :
    Writes True svy s (resumeReturn d w u) := by
  unfold resumeReturn
  split
  · exact h
  · split
    · exact openReturnAt_writes _ h
    · exact openCheck_writes (setFocus_writes _ (setLatch_writes _ _ h))
    · exact judgeReturn_writes _ _ _ _ h
    · exact openReject_writes _ h
    · exact openReject_writes _ h

theorem resumeSwap_writes (p : ProgressStep) (w : Swap) (h : Writes True svy s u) :
    Writes True svy s (resumeSwap p w u) := by
  cases p
  · exact resumeReturn_writes _ _ h
  · exact resumeReturn_writes _ _ h
  · exact .ite (fun _ => endReject_writes _ h) (fun _ => openReject_writes _ h)
  · exact releaseReady_writes _ h
  · exact .ite (fun _ => endSwap_writes _ _ _ _ (setRole_writes _ _ _ (setLatch_writes _ _ h)))
      (fun _ => openRelease_writes _ _ h)
  · exact .ite (fun _ => endGiveBack_writes _ _ (closeDock_writes _ h)) (fun _ => openGiveBack_writes _ _ _ h)
  · exact .ite (fun _ => endGiveBack_writes _ _ (closeDock_writes _ h)) (fun _ => openGiveBack_writes _ _ _ h)

theorem takeFirstPass_writes (h : Writes True svy s u) : Writes True svy s (takeFirstPass u) := by
  have h1 := sequencer_writes { u.seq with firstPassSeen := true } rfl h
  unfold takeFirstPass
  dsimp only
  split
  · exact h1
  · refine .ite (fun _ => ?_) (fun _ => h1)
    split
    · exact lookAtQueue_writes (openReturn_writes _ h1)
    · exact resumeSwap_writes _ _ h1

theorem takeBegin_writes (rid : ReqId) (h : Writes True svy s u) : Writes True svy s (takeBegin rid u) := by
  unfold takeBegin
  split
  · exact decline_writes _ _ h
  · refine .ite (fun _ => decline_writes _ _ h) (fun _ => .ite (fun _ => decline_writes _ _ h) (fun _ =>
      .ite (fun _ => decline_writes _ _ h) (fun _ => .ite
        (fun _ => lookAtQueue_writes (startSwap_writes _ (modEntry_writes _ (fun _ => rfl) h)))
        (fun _ => .ite (fun room => renumberQueue_writes (modEntry_writes _ (fun _ => rfl) (h.next
          (.sequencer { u.seq with queue := _ } trivial (fun _ => ?_))))) (fun _ => decline_writes _ _ h)))))
    simpa using Nat.succ_le_of_lt room

theorem endCancelled_writes (w : Swap) (h : Writes True svy s u) : Writes True svy s (endCancelled w u) :=
  endSwap_writes _ _ _ _ (freeRelease_writes _ (closeDock_writes _ (stopTimer_writes h)))

/-- A request leaves the serve queue by a CANCEL (R160). -/
theorem cancelQueued_writes (rid : ReqId) (h : Writes True svy s u) : Writes True svy s (renumberQueue
    (cancelServing rid { u with seq.queue := u.seq.queue.filter (fun r => decide (r ≠ rid)) })) :=
  renumberQueue_writes (cancelServing_writes _ (h.next
    (.sequencer { u.seq with queue := _ } trivial (fun k => (List.length_filter_le _ _).trans k))))

theorem cancelSwap_writes (rid : ReqId) (h : Writes True svy s u) : Writes True svy s (cancelSwap rid u) := by
  unfold cancelSwap
  split
  · refine .ite (fun _ => ?_) (fun _ => .ite (fun _ => cancelQueued_writes _ h) (fun _ => h))
    split
    · split
      · exact lookAtQueue_writes (cancelServing_writes _ (sequencer_writes { u.seq with active := none } rfl h))
      · exact endCancelled_writes _ h
      · exact h
    · exact endCancelled_writes _ h
    · exact h
  · exact .ite (fun _ => cancelQueued_writes _ h) (fun _ => h)

end

end Sys2Proof.Machine
end

section
/-! Proofs that the operations of the Offer Engine, the Line Interface, the survey and the station are chains of elementary
writes, and what each command makes of the state before its writes. -/

namespace Sys2Proof.Machine

open Sys2Proof

/-! ### The Offer Engine (files 07 and 08) -/

theorem entry?_eq_none_iff {rid : ReqId} {s : State} : s.entry? rid = none ↔ rid ∉ bookIds s.ofe.book := by
  simp [State.entry?, bookIds]

theorem entry?_mem {rid : ReqId} {s : State} {e : Entry} (h : s.entry? rid = some e) : e ∈ s.ofe.book ∧ e.rid = rid :=
  ⟨List.mem_of_find?_eq_some h, by simpa using List.find?_some h⟩

theorem bookIds_append_nodup {l : List Entry} {e : Entry} (h : (bookIds l).Nodup) (new : e.rid ∉ bookIds l) :
    (bookIds (l ++ [e])).Nodup := by
  simpa [bookIds, List.nodup_append] using ⟨h, by simpa [bookIds] using new⟩

theorem removeFirst_sublist {α : Type} (p : α → Bool) (l : List α) : (removeFirst p l).Sublist l := by
  induction l with
  | nil => exact .slnil
  | cons x l ih =>
    unfold removeFirst
    split
    · exact List.sublist_cons_self x l
    · exact ih.cons_cons x

theorem length_removeFirst_lt {α : Type} (p : α → Bool) (l : List α) (h : l.any p = true) :
    (removeFirst p l).length < l.length := by
  induction l with
  | nil => simp at h
  | cons x l ih =>
    unfold removeFirst
    split
    · simp
    · next k => simpa using ih (by simpa [k] using h)

theorem length_filter_ne_lt {l : List Entry} {e : Entry} (h : e ∈ l) :
    (l.filter (fun x => decide (x.rid ≠ e.rid))).length < l.length :=
  List.length_filter_lt_length_iff_exists.2 ⟨e, h, by simp⟩

section
variable {seq svy : Prop} {s u : State}

theorem enterRequest_writes (e : Entry) (new : u.entry? e.rid = none) (h : Writes seq svy s u) :
    Writes seq svy s (enterRequest e u) := by
  rw [entry?_eq_none_iff] at new
  refine .ite (fun room => h.next (.offers { u.ofe with book := _ } (fun k => bookIds_append_nodup k.1 new)
    (fun _ => by simpa using room))) (fun full => .ite (fun ended => ?_) (fun _ => closeStretch_writes _ (bump_writes _ h)))
  have sub := removeFirst_sublist (fun x : Entry => !x.state.live) u.ofe.book
  refine h.next (.offers { u.ofe with book := _ } (fun k => ?_) (fun k => ?_))
  · exact bookIds_append_nodup (k.1.sublist (sub.map _)) (fun m => new ((sub.map _).subset m))
  · have := length_removeFirst_lt _ _ ended
    have := k.2.2.2.2.1
    simp only [List.length_append, List.length_singleton]
    omega

theorem renewRequest_writes (e : Entry) {old : Entry} (held : u.entry? e.rid = some old) (h : Writes seq svy s u) :
    Writes seq svy s (renewRequest e u) := by
  obtain ⟨mem, rid⟩ := entry?_mem held
  refine h.next (.offers { u.ofe with book := _ } (fun k => ?_) (fun k => ?_))
  · exact bookIds_append_nodup (k.1.sublist (List.filter_sublist.map _)) (by simp [bookIds])
  · have := length_filter_ne_lt mem
    have := k.2.2.2.2.1
    simp only [rid, List.length_append, List.length_singleton] at *
    omega

theorem enterOrRenew_writes (e : Entry) (h : Writes seq svy s u) : Writes seq svy s (enterOrRenew e u) := by
  unfold enterOrRenew
  split
  · next new => exact enterRequest_writes _ new h
  · next old held =>
    exact .ite (fun _ => renewRequest_writes _ held h) (fun _ => closeStretch_writes _ (bump_writes _ h))

theorem takeRequest_writes (n : BitVec 4) (rid : ReqId) (b0 b1 b2 b3 b4 : Byte) (h : Writes seq svy s u) :
    Writes seq svy s (takeRequest n rid b0 b1 b2 b3 b4 u) := by
  unfold takeRequest
  split
  · exact .ite (fun _ => enterOrRenew_writes _ h) (fun _ => barRequest_writes _ (bump_writes _ h))
  · exact barRequest_writes _ (bump_writes _ h)

theorem late_writes (rid : ReqId) (h : Writes seq svy s u) : Writes seq svy s (late rid u) := by
  unfold late
  split
  · exact .ite (fun _ => closeStretch_writes _ (modEntry_writes _ (fun _ => rfl) h)) (fun _ => h)
  · exact h

theorem settleCandidate_writes (e : Entry) (c : Candidate) (h : Writes seq svy s u) :
    Writes seq svy s (settleCandidate e c u) := by
  have h1 := modEntry_writes e.rid (f := fun x => { x with offer := some ⟨c.slot, c.score, c.pack.id⟩ }) (fun _ => rfl) h
  exact .ite (fun _ => modEntry_writes _ (fun _ => rfl) h1) (fun _ => .ite
    (fun _ => modEntry_writes _ (fun _ => rfl) h1)
    (fun _ => modEntry_writes _ (fun _ => rfl) (h1.next (.line _ rfl rfl rfl rfl))))

theorem endEvaluation_writes (v : EvalView) (h : Writes seq svy s u) : Writes seq svy s (endEvaluation v u) := by
  unfold endEvaluation
  split
  · exact h
  · refine .ite (fun _ => h) (fun _ => ?_)
    split
    · exact closeStretch_writes _ (modEntry_writes _ (fun _ => rfl) h)
    · exact closeStretch_writes _ (settleCandidate_writes _ _ h)

theorem offerWon_writes (rid : ReqId) (h : Writes seq svy s u) : Writes seq svy s (offerWon rid u) := by
  unfold offerWon
  split
  · exact h
  · split
    · exact .ite (fun _ => setRole_writes _ _ _ (modEntry_writes _ (fun _ => rfl) h))
        (fun _ => modEntry_writes _ (fun _ => rfl) h)
    · exact modEntry_writes _ (fun _ => rfl) h

theorem offerBeaten_writes (rid : ReqId) (w : Winner) (h : Writes seq svy s u) :
    Writes seq svy s (offerBeaten rid w u) := by
  unfold offerBeaten
  split
  · exact h
  · exact clearRegister_writes (modEntry_writes _ (fun _ => rfl) h)

theorem offerTried_writes (rid : ReqId) (h : Writes seq svy s u) : Writes seq svy s (offerTried rid u) := by
  unfold offerTried
  split
  · exact h
  · exact .ite (fun _ => clearRegister_writes (modEntry_writes _ (fun _ => rfl) h))
      (fun _ => modEntry_writes _ (fun _ => rfl) h)

theorem offerClashed_writes (rid : ReqId) (h : Writes seq svy s u) : Writes seq svy s (offerClashed rid u) := by
  unfold offerClashed
  split
  · exact h
  · exact modEntry_writes _ (fun _ => rfl) h

theorem takeOffer_writes (n : BitVec 4) (c : Byte) (rid : ReqId) (b : Byte) (h : Writes seq svy s u) :
    Writes seq svy s (takeOffer n c rid b u) := by
  refine .ite (fun _ => bump_writes _ h) (fun _ => ?_)
  split
  · exact h
  · split
    · exact h
    · exact h
    · exact h
    · exact clearRegister_writes (modEntry_writes _ (fun _ => rfl) h)
    · exact modEntry_writes _ (fun _ => rfl) h

theorem freePledge_writes (e : Entry) (h : Writes seq svy s u) : Writes seq svy s (freePledge e u) := by
  unfold freePledge
  split
  · exact freeRole_writes _ _ _ h
  · exact h

theorem makeHold_writes (rid : ReqId) (e : Entry) (n : Nat) (h : Writes seq svy s u) :
    Writes seq svy s (makeHold rid e n u) :=
  syncRecord_writes _ (modEntry_writes _ (fun _ => rfl) (setRole_writes _ _ _ h))

theorem takeAssignHere_writes (rid : ReqId) (h : Writes seq svy s u) : Writes seq svy s (takeAssignHere rid u) := by
  unfold takeAssignHere
  split
  · exact decline_writes _ _ h
  · refine .ite (fun _ => decline_writes _ _ h) (fun _ => ?_)
    split
    · exact decline_writes _ _ (modEntry_writes _ (fun _ => rfl) h)
    · exact .ite (fun _ => makeHold_writes _ _ _ h)
        (fun _ => decline_writes _ _ (freePledge_writes _ (modEntry_writes _ (fun _ => rfl) h)))

theorem takeAssignElsewhere_writes (rid : ReqId) (n : BitVec 4) (h : Writes seq svy s u) :
    Writes seq svy s (takeAssignElsewhere rid n u) := by
  have live := modEntry_writes rid (f := Entry.liveElsewhere n u.rhs.seconds) (fun _ => rfl) h
  unfold takeAssignElsewhere
  split
  · exact h
  · next e held =>
    cases e.state
    case heard => exact closeStretch_writes _ live
    case evaluating => exact closeStretch_writes _ live
    case contending => exact clearRegister_writes live
    case offered => exact freePledge_writes _ live
    case satOut => exact modEntry_writes _ (fun _ => rfl) h
    case beaten => exact modEntry_writes _ (fun _ => rfl) h
    case held => exact bump_writes _ h
    case serving => exact bump_writes _ h
    all_goals exact h

theorem takeAssign_writes (rid : ReqId) (b : Byte) (h : Writes seq svy s u) : Writes seq svy s (takeAssign rid b u) :=
  .ite (fun _ => bump_writes _ h) (fun _ => .ite (fun _ => takeAssignHere_writes _ h)
    (fun _ => takeAssignElsewhere_writes _ _ h))

theorem takeUpdate_writes (rid : ReqId) (b : Byte) (h : Writes seq svy s u) :
    Writes seq svy s (takeUpdate rid b u) := by
  unfold takeUpdate
  split
  · exact h
  · next e held =>
    cases e.state
    case held => exact setReplan_writes (syncRecord_writes _ (modEntry_writes _ (fun _ => rfl) h))
    case heard => exact modEntry_writes _ (fun _ => rfl) h
    case evaluating => exact modEntry_writes _ (fun _ => rfl) h
    case contending => exact modEntry_writes _ (fun _ => rfl) h
    case offered => exact modEntry_writes _ (fun _ => rfl) h
    all_goals exact h

/-! ### The receive buffer (R36, R37) and loss reports (R35) -/

theorem toSpace_writes (h : Writes seq svy s u) : Writes seq svy s (toSpace u) := h.next (.line _ rfl rfl rfl rfl)

theorem reportLoss_writes (w : ReqId → Option Winner) (h : Writes seq svy s u) :
    Writes seq svy s (reportLoss w u) := by
  have h1 : Writes seq svy s { u with lif.lossPending := false } := h.next (.line _ rfl rfl rfl rfl)
  refine .ite (fun _ => ?_) (fun _ => h)
  split
  · exact h1
  · split
    · exact offerBeaten_writes _ _ h1
    · exact offerTried_writes _ h1

/-- A frame whose taking has no part in a swap (R37). -/
def Message.calm : Message → Bool
  | .beginSwap _ | .cancel _ => false
  | _ => true

theorem takeFrame_calm_writes (f : RxFrame) (calm : f.msg.calm = true) (h : Writes seq svy s u) :
    Writes seq svy s (takeFrame f u) := by
  unfold takeFrame
  split
  · exact h.next (.frame _ (by simp [statusFrame]))
  · refine .ite (fun _ => h) (fun _ => ?_)
    split
    case h_1 => exact takeRequest_writes _ _ _ _ _ _ _ h
    case h_2 => exact takeOffer_writes _ _ _ _ h
    case h_3 => exact takeAssign_writes _ _ h
    case h_4 => exact takeUpdate_writes _ _ h
    case h_5 e => simp [Message.calm, e] at calm
    case h_6 e => simp [Message.calm, e] at calm
    case h_7 => exact takeDemand_writes _ _ h
    case h_8 => exact takeMeter_writes _ _ h
    all_goals exact h

end

section
variable {svy : Prop} {s u : State}

theorem takeCancel_writes (rid : ReqId) (h : Writes True svy s u) : Writes True svy s (takeCancel rid u) := by
  have ended := modEntry_writes rid (f := Entry.ended .cancelled u.rhs.seconds) (fun _ => rfl) h
  unfold takeCancel
  split
  · exact h
  · next e held =>
    cases e.state
    case heard => exact closeStretch_writes _ ended
    case evaluating => exact closeStretch_writes _ ended
    case contending => exact clearRegister_writes ended
    case offered => exact setReplan_writes (freePledge_writes _ ended)
    case held =>
      refine setReplan_writes (removeRecord_writes _ (modEntry_writes _ (fun _ => rfl) ?_))
      split
      · exact freeRole_writes _ _ _ h
      · exact h
    case serving => exact cancelSwap_writes _ h
    all_goals exact h

theorem takeFrame_writes (f : RxFrame) (h : Writes True svy s u) : Writes True svy s (takeFrame f u) := by
  by_cases calm : f.msg.calm = true
  · exact takeFrame_calm_writes f calm h
  · unfold takeFrame
    split
    · next e => simp [Message.calm, e] at calm
    · refine .ite (fun _ => h) (fun _ => ?_)
      split
      case h_5 => exact .ite (fun _ => takeBegin_writes _ h) (fun _ => bump_writes _ h)
      case h_6 => exact takeCancel_writes _ h
      all_goals simp_all [Message.calm]

theorem dispatch_writes (n : Nat) (h : Writes True svy s u) : Writes True svy s (dispatch n u) := by
  induction n generalizing u with
  | zero => exact h
  | succ n ih =>
    unfold dispatch
    split
    · exact h
    · exact ih (Writes.next (takeFrame_writes _ h) .drop)

theorem deliver_writes (f : RxFrame) (h : Writes True svy s u) : Writes True svy s (deliver f u) :=
  dispatch_writes _ (h.next (.store f))

theorem receiveGood_writes (f : RxFrame) (h : Writes True svy s u) : Writes True svy s (receiveGood f u) :=
  .ite (fun _ => settle_writes (.ite (fun _ => deliver_writes _ (reportLoss_writes _ (toSpace_writes h)))
    (fun _ => reportLoss_writes _ (toSpace_writes h)))) (fun _ => h)

theorem handleFrame_writes (f : LineFrame) (h : Writes True svy s u) : Writes True svy s (handleFrame f u) := by
  refine .ite (fun _ => bump_writes _ h) (fun _ => .ite (fun _ => h) (fun _ => ?_))
  split
  · exact bump_writes _ h
  · exact .ite (fun _ => deliver_writes _ h) (fun _ => bump_writes _ h)

end

/-! ### Transmissions and the line (file 02) -/

section
variable {seq svy : Prop} {s u : State}

theorem failTransmission_writes (h : Writes seq svy s u) : Writes seq svy s (failTransmission u) := by
  have h1 : Writes seq svy s { u with lif.tx := none } := h.next (.line _ rfl rfl rfl rfl)
  unfold failTransmission
  split
  · exact h
  · dsimp only
    split
    · exact h1.next (.retries _)
    · refine .ite (fun _ => h1.next (.line _ rfl rfl rfl rfl)) (fun _ => ?_)
      split
      · exact offerTried_writes _ h1
      · exact h1

theorem startFrame_writes (o : TxOrigin) (f : TxFrame) (h : Writes seq svy s u) : Writes seq svy s (startFrame o f u) :=
  h.next (.line _ rfl rfl rfl rfl)

theorem startAtContest_writes (m : Mark) (h : Writes seq svy s u) : Writes seq svy s (startAtContest m u) := by
  unfold startAtContest
  split
  · exact .ite (fun _ => startFrame_writes _ _ h) (fun _ => h)
  · exact h

theorem startLowest_writes (h : Writes seq svy s u) : Writes seq svy s (startLowest u) := by
  unfold startLowest
  split
  · exact h
  · exact startFrame_writes _ _ h
  · exact startFrame_writes _ _ h
  · exact .ite (fun _ => startFrame_writes _ _ h) (fun _ => startFrame_writes _ _ h)

theorem toIdle_writes (h : Writes seq svy s u) : Writes seq svy s (toIdle u) := h.next (.line _ rfl rfl rfl rfl)

theorem atStartPoint_writes (h : Writes seq svy s u) : Writes seq svy s (atStartPoint u) := by
  unfold atStartPoint
  split
  · exact late_writes _ (Writes.next (startAtContest_writes _ (toIdle_writes h)) (.line _ rfl rfl rfl rfl))
  · exact startLowest_writes (toIdle_writes h)

theorem emptyRegister_writes (h : Writes seq svy s u) : Writes seq svy s (emptyRegister u) :=
  h.next (.line _ rfl rfl rfl rfl)

theorem loseTransmission_writes (t : Transmission) (h : Writes seq svy s u) :
    Writes seq svy s (loseTransmission t u) := by
  have h1 : Writes seq svy s { u with lif.tx := none, lif.cond := .frame } := h.next (.line _ rfl rfl rfl rfl)
  unfold loseTransmission
  dsimp only
  split
  · exact h1.next (.retries _)
  · exact .ite (fun _ => emptyRegister_writes h1) (fun _ => h1.next (.line _ rfl rfl rfl rfl))

theorem completeTransmission_writes (t : Transmission) (h : Writes seq svy s u) :
    Writes seq svy s (completeTransmission t u) := by
  have h1 : Writes seq svy s (toSpace { u with lif.tx := none }) := toSpace_writes (h.next (.line _ rfl rfl rfl rfl))
  unfold completeTransmission
  dsimp only
  split
  · exact h1.next (.completed _)
  · split
    · exact .ite (fun _ => emptyRegister_writes h1) (fun _ => offerWon_writes _ (emptyRegister_writes h1))
    · exact emptyRegister_writes h1

theorem abandonTransmission_writes (t : Transmission) (h : Writes seq svy s u) :
    Writes seq svy s (abandonTransmission t u) := by
  have h1 : Writes seq svy s { u with lif.tx := none, lif.cond := .frame } := h.next (.line _ rfl rfl rfl rfl)
  unfold abandonTransmission
  dsimp only
  split
  · exact h1.next (.abandoned _)
  · split
    · exact .ite (fun _ => emptyRegister_writes h1) (fun _ => offerClashed_writes _ (emptyRegister_writes h1))
    · exact emptyRegister_writes h1

theorem flagClash_writes (h : Writes seq svy s u) : Writes seq svy s (flagClash u) := h.next (.line _ rfl rfl rfl rfl)

theorem beginPause_writes (h : Writes seq svy s u) : Writes seq svy s (beginPause u) :=
  .ite (fun _ => h) (fun _ => setReplan_writes (h.next .pause))

theorem countHold_writes (b c : Bool) (h : Writes seq svy s u) : Writes seq svy s (countHold b c u) :=
  bumpIf_writes _ _ (bumpIf_writes _ _ h)

theorem toHold_writes (h : Writes seq svy s u) : Writes seq svy s (toHold u) := h.next (.line _ rfl rfl rfl rfl)

/-! ### The station state (R164) -/

/-- SUL's timers, levels and bits, which no other block's state follows. -/
theorem station_writes (v : Sul) (cfg : v.cfg = u.sul.cfg) (number : v.station = u.sul.station)
    (clamps : v.clamps = u.sul.clamps) (count : v.clampCount = u.sul.clampCount) (state : v.state = u.sul.state)
    (h : Writes seq svy s u) : Writes seq svy s { u with sul := v } :=
  h.next (.station v cfg number clamps count state)

/-- A state other than ACTIVE is entered: SEQ has no part in it. -/
theorem changeState_calm_writes (new : StationState) (calm : new ≠ .active)
    (runs : u.sul.state ≠ .starting ∨ PeersPlaced u)
    (zero : new = .withdrawn ∨ new = .holdup ∨ chargingStopped u = true) (h : Writes seq svy s u) :
    Writes seq svy s (changeState new u) :=
  .ite (fun e => absurd e calm) (fun _ => allowanceHandOff_writes _ (h.next (.stationState new runs (.inr zero))))

theorem changeState_writes (new : StationState) (runs : u.sul.state ≠ .starting ∨ PeersPlaced u)
    (zero : new = .active ∨ new = .withdrawn ∨ new = .holdup ∨ chargingStopped u = true) (h : Writes True svy s u) :
    Writes True svy s (changeState new u) :=
  have k := allowanceHandOff_writes u.sul.state (h.next (.stationState new runs zero))
  .ite (fun _ => lookAtQueue_writes k) (fun _ => k)

end

end Sys2Proof.Machine
end

section
/-! Proofs that the survey's and the station's operations are chains of elementary writes, and the one inversion of `exec`:
what a command makes of the state at its opening, and the chain of elementary writes that follows. -/

namespace Sys2Proof.Machine

open Sys2Proof

/-! ### Chains without SVY (R90) -/

theorem SlotWrite.mono {p q p' q' : Prop} {s : State} {a b : Slot} (hp : p → p') (hq : q → q')
    (h : SlotWrite p q s a b) : SlotWrite p' q' s a b :=
  ⟨h.latch.imp_left hp, h.cond.imp_left hq, h.setpoint⟩

theorem Write.mono {p q p' q' : Prop} {s t : State} (hp : p → p') (hq : q → q') (h : Write p q s t) :
    Write p' q' s t := by
  cases h with
  | sequencer q acts room => exact .sequencer q (hp acts) room
  | slots l each => exact .slots l (each.imp (fun _ _ => SlotWrite.mono hp hq))
  | counter c => exact .counter c
  | line l h1 h2 h3 h4 => exact .line l h1 h2 h3 h4
  | store f => exact .store f
  | drop => exact .drop
  | frame f h => exact .frame f h
  | completed o => exact .completed o
  | retries o => exact .retries o
  | abandoned o => exact .abandoned o
  | planner p => exact .planner p
  | allowance a h => exact .allowance a h
  | peer n p h => exact .peer n p h
  | peersAged f => exact .peersAged f
  | offers o h1 h2 => exact .offers o h1 h2
  | progress p => exact .progress p
  | holds l h1 h2 => exact .holds l h1 h2
  | survey v => exact .survey v
  | station u h1 h2 h3 h4 h5 => exact .station u h1 h2 h3 h4 h5
  | stationState n h1 h2 => exact .stationState n h1 h2
  | pause => exact .pause
  | pauseEnds => exact .pauseEnds

theorem Writes.mono {p q p' q' : Prop} {s t : State} (hp : p → p') (hq : q → q') (h : Writes p q s t) :
    Writes p' q' s t :=
  Relation.ReflTransGen.mono (fun _ _ => Write.mono hp hq) _ _ h

/-- The conditions of the slots, by slot number. -/
def conds (s : State) : List Cond := s.slots.map (fun sl => sl.cond)

@[simp] theorem storeFrame_slots (f : RxFrame) (s : State) : (storeFrame f s).slots = s.slots := by
  simp

theorem zeroAllSetpoints_conds (s : State) : conds (zeroAllSetpoints s) = conds s := by
  simp [conds, zeroAllSetpoints, Slot.zeroed, Slot.refreshed, Function.comp_def]

theorem plannerHandOff_conds (s : State) : conds (plannerHandOff s) = conds s := by
  unfold plannerHandOff
  split
  · exact zeroAllSetpoints_conds s
  · rfl

/-- Without SVY no slot's condition moves. -/
theorem Write.conds_eq {seq : Prop} {s t : State} (h : Write seq False s t) : conds t = conds s := by
  cases h with
  | slots l each =>
    simp only [conds]
    refine List.forall₂_eq_eq_eq ▸ List.forall₂_map_left_iff.2 (List.forall₂_map_right_iff.2 (each.flip.imp ?_))
    exact fun _ _ w => (w.cond.resolve_left id).1
  | pause => exact zeroAllSetpoints_conds _
  | stationState => exact plannerHandOff_conds _
  | _ => simp [conds]

theorem Writes.conds_eq {seq : Prop} {s t : State} (h : Writes seq False s t) : conds t = conds s :=
  h.keeps (P := fun u => conds u = conds s) (fun _ _ w k => w.conds_eq.trans k) rfl

/-! ### A visit (1.4) -/

/-- The fields of a slot's record that a visit's condition machine does not write. -/
def Slot.kept (sl : Slot) : Role × Option ReqId × Bool × Nat × Bool × Tier × Nat × Bool :=
  (sl.role, sl.rid, sl.unlocked, sl.setpoint, sl.cut, sl.tier, sl.cap, sl.visited)

theorem confirmRemoval_kept (b : Bool) (sl : Slot) : (confirmRemoval b sl).slot.kept = sl.kept := by
  unfold confirmRemoval
  split <;> rfl

theorem takePack_kept (j k : ReportKind) (p : Pack) (now : Word) (sl : Slot) :
    (takePack j k p now sl).slot.kept = sl.kept := by
  unfold takePack
  split <;> rfl

theorem visitSettling_kept (now : Word) (o : ReadOutcome) (sl : Slot) :
    (visitSettling now o sl).slot.kept = sl.kept := by
  unfold visitSettling
  split
  · exact takePack_kept _ _ _ _ _
  · split <;> rfl

theorem visitOccupied_kept (now : Word) (o : ReadOutcome) (sl : Slot) :
    (visitOccupied now o sl).slot.kept = sl.kept := by
  unfold visitOccupied
  split
  · split
    · split <;> rfl
    · exact confirmRemoval_kept _ _
  · split <;> rfl

theorem visitSeen_kept (d : Bool) (now : Word) (o : ReadOutcome) (sl : Slot) :
    (visitSeen d now o sl).slot.kept = sl.kept := by
  unfold visitSeen
  dsimp only
  split
  · rfl
  · exact visitSettling_kept _ _ _
  · exact visitOccupied_kept _ _ _
  · split
    · exact takePack_kept _ _ _ _ _
    · rfl
  · rfl

theorem visitAbsent_kept (sl : Slot) : (visitAbsent sl).slot.kept = sl.kept := by
  unfold visitAbsent
  dsimp only
  split
  · rfl
  · rfl
  · split
    · exact confirmRemoval_kept _ _
    · rfl
  · split <;> rfl
  · split
    · split <;> rfl
    · split <;> rfl

/-- The record as the condition machine leaves it, before the presence field and the cut (R12 to R16). -/
def visited (d : Bool) (now : Word) (seen : Bool) (o : ReadOutcome) (sl : Slot) : Visit :=
  if seen then visitSeen d now o sl else visitAbsent sl

theorem visited_kept (d : Bool) (now : Word) (seen : Bool) (o : ReadOutcome) (sl : Slot) :
    (visited d now seen o sl).slot.kept = sl.kept := by
  unfold visited
  split
  · exact visitSeen_kept _ _ _ _
  · exact visitAbsent_kept _

/-- A visit's record: the condition machine's, with presence, cut, and PLN's part (R6, R20, R91, R93). -/
theorem visit_slot (cfg : Cfg) (d : Bool) (now : Word) (seen hot : Bool) (o : ReadOutcome) (sl : Slot) :
    (visit cfg d now seen hot o sl).slot = ((((visited d now seen o sl).slot.presence seen).cooled cfg hot
      (visited d now seen o sl).exchanged o).afterSurvey cfg) := rfl

theorem visit_exchanged (cfg : Cfg) (d : Bool) (now : Word) (seen hot : Bool) (o : ReadOutcome) (sl : Slot) :
    (visit cfg d now seen hot o sl).exchanged = (visited d now seen o sl).exchanged := rfl

@[simp] theorem afterSurvey_cond (cfg : Cfg) (sl : Slot) : (sl.afterSurvey cfg).cond = sl.cond := by
  unfold Slot.afterSurvey
  split <;> rfl

@[simp] theorem cooled_cond (cfg : Cfg) (h e : Bool) (o : ReadOutcome) (sl : Slot) :
    (sl.cooled cfg h e o).cond = sl.cond := by
  unfold Slot.cooled
  split <;> rfl

/-- PLN's part of a write by SVY drives no charger that R90 forbids. -/
theorem afterSurvey_slotWrite {seq : Prop} {s : State} (cfg : Cfg) {a b : Slot} (latch : seq ∨ b.unlocked = a.unlocked)
    (role : b.role = a.role) (cut : b.cut = true → a.cut = true) (setpoint : b.setpoint = a.setpoint) :
    SlotWrite seq True s a (b.afterSurvey cfg) := by
  unfold Slot.afterSurvey
  split
  · next occupied =>
    refine ⟨latch, .inl trivial, .inr (.inl ⟨setpoint, fun h => ?_⟩)⟩
    have h : (b.cut = true ∨ a.role = .releasing) := by
      rw [mustNotCharge_refreshed] at h
      simpa [mustNotCharge, occupied, role] using h
    rcases h with h | h
    · simp [mustNotCharge, cut h]
    · simp [mustNotCharge, h]
  · exact ⟨latch, .inl trivial, .inl rfl⟩

theorem visit_slotWrite {seq : Prop} {s : State} (cfg : Cfg) (d : Bool) (now : Word) (seen hot : Bool) (o : ReadOutcome)
    (sl : Slot) : SlotWrite seq True s sl (visit cfg d now seen hot o sl).slot := by
  have kept := visited_kept d now seen o sl
  simp only [Slot.kept, Prod.mk.injEq] at kept
  obtain ⟨role, -, latch, setpoint, cut, -⟩ := kept
  rw [visit_slot]
  unfold Slot.cooled
  split
  · exact afterSurvey_slotWrite cfg (.inr latch) role (by simp) setpoint
  · exact afterSurvey_slotWrite cfg (.inr latch) role (fun h => cut ▸ h) setpoint

/-- Only a slot that a removal has emptied goes on to SETTLING in the same event (R13). -/
theorem cond_of_exchanged {d : Bool} {now : Word} {seen : Bool} {o : ReadOutcome} {sl : Slot}
    (h : (visited d now seen o sl).exchanged = true) : (visited d now seen o sl).slot.cond = .empty := by
  revert h
  simp only [visited, visitSeen, visitSettling, visitOccupied, visitAbsent, takePack, confirmRemoval]
  repeat' split
  all_goals simp [Slot.emptied]

/-! ### The survey (file 01) -/

section
variable {s u : State}

theorem countOutcome_writes {seq svy : Prop} (o : ReadOutcome) (h : Writes seq svy s u) :
    Writes seq svy s (countOutcome o u) := by
  unfold countOutcome
  split
  · exact bump_writes _ h
  · exact bump_writes _ h
  · exact bump_writes _ h
  · exact h
  · exact h

theorem handReport_writes {svy : Prop} (n : Nat) (r : Option Report) (h : Writes True svy s u) :
    Writes True svy s (handReport n r u) := by
  unfold handReport
  split
  · exact takeReport_writes _ _ h
  · exact h

theorem cond_of_conds {n : Nat} {a : Slot} {c : Cond} (h : (conds u)[n]? = some c) (k : u.slots[n]? = some a) :
    a.cond = c := by
  simpa [conds, k] using h

theorem settleExchange_writes {n : Nat} {v : Visit} (empty : v.exchanged = true → (conds u)[n]? = some .empty)
    (h : Writes True True s u) : Writes True True s (settleExchange n v u) := by
  refine .ite (fun e => takeReport_writes _ _ (modSlot_writes h (fun a at_n => ?_))) (fun _ => h)
  exact ⟨.inl trivial, .inl trivial, .inr (.inl ⟨rfl, fun _ => by
    simp [mustNotCharge, cond_of_conds (empty e) at_n]⟩)⟩

theorem applyStep_writes (st : SurveyStep) (seen : Bool) (l : List Bool) (hot : Bool) (h : Writes True True s u) :
    Writes True True s (applyStep st seen l hot u) := by
  unfold applyStep
  split
  · exact setReplan_writes h
  · next sl at_n =>
    dsimp only
    set o := stepOutcome st seen l
    set v := visit u.sul.cfg u.sul.doorOpen u.rhs.seconds seen hot o sl
    set m := modSlot st.slot (fun _ => v.slot) u
    have visits : Writes True True s m := modSlot_writes h (fun a at_n' => by
      cases at_n.symm.trans at_n'
      exact visit_slotWrite _ _ _ _ _ _ _)
    have reports : Writes True False m (handReport st.slot v.report (countUnreadable v (countOutcome o m))) :=
      handReport_writes _ _ (bumpIf_writes _ _ (countOutcome_writes _ .refl))
    refine setReplan_writes (rejudge_writes _ (settleExchange_writes (fun e => ?_)
      (visits.trans (reports.mono id (fun _ => trivial)))))
    have at_n : u.slots[st.slot]? = some sl := at_n
    have emptied : (visited u.sul.doorOpen u.rhs.seconds seen o sl).slot.cond = .empty :=
      cond_of_exchanged (visit_exchanged _ _ _ _ _ _ _ ▸ e)
    rw [reports.conds_eq]
    simp [conds, m, modSlot, at_n, v, visit_slot, Slot.presence, emptied]

theorem beginRegular_writes {seq svy : Prop} (h : Writes seq svy s u) : Writes seq svy s (beginRegular u) := by
  unfold beginRegular
  split
  · exact beginStep_writes _ _ (h.next (.survey _))
  · exact h.next (.survey _)

theorem beginSurveyPass_writes {seq svy : Prop} (h : Writes seq svy s u) : Writes seq svy s (beginSurveyPass u) :=
  beginRegular_writes (h.next (.survey _))

theorem reportPassEnd_writes {svy : Prop} (h : Writes True svy s u) : Writes True svy s (reportPassEnd u) :=
  .ite (fun _ => h) (fun _ => takeFirstPass_writes (h.next (.survey _)))

theorem afterPass_writes {seq svy : Prop} (n : Nat) (h : Writes seq svy s u) : Writes seq svy s (afterPass n u) := by
  unfold afterPass
  split
  · split
    · exact beginStep_writes _ _ h
    · exact h.next (.survey _)
  · split
    · exact beginStep_writes _ _ h
    · exact beginSurveyPass_writes h

theorem afterRegular_writes {svy : Prop} (n : Nat) (h : Writes True svy s u) :
    Writes True svy s (afterRegular n u) := by
  refine .ite (fun _ => ?_) (fun _ => afterPass_writes _ (Writes.next (reportPassEnd_writes h) (.survey _)))
  split
  · exact beginStep_writes _ _ h
  · exact beginRegular_writes h

theorem afterFocus_writes {seq svy : Prop} (h : Writes seq svy s u) : Writes seq svy s (afterFocus u) := by
  unfold afterFocus
  split
  · exact beginRegular_writes h
  · exact beginSurveyPass_writes h
  · split
    · exact beginStep_writes _ _ h
    · exact h.next (.survey _)

theorem nextStep_writes {svy : Prop} (st : SurveyStep) (h : Writes True svy s u) :
    Writes True svy s (nextStep st u) := by
  unfold nextStep
  split
  · exact .ite (fun _ => afterRegular_writes _ h) (fun _ => beginStep_writes _ _
      (modSlot_writes h (fun _ _ => ⟨.inr rfl, .inr ⟨rfl, rfl, rfl⟩, .inr (.inl ⟨rfl, id⟩)⟩)))
  · exact afterRegular_writes _ h
  · exact afterFocus_writes h

theorem tripped_slotWrite {seq : Prop} (cfg : Cfg) (a : Slot) : SlotWrite seq True u a (a.tripped cfg) :=
  ⟨.inr rfl, .inl trivial, .inl rfl⟩

theorem doorOpens_slotWrite {seq svy : Prop} (a : Slot) : SlotWrite seq svy u a a.doorOpens :=
  ⟨.inr rfl, .inr ⟨rfl, rfl, rfl⟩, .inr (.inl ⟨rfl, id⟩)⟩

theorem doorCloses_slotWrite {seq : Prop} (cfg : Cfg) (a : Slot) : SlotWrite seq True u a (a.doorCloses cfg) := by
  unfold Slot.doorCloses
  split
  · dsimp only
    split
    · exact afterSurvey_slotWrite cfg (.inr rfl) rfl id rfl
    · exact ⟨.inr rfl, .inl trivial, .inr (.inl ⟨rfl, id⟩)⟩
  · exact .refl a

theorem abandonSlot_writes {seq : Prop} (n : Nat) (h : Writes seq True s u) : Writes seq True s (abandonSlot n u) :=
  setReplan_writes (modSlot_writes h (fun _ _ => afterSurvey_slotWrite _ (.inr rfl) rfl id rfl))

theorem surveyDoorCloses_writes (h : Writes True True s u) : Writes True True s (surveyDoorCloses u) :=
  foldl_writes (fun _ _ k => setReplan_writes (takeReport_writes _ _ k)) _
    (h.next (.slots _ (forall₂_map _ _ (fun a _ => doorCloses_slotWrite _ a))))

/-! ### The warm rebuild (R173, R174) -/

theorem holdIds_keepHolds_sublist (n : Nat) (seen : List Nat) (l : List (Option HoldRecord)) :
    (holdIds (keepHolds n seen l)).Sublist (holdIds l) := by
  induction l generalizing seen with
  | nil => exact .slnil
  | cons x l ih =>
    cases x with
    | none => exact ih seen
    | some r =>
      unfold keepHolds
      split
      · exact (ih _).cons_cons r.rid
      · exact (ih _).cons r.rid

theorem length_keepHolds (n : Nat) (seen : List Nat) (l : List (Option HoldRecord)) :
    (keepHolds n seen l).length = l.length := by
  induction l generalizing seen with
  | nil => rfl
  | cons x l ih =>
    cases x with
    | none => simp [keepHolds, ih]
    | some r =>
      unfold keepHolds
      split <;> simp [ih]

@[simp] theorem rebuiltEntry_rid (p : Option Progress) (r : HoldRecord) : (rebuiltEntry p r).rid = r.rid := by
  unfold rebuiltEntry
  split
  · split <;> rfl
  · rfl

/-- The rebuilt book has the request ids of the kept records (R124). -/
theorem bookIds_rebuilt (p : Option Progress) (l : List (Option HoldRecord)) :
    (bookIds ((sortBy recordBefore (l.filterMap id)).map (rebuiltEntry p))).Perm (holdIds l) := by
  simpa [bookIds, holdIds, Function.comp_def] using (sortBy_perm recordBefore (l.filterMap id)).map (fun r => r.rid)

theorem resumedRoles_writes {seq svy : Prop} (p : Progress) (h : Writes seq svy s u) :
    Writes seq svy s (resumedRoles p u) := by
  unfold resumedRoles
  split
  · exact setRole_writes _ _ _ h
  · exact setRole_writes _ _ _ h
  · exact setRole_writes _ _ _ h
  · exact setRole_writes _ _ _ h
  · exact setRole_writes _ _ _ h
  · exact setRole_writes _ _ _ h
  · exact h

theorem resumeActive_writes {svy : Prop} (p : Progress) (h : Writes True svy s u) :
    Writes True svy s (resumeActive p u) :=
  sequencer_writes { u.seq with active := _ } rfl h

theorem rebuild_writes {svy : Prop} (core : u.core = true) (h : Writes True svy s u) :
    Writes True svy s (rebuild u) := by
  set l := keepHolds u.sul.cfg.fitted [] u.rhs.holds
  set p := keepProgress u.sul.cfg.fitted (l.filterMap id) u.rhs.progress
  set b := (sortBy recordBefore (l.filterMap id)).map (rebuiltEntry p)
  have sub : (holdIds l).Sublist (holdIds u.rhs.holds) := holdIds_keepHolds_sublist _ _ _
  have book : Writes True svy s { u with ofe.book := b } := by
    refine h.next (.offers { u.ofe with book := b } (fun k => ?_) (fun k => ?_))
    · exact (bookIds_rebuilt p l).nodup_iff.2 ((k.2 (.inr core)).sublist sub)
    · have most := (List.length_filterMap_le id l).trans_eq (length_keepHolds _ _ _)
      have same : b.length = (l.filterMap id).length := by simp [b, (sortBy_perm _ _).length_eq]
      have eight := k.2.2.2.2.2.1
      show b.length ≤ 16
      omega
  have store : Writes True svy s { u with ofe.book := b, rhs.holds := l, rhs.progress := p } :=
    Writes.next (book.next (.holds l (length_keepHolds _ _ _) (fun k => k.sublist sub))) (.progress p)
  have roles := foldl_writes (f := fun st r => setRole r.slot .held (some r.rid) st)
    (fun _ _ k => setRole_writes _ _ _ k) (l.filterMap id) store
  refine lapseDue_writes ?_
  split
  · exact resumeActive_writes _ (resumedRoles_writes _ roles)
  · exact roles

/-! ### The end of loading (R182) -/

theorem initialPeers_placed (own : BitVec 4) :
    ∀ x ∈ (initialPeers own).zipIdx, (x.1 = none ↔ x.2 = own.toNat) := by
  rintro ⟨p, n⟩ h
  obtain ⟨m, at_n, rfl⟩ : ∃ m, (List.range 16)[n]? = some m ∧ (if m = own.toNat then none else some Peer.initial) = p := by
    simpa [initialPeers, List.mem_zipIdx_iff_getElem?] using h
  obtain rfl : n = m := (List.getElem?_eq_some_iff.1 at_n).2 ▸ by simp
  split <;> simp_all

@[simp] theorem changeState_sul (new : StationState) (s : State) :
    (changeState new s).sul = { s.sul with state := new } := by
  unfold changeState
  dsimp only
  split <;> simp

end

end Sys2Proof.Machine
end

section
/-! Proofs of the one inversion of `exec`: what a command makes of the state at its opening, and the chain of elementary
writes that follows. -/

namespace Sys2Proof.Machine

open Sys2Proof

/-! ### The end of loading (R182) -/

@[simp] theorem recomputeGrant_peers (s : State) : (recomputeGrant s).alw.peers = s.alw.peers := by
  unfold recomputeGrant
  split <;> rfl

@[simp] theorem recomputeAllowance_peers (s : State) : (recomputeAllowance s).alw.peers = s.alw.peers := by
  unfold recomputeAllowance
  dsimp only
  split <;> simp

/-- The figures of loading's end put in force: configuration, clamp records, Slot Table, LIF and Peer Table (R182). -/
theorem putInForce_tables (d : Bool) (h : BitVec 8) (s : State) :
    (putInForce d h s).sul = { s.sul with
      cfg := cfgOf s.sul.image, clamps := (corrections s.sul.image).take 16
      clampCount := (corrections s.sul.image).length } ∧
    (putInForce d h s).slots = freshSlots (cfgOf s.sul.image).fitted d h s.rhs.seconds ∧
    (putInForce d h s).lif = Lif.initial ∧ (putInForce d h s).alw.peers = initialPeers s.sul.station := by
  simp [putInForce]

/-- What HALTED_CONFIG starts from: the cause, LIF and ALW at their beginning, every peer ABSENT (R29, R61, R181). -/
def haltBase (c : HaltCause) (s : State) : State :=
  { s with sul.halt := some c, lif := Lif.initial, alw := { Alw.initial with peers := initialPeers s.sul.station } }

theorem haltConfig_eq (c : HaltCause) (s : State) : haltConfig c s = changeState .haltedConfig (haltBase c s) := rfl

theorem chargingStopped_of_starting {s : State} (h : s.sul.state = .starting) : chargingStopped s = true := by
  simp [chargingStopped, h]

theorem haltConfig_writes {seq svy : Prop} (c : HaltCause) {s : State} (starting : s.sul.state = .starting) :
    Writes seq svy (haltBase c s) (haltConfig c s) :=
  changeState_calm_writes _ (by simp) (.inr (initialPeers_placed s.sul.station))
    (.inr (.inr (chargingStopped_of_starting starting))) .refl

section
variable {svy : Prop} {s u : State}

theorem enterJoining_writes (d m : Bool) (starting : u.sul.state = .starting) (placed : PeersPlaced u)
    (h : Writes True svy s u) : Writes True svy s (enterJoining d m u) := by
  have door := station_writes { u.sul with doorOpen := d } rfl rfl rfl rfl rfl h
  have joined := changeState_writes (u := { u with sul.doorOpen := d }) .joining (.inr placed)
    (.inr (.inr (.inr (chargingStopped_of_starting starting)))) door
  have timed := beginRegular_writes
    (station_writes { (changeState .joining { u with sul.doorOpen := d }).sul with joiningTimer := some 3000 }
      rfl rfl rfl rfl rfl joined)
  refine .ite (fun _ => timed) (fun _ => changeState_writes .holdup (.inl ?_) (.inr (.inr (.inl rfl))) timed)
  simp

end

/-- The state at the end of a complete read: the mains is sampled, the memory deselected (R177). -/
def readOut (m : Bool) (s : State) : State := deselect { s with sul.mainsGood := m }

theorem execLoadingEnd_of_not_ready {d m : Bool} {hot : BitVec 8} {s : State}
    (h : ¬ (loading s = true ∧ s.sul.image.length = 66)) : execLoadingEnd d hot m s = .next s := by
  unfold execLoadingEnd
  rw [if_neg (by simpa using h)]

theorem execLoadingEnd_of_fault {d m : Bool} {hot : BitVec 8} {s : State} {c : HaltCause} (load : loading s = true)
    (read : s.sul.image.length = 66) (fault : imageFault s.sul.image = some c) :
    execLoadingEnd d hot m s = .next (haltConfig c (readOut m s)) := by
  simp [execLoadingEnd, load, read, fault, readOut]

theorem execLoadingEnd_of_good {d m : Bool} {hot : BitVec 8} {s : State} (load : loading s = true)
    (read : s.sul.image.length = 66) (good : imageFault s.sul.image = none) :
    execLoadingEnd d hot m s = .next (settle (enterJoining d m
      (if s.sul.cold then putInForce d hot (readOut m s) else rebuild (putInForce d hot (readOut m s))))) := by
  simp only [execLoadingEnd, load, read, good, readOut, decide_true, Bool.and_self, if_true]

/-! ### The opening of a command -/

/-- What a command makes of the state before its chain of elementary writes: nothing, or the one write of a start, a core
stop, a failing retained cell, a tick, or the end of loading. -/
inductive Opens (c : Instr) (s : State) : State → Prop where
  | same (start : ∀ straps clr, c ≠ .start straps clr) (fail : c ≠ .retainedCellFail) (tick : c ≠ .secondsTick) :
      Opens c s s
  | start (straps : BitVec 4) (clr : Bool) (h : c = .start straps clr) :
      Opens c s { s.coreLost with
        core := true
        sul := Sul.started straps clr (startsCold clr s)
        rhs := if startsCold clr s then Rhs.empty true else s.rhs }
  | coreStop (h : c = .coreStop) (runs : s.core = true) : Opens c s s.coreLost
  | cellFails (h : c = .retainedCellFail) (runs : s.core = true) : Opens c s { s with rhs.valid := false }
  | cellLost (h : c = .retainedCellFail) (stopped : s.core = false) :
      Opens c s (spoilRetained { s with rhs.valid := false })
  | tick (h : c = .secondsTick) : Opens c s { s with rhs.seconds := s.rhs.seconds + 1 }
  | halts (cause : HaltCause) (h : c = .loadingTimerExpiry ∨ ∃ d hot m, c = .loadingEnd d hot m)
      (load : loading s = true) : Opens c s (haltBase cause (deselect s))
  | inForce (d m : Bool) (hot : BitVec 8) (h : c = .loadingEnd d hot m) (load : loading s = true) :
      Opens c s (putInForce d hot (readOut m s))

theorem starting_of_loading {s : State} (h : loading s = true) : s.sul.state = .starting := by
  simp [loading] at h
  exact h.1.2

theorem core_of_loading {s : State} (h : loading s = true) : s.core = true := by
  simp [loading] at h
  exact h.1.1

/-- A command that makes only elementary writes. -/
theorem writes_of_eq {seq svy : Prop} {s t u : State}
    (e : (Host.Outcome.next u : Host.Outcome State Fault Refusal) = .next t) (w : Writes seq svy s u) :
    Writes seq svy s t := by
  cases e
  exact w

section
variable {s t : State}

theorem rebuild_rest (s : State) : (rebuild s).sul = s.sul ∧ (rebuild s).alw = s.alw := by simp

theorem execLoadingEnd_opens {d m : Bool} {hot : BitVec 8} (h : execLoadingEnd d hot m s = .next t) :
    ∃ u, Opens (.loadingEnd d hot m) s u ∧ Writes True True u t := by
  by_cases ready : loading s = true ∧ s.sul.image.length = 66
  · obtain ⟨load, read⟩ := ready
    have starting : (readOut m s).sul.state = .starting := starting_of_loading (s := s) load
    cases fault : imageFault s.sul.image with
    | some c =>
      rw [execLoadingEnd_of_fault load read fault] at h
      refine ⟨haltBase c (deselect s), .halts c (.inr ⟨d, hot, m, rfl⟩) load, writes_of_eq h ?_⟩
      have w : Writes True True (haltBase c (deselect s)) (haltBase c (readOut m s)) :=
        station_writes { (haltBase c (deselect s)).sul with mainsGood := m } rfl rfl rfl rfl rfl .refl
      exact w.trans (haltConfig_writes c starting)
    | none =>
      rw [execLoadingEnd_of_good load read fault] at h
      obtain ⟨sul, -, -, peers⟩ := putInForce_tables d hot (readOut m s)
      have core : (putInForce d hot (readOut m s)).core = true := by
        rw [(putInForce_frame d hot (readOut m s)).1]
        exact core_of_loading (s := s) load
      set v := putInForce d hot (readOut m s)
      have placed : PeersPlaced v := by
        unfold PeersPlaced
        rw [sul, peers]
        exact initialPeers_placed _
      have starting : v.sul.state = .starting := by rw [sul]; exact starting
      refine ⟨v, .inForce d m hot rfl load, writes_of_eq h (settle_writes ?_)⟩
      obtain ⟨rs, ra⟩ := rebuild_rest v
      split
      · exact enterJoining_writes d m starting placed .refl
      · exact enterJoining_writes d m (by rw [rs, starting]) (by unfold PeersPlaced; rw [rs, ra]; exact placed)
          (rebuild_writes core .refl)
  · rw [execLoadingEnd_of_not_ready ready] at h
    exact ⟨s, .same (by simp) (by simp) (by simp), writes_of_eq h .refl⟩

end

section
variable {s : State}

theorem stateByDoor_cases (s : State) : stateByDoor s = .active ∨ stateByDoor s = .withdrawn := by
  unfold stateByDoor
  split <;> simp

/-- The commands, other than frames and those with a write of their own at their opening, in which neither SEQ nor SVY's
condition machine takes part. -/
def Instr.calm : Instr → Bool
  | .configMemoryReady _ | .mainsGoodLow | .mainsGoodHigh | .holdTimerExpiry | .pledgeTimerExpiry _
  | .passGapExpiry | .doorOpen | .planningPassEnd | .evaluationEnd | .demandTimerExpiry | .spacingTimerExpiry
  | .freshnessTimerExpiry | .framingError _ | .truncated _ | .frameMalformedLength | .malformedFrameEnd _
  | .startPoint | .arbitrationLoss | .transmissionComplete | .stationClash | .clashTimerExpiry | .stretchStart
  | .stretchLimit _ | .lineHoldStart _ _ | .lineHoldEnd | .pauseTimerExpiry => true
  | _ => false

/-- A calm command is a chain of writes in which neither SEQ nor SVY takes part. -/
theorem exec_calm_writes {seq svy : Prop} {c : Instr} {t : State} (h : exec c s = .next t) (calm : Instr.calm c = true) :
    Writes seq svy s t := by
  have stay : Writes seq svy s s := .refl
  cases c
  case configMemoryReady bits =>
    exact writes_of_eq h (.ite (fun _ => station_writes { s.sul with cfda := _, image := _ } rfl rfl rfl rfl rfl stay)
      (fun _ => stay))
  case mainsGoodLow =>
    have low := station_writes { s.sul with mainsGood := false } rfl rfl rfl rfl rfl stay
    have holdup : s.sul.state ≠ .starting →
        Writes seq svy s (settle (changeState .holdup { s with sul.mainsGood := false })) := fun runs =>
      settle_writes (changeState_calm_writes .holdup (by simp) (.inl runs) (.inr (.inl rfl)) low)
    refine writes_of_eq h (.ite (fun _ => ?_) (fun _ => stay))
    cases state : s.sul.state
    case joining => exact holdup (by simp [state])
    case active => exact holdup (by simp [state])
    case withdrawn => exact holdup (by simp [state])
    case holdup => exact low.next (.station _ rfl rfl rfl rfl rfl)
    case starting => simpa only [state] using low
    case haltedConfig => simpa only [state] using low
  case mainsGoodHigh =>
    have high := station_writes { s.sul with mainsGood := true } rfl rfl rfl rfl rfl stay
    exact writes_of_eq h (.ite (fun _ => .ite (fun _ => high.next (.station _ rfl rfl rfl rfl rfl)) (fun _ => high))
      (fun _ => stay))
  case holdTimerExpiry => exact writes_of_eq h (.ite (fun _ => settle_writes (lapseDue_writes stay)) (fun _ => stay))
  case pledgeTimerExpiry rid =>
    refine writes_of_eq h ?_
    split
    · exact .ite (fun _ => settle_writes (freePledge_writes _ (modEntry_writes _ (fun _ => rfl) stay))) (fun _ => stay)
    · exact stay
  case passGapExpiry =>
    refine writes_of_eq h ?_
    split
    · exact .ite (fun _ => .ite (fun _ => stay.next (.survey { s.svy with gap := .due }))
        (fun _ => beginSurveyPass_writes stay)) (fun _ => stay)
    · exact stay
  case doorOpen =>
    have opened : Writes seq svy s { s with slots := s.slots.map Slot.doorOpens, sul.doorOpen := true } :=
      (station_writes { s.sul with doorOpen := true } rfl rfl rfl rfl rfl stay).next
        (.slots _ (forall₂_map _ _ (fun a _ => doorOpens_slotWrite a)))
    exact writes_of_eq h (.ite (fun _ => settle_writes (.ite (fun active =>
      changeState_calm_writes _ (by simp) (.inl (by simp [active])) (.inl rfl) opened) (fun _ => opened))) (fun _ => stay))
  case planningPassEnd =>
    simp only [exec, execPlanningPassEnd] at h
    split at h
    · exact writes_of_eq h (.ite (fun _ => settle_writes (endPass_writes _ stay)) (fun _ => stay))
    · exact writes_of_eq h stay
  case evaluationEnd =>
    simp only [exec, execEvaluationEnd] at h
    split at h
    · exact writes_of_eq h (.ite (fun _ => settle_writes (endEvaluation_writes _
        (offers_writes { s.ofe with evaluation := none } rfl stay))) (fun _ => stay))
    · exact writes_of_eq h stay
  case demandTimerExpiry =>
    exact writes_of_eq h (.ite (fun _ => produceDemand_writes
      (stay.next (.allowance { s.alw with demandTimer := _ } rfl))) (fun _ => stay))
  case spacingTimerExpiry =>
    have timer := stay.next (.allowance { s.alw with spacingTimer := none } rfl)
    exact writes_of_eq h (.ite (fun _ => .ite (fun _ => produceDemand_writes timer) (fun _ => timer)) (fun _ => stay))
  case freshnessTimerExpiry =>
    exact writes_of_eq h (.ite (fun _ => settle_writes (recomputeAllowance_writes
      (stay.next (.allowance { s.alw with freshTimer := none, meter := _ } rfl)))) (fun _ => stay))
  case framingError noisy =>
    exact writes_of_eq h (.ite (fun _ => settle_writes (reportLoss_writes _ (toSpace_writes (failTransmission_writes
      (bumpIf_writes _ _ (bump_writes _ stay)))))) (fun _ => stay))
  case truncated noisy =>
    exact writes_of_eq h (.ite (fun _ => settle_writes (reportLoss_writes _ (toSpace_writes
      (bumpIf_writes _ _ (bump_writes _ stay))))) (fun _ => stay))
  case frameMalformedLength =>
    exact writes_of_eq h (.ite (fun _ => (bump_writes .malformed stay).next (.line _ rfl rfl rfl rfl)) (fun _ => stay))
  case malformedFrameEnd noisy =>
    exact writes_of_eq h (.ite (fun _ => settle_writes (reportLoss_writes _ (toSpace_writes
      (bumpIf_writes _ _ stay)))) (fun _ => stay))
  case startPoint => exact writes_of_eq h (.ite (fun _ => settle_writes (atStartPoint_writes stay)) (fun _ => stay))
  case arbitrationLoss =>
    refine writes_of_eq h ?_
    split
    · exact .ite (fun _ => loseTransmission_writes _ stay) (fun _ => stay)
    · exact stay
  case transmissionComplete =>
    refine writes_of_eq h ?_
    split
    · exact .ite (fun _ => settle_writes (completeTransmission_writes _ stay)) (fun _ => stay)
    · exact stay
  case stationClash =>
    refine writes_of_eq h ?_
    split
    · exact .ite (fun _ => abandonTransmission_writes _ (flagClash_writes (bump_writes _ stay))) (fun _ => stay)
    · exact stay
  case clashTimerExpiry =>
    exact writes_of_eq h (.ite (fun _ => stay.next (.line _ rfl rfl rfl rfl)) (fun _ => stay))
  case stretchStart =>
    refine writes_of_eq h ?_
    split
    · exact .ite (fun _ => stay.next (.line _ rfl rfl rfl rfl)) (fun _ => stay)
    · exact stay
  case stretchLimit still =>
    refine writes_of_eq h ?_
    split
    · exact .ite (fun _ => settle_writes (bumpIf_writes _ _ (late_writes _ (stay.next (.line _ rfl rfl rfl rfl)))))
        (fun _ => stay)
    · exact stay
  case lineHoldStart noisy later =>
    exact writes_of_eq h (.ite (fun _ => settle_writes (beginPause_writes (toHold_writes (reportLoss_writes _
      (failTransmission_writes (countHold_writes _ _ stay)))))) (fun _ => stay))
  case lineHoldEnd => exact writes_of_eq h (.ite (fun _ => stay.next (.line _ rfl rfl rfl rfl)) (fun _ => stay))
  case pauseTimerExpiry =>
    exact writes_of_eq h (.ite (fun _ => settle_writes (setReplan_writes (Writes.next
      (stay.next (.line { s.lif with pauseTimer := none } rfl rfl rfl rfl)) .pauseEnds))) (fun _ => stay))
  all_goals cases calm

/-- A command other than the five with a write of their own is a chain of elementary writes. -/
theorem exec_writes {c : Instr} {t : State} (h : exec c s = .next t) (h1 : ∀ straps clr, c ≠ .start straps clr)
    (h2 : c ≠ .coreStop) (h3 : c ≠ .retainedCellFail) (h4 : c ≠ .secondsTick) (h5 : ∀ d hot m, c ≠ .loadingEnd d hot m)
    (h6 : c ≠ .loadingTimerExpiry) : Writes True True s t := by
  have stay : Writes True True s s := .refl
  by_cases calm : Instr.calm c = true
  · exact exec_calm_writes h calm
  cases c
  case start a b => exact absurd rfl (h1 a b)
  case coreStop => exact absurd rfl h2
  case retainedCellFail => exact absurd rfl h3
  case secondsTick => exact absurd rfl h4
  case loadingEnd a b c => exact absurd rfl (h5 a b c)
  case loadingTimerExpiry => exact absurd rfl h6
  case joiningTimerExpiry =>
    have timer := station_writes { s.sul with joiningTimer := none } rfl rfl rfl rfl rfl stay
    refine writes_of_eq h (.ite (fun _ => .ite (fun joining => settle_writes (changeState_writes _ (.inl ?_) ?_ timer))
      (fun _ => timer)) (fun _ => stay))
    · simp [joining]
    · rcases stateByDoor_cases s with e | e <;> simp [e]
  case mainsReturnTimerExpiry =>
    have timer := station_writes { s.sul with mainsReturnTimer := none } rfl rfl rfl rfl rfl stay
    refine writes_of_eq h (.ite (fun k => ?_) (fun _ => stay))
    have holdup : s.sul.state = .holdup := by simp at k; exact k.1.2
    exact settle_writes (changeState_writes _ (.inl (by simp [holdup]))
      (.inr (.inr (.inr (by simp [chargingStopped, holdup])))) timer)
  case surveyStepEnd seen levels hot =>
    simp only [exec, execSurveyStepEnd] at h
    split at h
    · exact writes_of_eq h (.ite (fun _ => settle_writes (nextStep_writes _ (applyStep_writes _ _ _ _
        (stay.next (.survey { s.svy with step := none, link := _ }))))) (fun _ => stay))
    · exact writes_of_eq h stay
  case doorClose =>
    have closed := surveyDoorCloses_writes (station_writes { s.sul with doorOpen := false } rfl rfl rfl rfl rfl stay)
    exact writes_of_eq h (.ite (fun _ => settle_writes (.ite (fun withdrawn =>
      changeState_writes _ (.inl (by rw [withdrawn]; simp)) (.inl rfl) closed) (fun _ => closed))) (fun _ => stay))
  case thermalTrip n =>
    refine writes_of_eq h ?_
    split
    · exact .ite (fun _ => settle_writes (rejudge_writes _ (setReplan_writes
        (modSlot_writes stay (fun a _ => tripped_slotWrite _ a))))) (fun _ => stay)
    · exact stay
  case frameReceived cells =>
    refine writes_of_eq h ?_
    split
    · exact .ite (fun _ => settle_writes (handleFrame_writes _ (reportLoss_writes _ (toSpace_writes
        (bumpIf_writes _ _ stay))))) (fun _ => stay)
    · exact stay
  case returnTimerExpiry =>
    refine writes_of_eq h (.ite (fun _ => ?_) (fun _ => stay))
    split
    · exact settle_writes (endSwap_writes _ _ _ _ (freeRelease_writes _ (closeDock_writes _ (stopTimer_writes stay))))
    · exact stay
  case checkTimerExpiry =>
    refine writes_of_eq h (.ite (fun _ => ?_) (fun _ => stay))
    split
    · have rejected := fun d => openReject_writes d (stopTimer_writes stay)
      exact settle_writes (.ite (fun _ => endReject_writes _ (rejected _)) (fun _ => rejected _))
    · exact stay
  case removalTimerExpiry =>
    refine writes_of_eq h (.ite (fun _ => ?_) (fun _ => stay))
    split
    · exact settle_writes (endSwap_writes _ _ _ _ (freeRelease_writes _ (setRole_writes _ _ _ (abandonSlot_writes _
        (setLatch_writes _ _ (stopTimer_writes stay))))))
    · split
      · exact settle_writes (endGiveBack_writes _ _ (closeDock_writes _ (stopTimer_writes stay)))
      · exact stay
  case waitTimerExpiry =>
    refine writes_of_eq h (.ite (fun _ => ?_) (fun _ => stay))
    split
    · exact settle_writes (giveBack_writes _ _ (stopTimer_writes stay))
    · exact stay
  case collectTimerExpiry =>
    refine writes_of_eq h (.ite (fun _ => ?_) (fun _ => stay))
    split
    · exact settle_writes (endSwap_writes _ _ _ _ (setRole_writes _ _ _ (setLatch_writes _ _ (stopTimer_writes stay))))
    · exact stay
  case request | offer | assign | assignOther | update | beginSwap | cancel | demand | meter |
      querySummary | querySlot | queryBook | queryCounters | queryPeer | queryInvalid =>
    exact writes_of_eq h (receiveGood_writes _ stay)
  all_goals exact absurd rfl calm

/-- The inversion of `exec`: a command's opening, then a chain of elementary writes. -/
theorem exec_cases {c : Instr} {t : State} (h : exec c s = .next t) : ∃ u, Opens c s u ∧ Writes True True u t := by
  have stay : ∀ {u}, Writes True True u u := .refl
  by_cases start : ∃ straps clr, c = .start straps clr
  · obtain ⟨straps, clr, rfl⟩ := start
    cases h
    exact ⟨_, .start straps clr rfl, stay⟩
  have start : ∀ straps clr, c ≠ .start straps clr := fun a b e => start ⟨a, b, e⟩
  by_cases load : ∃ d hot m, c = .loadingEnd d hot m
  · obtain ⟨d, hot, m, rfl⟩ := load
    exact execLoadingEnd_opens h
  by_cases stop : c = .coreStop
  · subst stop
    by_cases runs : s.core = true
    · obtain rfl : s.coreLost = t := by simpa [exec, execCoreStop, runs] using h
      exact ⟨_, .coreStop rfl runs, stay⟩
    · obtain rfl : s = t := by simpa [exec, execCoreStop, runs] using h
      exact ⟨_, .same start (by simp) (by simp), stay⟩
  by_cases fail : c = .retainedCellFail
  · subst fail
    by_cases runs : s.core = true
    · obtain rfl : { s with rhs.valid := false } = t := by simpa [exec, execRetainedCellFail, runs] using h
      exact ⟨_, .cellFails rfl runs, stay⟩
    · obtain rfl : spoilRetained { s with rhs.valid := false } = t := by
        simpa [exec, execRetainedCellFail, runs] using h
      exact ⟨_, .cellLost rfl (by simpa using runs), stay⟩
  by_cases tick : c = .secondsTick
  · subst tick
    exact ⟨_, .tick rfl, writes_of_eq h (.ite (fun _ => settle_writes (removeLingered_writes
      (.ite (fun _ => agePeers_writes stay) (fun _ => stay)))) (fun _ => stay)) ⟩
  by_cases timer : c = .loadingTimerExpiry
  · subst timer
    by_cases load : loading s = true
    · obtain rfl : haltConfig .noResponse (deselect s) = t := by
        simpa [exec, execLoadingTimerExpiry, load] using h
      exact ⟨_, .halts .noResponse (.inl rfl) load, haltConfig_writes _ (starting_of_loading (s := s) load)⟩
    · obtain rfl : s = t := by simpa [exec, execLoadingTimerExpiry, load] using h
      exact ⟨_, .same start (by simp) (by simp), stay⟩
  exact ⟨s, .same start fail tick, exec_writes h start stop fail tick (fun d hot m e => load ⟨d, hot, m, e⟩) timer⟩

end

end Sys2Proof.Machine
end

section
/-! Proofs of the invariants that are kept because each elementary write keeps them: the transmit queue's order, the
capacities, the Peer Table, the request ids, the setpoints, and what no command changes (O3, O6, O9 to O11, O13 to O15). -/

namespace Sys2Proof.Machine

open Sys2Proof

/-! ### From the elementary writes to a step -/

/-- What the openings and the elementary writes keep, a command keeps. -/
theorem exec_keeps {P : State → Prop} {c : Instr} {s t : State} (h : exec c s = .next t)
    (opens : ∀ u, Opens c s u → P u) (each : ∀ u v, Write True True u v → P u → P v) : P t := by
  obtain ⟨u, hu, w⟩ := exec_cases h
  exact w.keeps each (opens u hu)

/-- What every command keeps whatever commands wait, a step keeps. -/
theorem step_keeps {P : State → Prop} (waiting : ∀ s l, P s → P { s with pending := l })
    (opens : ∀ c s u, Opens c s u → P s → P u) (each : ∀ u v, Write True True u v → P u → P v) {s t : State}
    (hs : P s) (h : step s = .next t) : P t := by
  unfold step at h
  split at h
  · cases h
    exact hs
  · exact exec_keeps h (fun u hu => opens _ _ u hu (waiting _ _ hs)) each

/-! ### What the queue's operations leave of LIF (R38, R39) -/

/-- `enqueue` writes the queue and the next order only. -/
theorem enqueue_line (f : TxFrame) (s : State) :
    (enqueue f s).lif = { s.lif with queue := (enqueue f s).lif.queue, nextOrder := (enqueue f s).lif.nextOrder } := by
  unfold enqueue
  (repeat' split) <;> rfl

theorem queueCompleted_line (o : Nat) (s : State) :
    (queueCompleted o s).lif =
      { s.lif with queue := (queueCompleted o s).lif.queue, nextOrder := (queueCompleted o s).lif.nextOrder } := by
  unfold queueCompleted
  dsimp only
  (repeat' split) <;> rfl

theorem queueAbandoned_line (o : Nat) (s : State) :
    (queueAbandoned o s).lif =
      { s.lif with queue := (queueAbandoned o s).lif.queue, nextOrder := (queueAbandoned o s).lif.nextOrder } := by
  unfold queueAbandoned
  dsimp only
  split
  · rfl
  · split
    · rw [enqueue_line]
    · rfl

theorem storeFrame_line (f : RxFrame) (s : State) :
    (storeFrame f s).lif = { s.lif with rxBuf := (storeFrame f s).lif.rxBuf, mark := (storeFrame f s).lif.mark } := by
  unfold storeFrame
  split <;> rfl

@[simp] theorem storeFrame_linePause (f : RxFrame) (s : State) :
    (storeFrame f s).lif.linePause = s.lif.linePause := by rw [storeFrame_line]

@[simp] theorem enqueue_linePause (f : TxFrame) (s : State) : (enqueue f s).lif.linePause = s.lif.linePause := by
  rw [enqueue_line]

@[simp] theorem queueCompleted_linePause (o : Nat) (s : State) :
    (queueCompleted o s).lif.linePause = s.lif.linePause := by rw [queueCompleted_line]

@[simp] theorem queueAbandoned_linePause (o : Nat) (s : State) :
    (queueAbandoned o s).lif.linePause = s.lif.linePause := by rw [queueAbandoned_line]

/-- No elementary write but the pause's own moves the line pause, and only a change of state moves the station state. -/
theorem Write.charging {seq svy : Prop} {s t : State} (h : Write seq svy s t) :
    (t.lif.linePause = s.lif.linePause ∧ t.sul.state = s.sul.state) ∨
      (∃ new, t = plannerHandOff { s with sul.state := new }) ∨ t = zeroAllSetpoints { s with lif.linePause := true } ∨
      t = { s with lif.linePause := false } := by
  cases h with
  | stationState new => exact .inr (.inl ⟨new, rfl⟩)
  | pause => exact .inr (.inr (.inl rfl))
  | pauseEnds => exact .inr (.inr (.inr rfl))
  | line l _ _ _ pause => exact .inl ⟨pause, rfl⟩
  | store | frame | completed | abandoned => simp
  | station u _ _ _ _ state => exact .inl ⟨rfl, state⟩
  | _ => exact .inl ⟨rfl, rfl⟩

/-! ### Waiting commands and configuration (O3, O13) -/

/-- No write reaches the waiting commands. -/
theorem Write.pending_eq {seq svy : Prop} {s t : State} (h : Write seq svy s t) : t.pending = s.pending := by
  cases h with
  | store | frame | completed | abandoned | stationState => simp
  | _ => rfl

theorem Opens.pending_eq {c : Instr} {s t : State} (h : Opens c s t) : t.pending = s.pending := by
  cases h with
  | inForce d m hot =>
    rw [(putInForce_frame d hot (readOut m s)).2.2.2.2]
    rfl
  | _ => rfl

/-- Settles O3: neither an opening nor an elementary write reaches the waiting commands. -/
theorem commandsLeaveTheQueue : Obligations.CommandsLeaveTheQueue := fun _ s _ h =>
  exec_keeps (P := fun u => u.pending = s.pending) h (fun _ o => o.pending_eq) (fun _ _ w k => w.pending_eq.trans k)

/-- The configuration in force, with the station number (R176, R179). -/
def inForce (s : State) : Cfg × BitVec 4 × List Clamp × Nat :=
  (s.sul.cfg, s.sul.station, s.sul.clamps, s.sul.clampCount)

theorem Write.inForce_eq {seq svy : Prop} {s t : State} (h : Write seq svy s t) : inForce t = inForce s := by
  cases h with
  | station u cfg number clamps count => simp [inForce, cfg, number, clamps, count]
  | store | frame | completed | abandoned | stationState => simp [inForce]
  | _ => rfl

/-- Settles O13: only a start, a core stop and the end of loading open with a write of the configuration. -/
theorem configurationStaysFixed : Obligations.ConfigurationStaysFixed := by
  intro c s t h start stop load
  have opens : ∀ u, Opens c s u → inForce u = inForce s := by
    intro u o
    cases o with
    | start a b e => exact absurd e (start a b)
    | coreStop e => exact absurd e stop
    | inForce d m hot e => exact absurd e (load d hot m)
    | _ => rfl
  simpa [inForce] using exec_keeps (P := fun u => inForce u = inForce s) h opens (fun _ _ w k => w.inForce_eq.trans k)

/-! ### The marker, the seconds counter and the counters (O14, O15) -/

/-- The elementary writes reach neither the retained-valid marker nor the seconds counter. -/
theorem Write.marker_eq {seq svy : Prop} {s t : State} (h : Write seq svy s t) :
    t.rhs.valid = s.rhs.valid ∧ t.rhs.seconds = s.rhs.seconds := by
  cases h with
  | store | frame | completed | abandoned | stationState => simp
  | _ => exact ⟨rfl, rfl⟩

theorem Writes.marker_eq {seq svy : Prop} {s t : State} (h : Writes seq svy s t) :
    t.rhs.valid = s.rhs.valid ∧ t.rhs.seconds = s.rhs.seconds :=
  h.keeps (P := fun u => u.rhs.valid = s.rhs.valid ∧ u.rhs.seconds = s.rhs.seconds)
    (fun _ _ w k => ⟨w.marker_eq.1.trans k.1, w.marker_eq.2.trans k.2⟩) ⟨rfl, rfl⟩

/-- Settles O14, from the openings: the writes that follow leave the marker and the counter alone. -/
theorem retainedMarkerAndCounterChangeOnlyByTheirRules :
    Obligations.RetainedMarkerAndCounterChangeOnlyByTheirRules := by
  intro c s t h
  obtain ⟨u, o, w⟩ := exec_cases h
  obtain ⟨valid, seconds⟩ := w.marker_eq
  rw [valid, seconds]
  cases o with
  | start straps clr e =>
    subst e
    cases v : s.rhs.valid <;> cases clr <;> simp [startsCold, Rhs.empty, v]
  | cellFails e runs => subst e; simp [runs]
  | cellLost e stopped => subst e; simp [spoilRetained, stopped]
  | inForce d m hot e =>
    subst e
    rw [(putInForce_frame d hot (readOut m s)).2.1]
    simp [readOut, deselect]
  | tick e => subst e; simp
  | coreStop e => subst e; simp [State.coreLost]
  | halts cause e =>
    rcases e with rfl | ⟨d, hot, m, rfl⟩ <;> simp [haltBase, deselect]
  | same start fail tick => simp [start, fail, tick]

end Sys2Proof.Machine
end

section
/-! Proofs of the invariants that each elementary write keeps: counters, setpoints, request ids, the transmit queue, the
capacities and the Peer Table (O6, O9 to O11, O15). -/

namespace Sys2Proof.Machine

open Sys2Proof

/-! ### The counters (O15) -/

theorem toNat_le_satInc (x : Half) : x.toNat ≤ (satInc x).toNat := by
  unfold satInc
  split <;> bv_omega

theorem count_le_bump (c k : Counter) (s : State) : (s.count k).toNat ≤ ((bump c s).count k).toNat := by
  simp only [State.count, bump, List.getD_eq_getElem?_getD, List.getElem?_modify]
  cases s.counters[k.place]? with
  | none => simp
  | some x =>
    by_cases at_k : c.place = k.place
    · simpa [at_k] using toNat_le_satInc x
    · simp [at_k]

/-- The counters of another state with the same bank. -/
theorem count_congr {s t : State} (h : t.counters = s.counters) (k : Counter) : t.count k = s.count k := by
  rw [State.count, h, State.count]

theorem count_le_enqueue (f : TxFrame) (k : Counter) (s : State) :
    (s.count k).toNat ≤ ((enqueue f s).count k).toNat := by
  unfold enqueue
  split
  · exact le_rfl
  · split
    · exact le_rfl
    · split
      · split
        · exact count_le_bump _ k _
        · exact count_le_bump _ k s
      · exact count_le_bump _ k s

theorem count_le_queueAbandoned (o : Nat) (k : Counter) (s : State) :
    (s.count k).toNat ≤ ((queueAbandoned o s).count k).toNat := by
  unfold queueAbandoned
  dsimp only
  split
  · exact le_rfl
  · split
    · exact count_le_enqueue _ k { s with lif.queue := s.lif.queue.filter (fun x => decide (x.order ≠ o)) }
    · exact le_rfl

theorem count_le_storeFrame (f : RxFrame) (k : Counter) (s : State) :
    (s.count k).toNat ≤ ((storeFrame f s).count k).toNat := by
  unfold storeFrame
  split
  · exact count_le_bump _ k s
  · exact le_rfl

theorem Write.count_le {seq svy : Prop} {s t : State} (h : Write seq svy s t) (k : Counter) :
    (s.count k).toNat ≤ (t.count k).toNat := by
  cases h with
  | counter c => exact count_le_bump c k s
  | frame f => exact count_le_enqueue f k s
  | abandoned o => exact count_le_queueAbandoned o k s
  | store f => exact count_le_storeFrame f k s
  | completed o => exact (congrArg BitVec.toNat (count_congr (t := queueCompleted o s) (by simp) k)).ge
  | stationState new =>
    exact (congrArg BitVec.toNat (count_congr (t := plannerHandOff { s with sul.state := new }) (by simp) k)).ge
  | _ => exact le_rfl

/-- Settles O15: of the openings only a start and a core stop touch the bank, and no write decreases a counter. -/
theorem countersNeverDecrease : Obligations.CountersNeverDecrease := by
  intro c s t k h start stop
  refine exec_keeps (P := fun u => (s.count k).toNat ≤ (u.count k).toNat) h (fun u o => ?_)
    (fun _ _ w h => h.trans (w.count_le k))
  cases o with
  | start a b e => exact absurd e (start a b)
  | coreStop e => exact absurd e stop
  | inForce d m hot =>
    have same := (putInForce_frame d hot (readOut m s)).2.2.1
    exact (congrArg BitVec.toNat (count_congr (s := s) same k)).ge
  | _ => exact le_rfl

/-! ### The setpoints (O6) -/

theorem setpoint_of_zeroAllSetpoints {s : State} {sl : Slot} (h : sl ∈ (zeroAllSetpoints s).slots) :
    sl.setpoint = 0 := by
  obtain ⟨a, -, rfl⟩ := List.mem_map.1 h
  rfl

theorem chargingStopped_congr {s t : State} (pause : t.lif.linePause = s.lif.linePause)
    (state : t.sul.state = s.sul.state) : chargingStopped t = chargingStopped s := by
  rw [chargingStopped, pause, state, chargingStopped]

theorem plannerHandOff_slots {s : State} (h : s.sul.state ≠ .holdup) : (plannerHandOff s).slots = s.slots := by
  simp [plannerHandOff, h]

theorem plannerHandOff_slots_holdup {s : State} (h : s.sul.state = .holdup) :
    (plannerHandOff s).slots = (zeroAllSetpoints s).slots := by
  simp [plannerHandOff, h]

theorem setpointsSafe_of_slots_eq {s t : State} (safe : SetpointsSafe s) (slots : t.slots = s.slots)
    (stopped : chargingStopped t = true → chargingStopped s = true) : SetpointsSafe t := by
  intro sl h
  rw [slots] at h
  exact fun k => safe sl h (k.imp_right stopped)

theorem setpointsSafe_slots {seq svy : Prop} {s : State} {l : List Slot} (safe : SetpointsSafe s)
    (each : List.Forall₂ (SlotWrite seq svy s) s.slots l) : SetpointsSafe { s with slots := l } := by
  intro b hb forbidden
  obtain ⟨a, ha, w⟩ : ∃ a ∈ s.slots, SlotWrite seq svy s a b := by
    obtain ⟨n, hn, rfl⟩ := List.getElem_of_mem hb
    have hn' : n < s.slots.length := each.length_eq ▸ hn
    exact ⟨s.slots[n], List.getElem_mem hn', by simpa using each.get hn' hn⟩
  rcases w.setpoint with zero | ⟨same, charge⟩ | ⟨runs, may⟩
  · exact zero
  · exact same.trans (safe a ha (forbidden.imp_left charge))
  · rcases forbidden with h | h
    · exact absurd h (by simp [may])
    · exact absurd (runs.symm.trans h) (by simp)

theorem setpointsSafe_stationState {s : State} (new : StationState)
    (zero : new = .active ∨ new = .withdrawn ∨ new = .holdup ∨ chargingStopped s = true) (safe : SetpointsSafe s) :
    SetpointsSafe (plannerHandOff { s with sul.state := new }) := by
  intro sl h forbidden
  by_cases holdup : new = .holdup
  · rw [plannerHandOff_slots_holdup holdup] at h
    exact setpoint_of_zeroAllSetpoints h
  · rw [plannerHandOff_slots holdup] at h
    refine safe sl h (forbidden.imp_right (fun stopped => ?_))
    rcases zero with rfl | rfl | e | k
    · simp_all [chargingStopped]
    · simp_all [chargingStopped]
    · exact absurd e holdup
    · exact k

theorem Write.setpointsSafe {seq svy : Prop} {s t : State} (h : Write seq svy s t) (safe : SetpointsSafe s) :
    SetpointsSafe t := by
  have same := h.charging
  cases h with
  | slots l each => exact setpointsSafe_slots safe each
  | stationState new _ zero => exact setpointsSafe_stationState new zero safe
  | pause => exact fun sl h _ => setpoint_of_zeroAllSetpoints h
  | pauseEnds => exact setpointsSafe_of_slots_eq safe rfl (by simp [chargingStopped]; tauto)
  | store | frame | completed | abandoned =>
    exact setpointsSafe_of_slots_eq safe (by simp) (fun k => (chargingStopped_congr (by simp) (by simp)).symm.trans k)
  | line l _ _ _ pause => exact setpointsSafe_of_slots_eq safe rfl (fun k => by rwa [← chargingStopped_congr (s := s) (t := { s with lif := l }) pause rfl])
  | station u _ _ _ _ state => exact setpointsSafe_of_slots_eq safe rfl (fun k => by rwa [← chargingStopped_congr (s := s) (t := { s with sul := u }) rfl state])
  | _ => exact setpointsSafe_of_slots_eq safe rfl id

theorem freshSlots_mem {n : Nat} {d : Bool} {hot : BitVec 8} {now : Word} {sl : Slot}
    (h : sl ∈ freshSlots n d hot now) : ∃ b, sl = Slot.fresh d b now := by
  obtain ⟨m, -, rfl⟩ := List.mem_map.1 h
  exact ⟨_, rfl⟩

theorem Opens.setpointsSafe {c : Instr} {s t : State} (h : Opens c s t) (safe : SetpointsSafe s) : SetpointsSafe t := by
  cases h with
  | same => exact safe
  | start | coreStop => simp [SetpointsSafe, State.coreLost]
  | cellFails | cellLost | tick => exact safe
  | halts cause _ load =>
    exact setpointsSafe_of_slots_eq safe rfl (fun _ => chargingStopped_of_starting (starting_of_loading load))
  | inForce d m hot =>
    intro sl h
    rw [(putInForce_tables d hot (readOut m s)).2.1] at h
    obtain ⟨b, rfl⟩ := freshSlots_mem h
    exact fun _ => rfl

/-- Settles O6: each elementary write keeps the setpoints safe. -/
theorem setpointsStaySafe : Obligations.SetpointsStaySafe := fun _ _ =>
  step_keeps (fun _ _ => id) (fun _ _ _ o => o.setpointsSafe) (fun _ _ w => w.setpointsSafe)

/-! ### Request ids (O11) -/

/-- Writes that leave book, marker, core and hold records alone keep the ids unique. -/
theorem requestIdsUnique_congr {s t : State} (h : RequestIdsUnique s) (book : t.ofe.book = s.ofe.book)
    (valid : t.rhs.valid = s.rhs.valid) (core : t.core = s.core) (holds : t.rhs.holds = s.rhs.holds) :
    RequestIdsUnique t := by
  unfold RequestIdsUnique
  rw [book, valid, core, holds]
  exact h

theorem Write.requestIdsUnique {seq svy : Prop} {s t : State} (h : Write seq svy s t) (k : RequestIdsUnique s) :
    RequestIdsUnique t := by
  cases h with
  | offers o ids => exact ⟨ids k, k.2⟩
  | holds l _ ids => exact ⟨k.1, fun r => ids (k.2 r)⟩
  | store | frame | completed | abandoned | stationState => exact requestIdsUnique_congr k (by simp) (by simp) (by simp) (by simp)
  | _ => exact requestIdsUnique_congr k rfl rfl rfl rfl

theorem Opens.requestIdsUnique {c : Instr} {s t : State} (h : Opens c s t) (k : RequestIdsUnique s) :
    RequestIdsUnique t := by
  cases h with
  | same => exact k
  | start straps clr e =>
    refine ⟨List.nodup_nil, fun _ => ?_⟩
    dsimp only
    split
    · simp [Rhs.empty]
    · next warm => exact k.2 (.inl (by simp_all [startsCold]))
  | coreStop e runs => exact ⟨List.nodup_nil, fun _ => k.2 (.inr runs)⟩
  | cellFails e runs => exact ⟨k.1, fun _ => k.2 (.inr runs)⟩
  | cellLost e stopped => exact ⟨k.1, fun r => by simp [spoilRetained, stopped] at r⟩
  | tick => exact k
  | halts => exact k
  | inForce d m hot =>
    obtain ⟨core, store, -⟩ := putInForce_frame d hot (readOut m s)
    refine ⟨by simp [Ofe.initial], fun r => ?_⟩
    rw [core, store] at r
    rw [store]
    exact k.2 r

/-- Settles O11: each elementary write keeps the request ids unique. -/
theorem requestIdsStayUnique : Obligations.RequestIdsStayUnique := fun _ _ =>
  step_keeps (fun _ _ => id) (fun _ _ _ o => o.requestIdsUnique) (fun _ _ w => w.requestIdsUnique)

end Sys2Proof.Machine
end

section
/-! Proofs that each elementary write keeps the transmit queue in its order and every structure within its places
(O9, O10). -/

namespace Sys2Proof.Machine

open Sys2Proof

/-! ### The transmit queue's order (O10) -/

theorem insertTx_eq_insertBy (e : TxEntry) (l : List TxEntry) :
    insertTx e l = insertBy (fun x y => decide (x.frame.contest < y.frame.contest)) e l := by
  induction l with
  | nil => rfl
  | cons x l ih => simp [insertTx, insertBy, ih]

theorem insertTx_perm (e : TxEntry) (l : List TxEntry) : (insertTx e l).Perm (e :: l) :=
  insertTx_eq_insertBy e l ▸ insertBy_perm _ e l

/-- What the demands of a queue entry keep: an order below the next one, and the contest value of a DEMAND. -/
theorem queueInOrder_pushFrame {f : TxFrame} {s : State} (h : QueueInOrder s)
    (contest : f.kind = .demand → f.contest = 0x40#8) : QueueInOrder (pushFrame f s) := by
  obtain ⟨order, older, demands⟩ := h
  have members : ∀ e ∈ (pushFrame f s).lif.queue, e = ⟨f, s.lif.nextOrder, none⟩ ∨ e ∈ s.lif.queue := fun e he =>
    List.mem_cons.1 ((insertTx_perm _ _).subset he)
  refine ⟨?_, fun e he => ?_, fun e he kind => ?_⟩
  · show (insertTx _ _).Pairwise txBefore
    rw [insertTx_eq_insertBy]
    refine insertBy_pairwise _ _ _ _ (fun y _ lt => .inl (by simpa using lt)) (fun y hy ge => ?_) ?_ order
    · have le : y.frame.contest ≤ f.contest := by simpa using ge
      by_cases eq : y.frame.contest = f.contest
      · exact .inr ⟨eq, older y hy⟩
      · exact .inl (BitVec.lt_of_le_ne le eq)
    · rintro y - z - (a | ⟨a, b⟩) (c | ⟨c, d⟩)
      · exact .inl (BitVec.lt_trans a c)
      · exact .inl (c ▸ a)
      · exact .inl (a ▸ c)
      · exact .inr ⟨a.trans c, b.trans d⟩
  · rcases members e he with rfl | old
    · exact Nat.lt_succ_self _
    · exact (older e old).trans (Nat.lt_succ_self _)
  · rcases members e he with rfl | old
    · exact contest kind
    · exact demands e old kind

theorem queueInOrder_filter {s : State} (p : TxEntry → Bool) (h : QueueInOrder s) :
    QueueInOrder { s with lif.queue := s.lif.queue.filter p } :=
  ⟨h.1.filter _, fun e he => h.2.1 e (List.mem_of_mem_filter he), fun e he => h.2.2 e (List.mem_of_mem_filter he)⟩

/-- Entries rewritten in their places, with contest value and order kept, stay in order. -/
theorem queueInOrder_map {s : State} (g : TxEntry → TxEntry) (h : QueueInOrder s)
    (contest : ∀ e ∈ s.lif.queue, (g e).frame.contest = e.frame.contest)
    (same : ∀ e ∈ s.lif.queue, (g e).order = e.order)
    (kind : ∀ e ∈ s.lif.queue, (g e).frame.kind = .demand → e.frame.kind = .demand) :
    QueueInOrder { s with lif.queue := s.lif.queue.map g } := by
  obtain ⟨order, older, demands⟩ := h
  refine ⟨List.pairwise_map.2 (order.imp_of_mem (fun {a b} ha hb r => ?_)), ?_, ?_⟩
  · simpa only [txBefore, contest a ha, contest b hb, same a ha, same b hb] using r
  · simp only [List.mem_map, forall_exists_index, and_imp, forall_apply_eq_imp_iff₂]
    exact fun e he => (same e he).trans_lt (older e he)
  · simp only [List.mem_map, forall_exists_index, and_imp, forall_apply_eq_imp_iff₂]
    exact fun e he k => (contest e he).trans (demands e he (kind e he k))

/-- Writes that leave queue and next order alone keep the order. -/
theorem queueInOrder_congr {s t : State} (h : QueueInOrder s) (queue : t.lif.queue = s.lif.queue)
    (order : t.lif.nextOrder = s.lif.nextOrder) : QueueInOrder t := by
  unfold QueueInOrder
  rw [queue, order]
  exact h

theorem queueInOrder_enqueue {f : TxFrame} {s : State} (h : QueueInOrder s)
    (contest : f.kind = .demand → f.contest = 0x40#8) : QueueInOrder (enqueue f s) := by
  unfold enqueue
  split
  · next beside =>
    refine queueInOrder_map (replaceDemand s.lif.tx f) h (fun e he => ?_) (fun e _ => ?_) (fun e _ => ?_)
    · unfold replaceDemand
      split
      · next k =>
        split
        · rfl
        · exact (contest beside.1).trans (h.2.2 e he k).symm
      · rfl
    · unfold replaceDemand
      (repeat' split) <;> rfl
    · unfold replaceDemand
      split
      · exact fun _ => ‹_›
      · exact id
  · split
    · exact queueInOrder_pushFrame h contest
    · split
      · split
        · exact queueInOrder_pushFrame (queueInOrder_filter _ h) contest
        · exact h
      · exact h

theorem mem_of_find?_order {o : Nat} {s : State} {e : TxEntry}
    (h : s.lif.queue.find? (fun e => e.order == o) = some e) : e ∈ s.lif.queue ∧ e.order = o :=
  ⟨List.mem_of_find?_eq_some h, by simpa using List.find?_some h⟩

theorem queueInOrder_queueCompleted {o : Nat} {s : State} (h : QueueInOrder s) : QueueInOrder (queueCompleted o s) := by
  unfold queueCompleted
  split
  · exact h
  · next e found =>
    dsimp only
    split
    · exact queueInOrder_pushFrame (queueInOrder_filter _ h) (h.2.2 e (mem_of_find?_order found).1)
    · exact queueInOrder_filter _ h

theorem queueInOrder_queueAbandoned {o : Nat} {s : State} (h : QueueInOrder s) : QueueInOrder (queueAbandoned o s) := by
  unfold queueAbandoned
  split
  · exact h
  · next e found =>
    dsimp only
    split
    · exact queueInOrder_enqueue (queueInOrder_filter _ h) (h.2.2 e (mem_of_find?_order found).1)
    · exact queueInOrder_filter _ h

theorem queueInOrder_queueRetries {o : Nat} {s : State} (h : QueueInOrder s) : QueueInOrder (queueRetries o s) :=
  queueInOrder_map _ h (fun e _ => by dsimp only; split <;> rfl) (fun e _ => by dsimp only; split <;> rfl)
    (fun e _ => by dsimp only; split <;> exact id)

theorem Write.queueInOrder {seq svy : Prop} {s t : State} (h : Write seq svy s t) (k : QueueInOrder s) :
    QueueInOrder t := by
  cases h with
  | frame f contest => exact queueInOrder_enqueue k contest
  | completed o => exact queueInOrder_queueCompleted k
  | retries o => exact queueInOrder_queueRetries k
  | abandoned o => exact queueInOrder_queueAbandoned k
  | line l queue order => exact queueInOrder_congr k queue order
  | store f => exact queueInOrder_congr k (by rw [storeFrame_line]) (by rw [storeFrame_line])
  | stationState => exact queueInOrder_congr k (by simp) (by simp)
  | _ => exact queueInOrder_congr k rfl rfl

theorem queueInOrder_initial {t : State} (h : t.lif = Lif.initial) : QueueInOrder t := by
  simp [QueueInOrder, h, Lif.initial]

theorem Opens.queueInOrder {c : Instr} {s t : State} (h : Opens c s t) (k : QueueInOrder s) : QueueInOrder t := by
  cases h with
  | start | coreStop | halts => exact queueInOrder_initial rfl
  | inForce d m hot => exact queueInOrder_initial (putInForce_tables d hot (readOut m s)).2.2.1
  | _ => exact k

/-- Settles O10: each elementary write keeps the queue in its order. -/
theorem transmitQueueStaysInOrder : Obligations.TransmitQueueStaysInOrder := fun _ _ =>
  step_keeps (fun _ _ => id) (fun _ _ _ o => o.queueInOrder) (fun _ _ w => w.queueInOrder)

/-! ### The places of the transmit queue (O9) -/

/-- The entry is a DEMAND. -/
def isDemand (e : TxEntry) : Bool := decide (e.frame.kind = .demand)

/-- Four places, and at most one DEMAND (R38, R39). -/
def QueueFits (l : List TxEntry) : Prop := l.length ≤ 4 ∧ l.countP isDemand ≤ 1

theorem queueFits_filter {l : List TxEntry} (p : TxEntry → Bool) (h : QueueFits l) : QueueFits (l.filter p) :=
  ⟨(List.length_filter_le p l).trans h.1, (List.Sublist.countP_le (List.filter_sublist)).trans h.2⟩

theorem queueFits_map {l : List TxEntry} (g : TxEntry → TxEntry) (kind : ∀ e, (g e).frame.kind = e.frame.kind)
    (h : QueueFits l) : QueueFits (l.map g) := by
  have same : isDemand ∘ g = isDemand := by
    funext e
    simp [isDemand, kind]
  exact ⟨by simpa using h.1, by simpa [List.countP_map, same] using h.2⟩

theorem queueFits_pushFrame {f : TxFrame} {s : State} (room : s.lif.queue.length < 4)
    (alone : s.lif.queue.countP isDemand + (if f.kind = .demand then 1 else 0) ≤ 1) :
    QueueFits (pushFrame f s).lif.queue := by
  have perm := insertTx_perm ⟨f, s.lif.nextOrder, none⟩ s.lif.queue
  constructor
  · show (insertTx _ _).length ≤ 4
    rw [perm.length_eq]
    simpa using room
  · show (insertTx _ _).countP isDemand ≤ 1
    rw [perm.countP_eq]
    simpa [List.countP_cons, isDemand] using alone

/-- An entry that a filter drops leaves its place and, if it is a DEMAND, the DEMAND's. -/
theorem length_countP_filter_of_dropped {l : List TxEntry} {p : TxEntry → Bool} {e : TxEntry} (he : e ∈ l)
    (dropped : p e = false) : (l.filter p).length < l.length ∧
      (l.filter p).countP isDemand + (if e.frame.kind = .demand then 1 else 0) ≤ l.countP isDemand := by
  induction l with
  | nil => simp at he
  | cons x l ih =>
    rcases List.mem_cons.1 he with rfl | mem
    · have := List.length_filter_le p l
      have := List.Sublist.countP_le (p := isDemand) (List.filter_sublist (p := p) (l := l))
      simp only [List.filter_cons, dropped, List.length_cons, List.countP_cons, isDemand, decide_eq_true_eq]
      simp only [Bool.false_eq_true, if_false]
      constructor
      · omega
      · exact Nat.add_le_add_right this _
    · obtain ⟨length, demands⟩ := ih mem
      by_cases px : p x = true
      · simp only [List.filter_cons, px, if_true, List.length_cons, List.countP_cons]
        omega
      · simp only [List.filter_cons, px, List.length_cons, List.countP_cons, Bool.false_eq_true, if_false]
        omega

theorem mem_of_newestStatus {l : Lif} {o : Nat} (h : newestStatus l = some o) : ∃ e ∈ l.queue, e.order = o := by
  have := List.max?_mem h
  simp only [List.mem_map, List.mem_filter] at this
  obtain ⟨e, ⟨he, -⟩, rfl⟩ := this
  exact ⟨e, he, rfl⟩

@[simp] theorem replaceDemand_kind (tx : Option Transmission) (f : TxFrame) (demand : f.kind = .demand) (e : TxEntry) :
    (replaceDemand tx f e).frame.kind = e.frame.kind := by
  unfold replaceDemand
  split
  · next k => split <;> simp [demand, k]
  · rfl

theorem queueFits_enqueue {f : TxFrame} {s : State} (h : QueueFits s.lif.queue) :
    QueueFits (enqueue f s).lif.queue := by
  unfold enqueue
  split
  · next beside => exact queueFits_map _ (replaceDemand_kind _ _ beside.1) h
  · next apart =>
    split
    · next room =>
      refine queueFits_pushFrame room ?_
      split
      · next demand =>
        have none : s.lif.queue.countP isDemand = 0 := by
          simpa [demand, isDemand, List.countP_eq_zero] using apart
        simp [none]
      · simpa using h.2
    · split
      · next closing =>
        have other : f.kind ≠ .demand := by rcases closing with e | e <;> simp [e]
        split
        · next o newest =>
          obtain ⟨e, he, rfl⟩ := mem_of_newestStatus newest
          obtain ⟨length, -⟩ := length_countP_filter_of_dropped (p := fun x => decide (x.order ≠ e.order)) he (by simp)
          refine queueFits_pushFrame (length.trans_le h.1) ?_
          simpa [other] using (queueFits_filter _ h).2
        · exact h
      · exact h

theorem queueFits_queueCompleted {o : Nat} {s : State} (h : QueueFits s.lif.queue) :
    QueueFits (queueCompleted o s).lif.queue := by
  unfold queueCompleted
  split
  · exact h
  · next e found =>
    dsimp only
    split
    · obtain ⟨mem, rfl⟩ := mem_of_find?_order found
      obtain ⟨length, demands⟩ := length_countP_filter_of_dropped (p := fun x => decide (x.order ≠ e.order)) mem (by simp)
      exact queueFits_pushFrame (length.trans_le h.1) (demands.trans h.2)
    · exact queueFits_filter _ h

theorem queueFits_queueAbandoned {o : Nat} {s : State} (h : QueueFits s.lif.queue) :
    QueueFits (queueAbandoned o s).lif.queue := by
  unfold queueAbandoned
  split
  · exact h
  · dsimp only
    split
    · exact queueFits_enqueue (queueFits_filter _ h)
    · exact queueFits_filter _ h

theorem Write.queueFits {seq svy : Prop} {s t : State} (h : Write seq svy s t) (k : QueueFits s.lif.queue) :
    QueueFits t.lif.queue := by
  cases h with
  | frame f => exact queueFits_enqueue k
  | completed o => exact queueFits_queueCompleted k
  | abandoned o => exact queueFits_queueAbandoned k
  | retries o => exact queueFits_map _ (fun e => by dsimp only; split <;> rfl) k
  | line l queue => exact (show l.queue = s.lif.queue from queue) ▸ k
  | store f => rwa [storeFrame_line]
  | stationState => simpa using k
  | _ => exact k

/-! ### The places of the other structures (O9) -/

theorem length_rxBuf_storeFrame {f : RxFrame} {s : State} (h : s.lif.rxBuf.length ≤ 2) :
    (storeFrame f s).lif.rxBuf.length ≤ 2 := by
  unfold storeFrame
  split
  · exact h
  · simp
    omega

/-- The writes keep the two places of the receive buffer (R36). -/
theorem Write.rxBuf_le {seq svy : Prop} {s t : State} (h : Write seq svy s t) (k : s.lif.rxBuf.length ≤ 2) :
    t.lif.rxBuf.length ≤ 2 := by
  cases h with
  | store f => exact length_rxBuf_storeFrame k
  | drop => simpa [dropHead] using k.trans (by omega)
  | frame f => rwa [enqueue_line]
  | completed o => rwa [queueCompleted_line]
  | abandoned o => rwa [queueAbandoned_line]
  | line l _ _ buffer => exact (congrArg List.length (show l.rxBuf = s.lif.rxBuf from buffer)).trans_le k
  | stationState => simpa using k
  | _ => exact k

theorem Write.slots_length {seq svy : Prop} {s t : State} (h : Write seq svy s t) :
    t.slots.length = s.slots.length := by
  cases h with
  | slots l each => exact each.length_eq.symm
  | store | frame | completed | abandoned => simp
  | stationState new =>
    have := congrArg List.length (plannerHandOff_conds { s with sul.state := new })
    simpa [conds] using this
  | pause => simp [zeroAllSetpoints]
  | _ => rfl

theorem length_counters_enqueue (f : TxFrame) (s : State) : (enqueue f s).counters.length = s.counters.length := by
  unfold enqueue
  (repeat' split) <;> simp [bump, pushFrame]

theorem Write.counters_length {seq svy : Prop} {s t : State} (h : Write seq svy s t) :
    t.counters.length = s.counters.length := by
  cases h with
  | counter c => simp [bump]
  | frame f => exact length_counters_enqueue f s
  | store f =>
    unfold storeFrame
    split <;> simp [bump]
  | abandoned o =>
    unfold queueAbandoned
    dsimp only
    (repeat' split) <;> simp [length_counters_enqueue]
  | completed | stationState => simp
  | _ => rfl

theorem Write.holds_length {seq svy : Prop} {s t : State} (h : Write seq svy s t) :
    t.rhs.holds.length = s.rhs.holds.length := by
  cases h with
  | holds l places => exact places
  | store | frame | completed | abandoned | stationState => simp
  | _ => rfl

theorem Write.seqQueue_le {seq svy : Prop} {s t : State} (h : Write seq svy s t) (k : s.seq.queue.length ≤ 2) :
    t.seq.queue.length ≤ 2 := by
  cases h with
  | sequencer q _ room => exact room k
  | store | frame | completed | abandoned | stationState => simpa using k
  | _ => exact k

theorem Write.book_le {seq svy : Prop} {s t : State} (h : Write seq svy s t) (k : WithinCapacity s) :
    t.ofe.book.length ≤ 16 := by
  cases h with
  | offers o _ room => exact room k
  | store | frame | completed | abandoned | stationState => simpa using k.2.2.2.2.1
  | _ => exact k.2.2.2.2.1

theorem Write.withinCapacity {seq svy : Prop} {s t : State} (h : Write seq svy s t) (k : WithinCapacity s) :
    WithinCapacity t := by
  have book := h.book_le k
  obtain ⟨buffer, queue, demands, serve, -, holds, clamps, slots, counters⟩ := k
  obtain ⟨queue, demands⟩ := h.queueFits ⟨queue, demands⟩
  have same : t.sul.clamps = s.sul.clamps := (Prod.mk.inj (Prod.mk.inj (Prod.mk.inj h.inForce_eq).2).2).1
  exact ⟨h.rxBuf_le buffer, queue, demands, h.seqQueue_le serve, book, h.holds_length.trans holds, same ▸ clamps,
    h.slots_length.trans_le slots, h.counters_length.trans counters⟩

/-! ### The openings (R1, R171, R178) -/

/-- The fitted-slot count is a field with no default and the range 1 to 8 (11.2). -/
theorem fitted_le (img : List Byte) : imageValue img 1 ≤ 8 := by
  have found : fields.find? (fun f => f.offset == 1) = some ⟨1, false, 1, 8, 1, none⟩ := rfl
  simp only [imageValue, found, settleField]
  (repeat' split) <;> simp_all

/-- A state whose LIF, serve queue and book are empty. -/
theorem withinCapacity_of_fresh {t : State} (lif : t.lif = Lif.initial) (seq : t.seq.queue = [])
    (book : t.ofe.book = []) (holds : t.rhs.holds.length = 8) (clamps : t.sul.clamps.length ≤ 16)
    (slots : t.slots.length ≤ 8) (counters : t.counters.length = 32) : WithinCapacity t := by
  simp [WithinCapacity, lif, seq, book, holds, clamps, slots, counters, Lif.initial]

theorem Opens.withinCapacity {c : Instr} {s t : State} (h : Opens c s t) (k : WithinCapacity s) : WithinCapacity t := by
  obtain ⟨buffer, queue, demands, serve, book, holds, clamps, slots, counters⟩ := k
  cases h with
  | same | cellFails | tick => exact ⟨buffer, queue, demands, serve, book, holds, clamps, slots, counters⟩
  | start straps clr e =>
    refine withinCapacity_of_fresh rfl rfl rfl ?_ (by simp [Sul.started, Sul.initial]) (by simp [State.coreLost])
      (by simp [State.coreLost])
    dsimp only
    split
    · simp [Rhs.empty]
    · exact holds
  | coreStop =>
    exact withinCapacity_of_fresh rfl rfl rfl holds (by simp [State.coreLost, Sul.initial])
      (by simp [State.coreLost]) (by simp [State.coreLost])
  | cellLost => exact ⟨buffer, queue, demands, serve, book, by simp [spoilRetained], clamps, slots, counters⟩
  | halts =>
    exact ⟨by simp [haltBase, Lif.initial], by simp [haltBase, Lif.initial], by simp [haltBase, Lif.initial],
      serve, book, holds, clamps, slots, counters⟩
  | inForce d m hot =>
    obtain ⟨-, store, bank, -⟩ := putInForce_frame d hot (readOut m s)
    obtain ⟨sul, table, lif, -⟩ := putInForce_tables d hot (readOut m s)
    obtain ⟨-, ofe, seq⟩ := putInForce_fresh d hot (readOut m s)
    refine withinCapacity_of_fresh lif (by simp [Seq.initial]) (by simp [Ofe.initial]) (store ▸ holds)
      (by simp [sul]) ?_ (bank ▸ counters)
    simpa [table, freshSlots, cfgOf] using fitted_le _

/-! ### The Peer Table (O9) -/

theorem lifRuns_congr {s t : State} (core : t.core = s.core) (state : t.sul.state = s.sul.state) :
    lifRuns t = lifRuns s := by
  simp [lifRuns, core, state]

/-- Writes that leave the Peer Table, the number, the core and the state alone. -/
theorem peerPlaces_congr {s t : State} (h : PeerPlaces s) (peers : t.alw.peers = s.alw.peers)
    (number : t.sul.station = s.sul.station) (runs : lifRuns t = true → lifRuns s = true) : PeerPlaces t := by
  unfold PeerPlaces
  rw [peers, number]
  exact ⟨h.1, fun k => h.2 (runs k)⟩

theorem placed_set {l : List (Option Peer)} {own n : Nat} {p : Peer} (other : n ≠ own)
    (h : ∀ x ∈ l.zipIdx, (x.1 = none ↔ x.2 = own)) :
    ∀ x ∈ (l.set n (some p)).zipIdx, (x.1 = none ↔ x.2 = own) := by
  rintro ⟨q, m⟩ mem
  rw [List.mem_zipIdx_iff_getElem?, List.getElem?_set] at mem
  split at mem
  · next e =>
    subst e
    split at mem
    · cases mem
      simpa using other
    · cases mem
  · exact h (q, m) (List.mem_zipIdx_iff_getElem?.2 mem)

theorem placed_map {l : List (Option Peer)} {own : Nat} (f : Peer → Peer)
    (h : ∀ x ∈ l.zipIdx, (x.1 = none ↔ x.2 = own)) :
    ∀ x ∈ (l.map (Option.map f)).zipIdx, (x.1 = none ↔ x.2 = own) := by
  rintro ⟨q, m⟩ mem
  obtain ⟨p, at_m, rfl⟩ : ∃ p, l[m]? = some p ∧ p.map f = q := by
    simpa [List.mem_zipIdx_iff_getElem?] using mem
  simpa using h (p, m) (List.mem_zipIdx_iff_getElem?.2 at_m)

theorem Write.peerPlaces {seq svy : Prop} {s t : State} (h : Write seq svy s t) (k : PeerPlaces s) : PeerPlaces t := by
  cases h with
  | allowance a peers => exact peerPlaces_congr k peers rfl id
  | peer n p other => exact ⟨by simpa using k.1, fun runs => placed_set other (k.2 runs)⟩
  | peersAged f => exact ⟨by simpa using k.1, fun runs => placed_map f (k.2 runs)⟩
  | station u _ number _ _ state =>
    exact peerPlaces_congr k rfl number (fun r => by rwa [lifRuns_congr (s := s) (t := { s with sul := u }) rfl state] at r)
  | stationState new runs =>
    refine ⟨by simpa using k.1, fun r => ?_⟩
    rcases runs with runs | placed
    · simpa using k.2 (by simp_all [lifRuns])
    · simpa [PeersPlaced] using placed
  | store | frame | completed | abandoned =>
    exact peerPlaces_congr k (by simp) (by simp) (fun r => by simpa [lifRuns] using r)
  | _ => exact peerPlaces_congr k rfl rfl id

theorem Opens.peerPlaces {c : Instr} {s t : State} (h : Opens c s t) (k : PeerPlaces s) : PeerPlaces t := by
  have length : ∀ own, (initialPeers own).length = 16 := fun own => by simp [initialPeers]
  cases h with
  | start => exact ⟨by simp [State.coreLost, Alw.initial], fun r => by simp [lifRuns, Sul.started, Sul.initial] at r⟩
  | coreStop => exact ⟨by simp [State.coreLost, Alw.initial], fun r => by simp [lifRuns, State.coreLost] at r⟩
  | halts => exact ⟨length _, fun _ => initialPeers_placed _⟩
  | inForce d m hot =>
    obtain ⟨sul, -, -, peers⟩ := putInForce_tables d hot (readOut m s)
    unfold PeerPlaces
    rw [sul, peers]
    exact ⟨length _, fun _ => initialPeers_placed _⟩
  | _ => exact k

/-- Settles O9: each elementary write keeps every structure within its places. -/
theorem capacitiesStayWithin : Obligations.CapacitiesStayWithin :=
  ⟨fun _ _ => step_keeps (fun _ _ => id) (fun _ _ _ o => o.withinCapacity) (fun _ _ w => w.withinCapacity),
    fun _ _ => step_keeps (fun _ _ => id) (fun _ _ _ o => o.peerPlaces) (fun _ _ w => w.peerPlaces)⟩

end Sys2Proof.Machine
end

section
/-! Proofs that every UNLOCKED latch is the one the active swap's step holds open (O7, O8), and which commands open none
(O16). -/

namespace Sys2Proof.Machine

open Sys2Proof

/-! ### Latches by slot number -/

/-- The latches by slot number: true where UNLOCKED. -/
def latches (s : State) : List Bool := s.slots.map (fun sl => sl.unlocked)

/-- Only the latch of the slot `o` names may be UNLOCKED. -/
def OnlyOpen (o : Option Nat) (s : State) : Prop := ∀ n, (latches s)[n]? = some true → o = some n

/-- A swap past its beginning, or resumed, knows its dock (R174). -/
def DockKnown (a : Option Swap) : Prop := ∀ w ∈ a, (w.step ≠ .startingWait ∨ w.resume.isSome = true) → w.dock.isSome = true

theorem latchesFollowSwap_iff {s : State} :
    LatchesFollowSwap s ↔ OnlyOpen (openSlot s.seq.active) s ∧ DockKnown s.seq.active := by
  refine and_congr ⟨fun h n open_n => ?_, fun h x hx unlocked => ?_⟩ Iff.rfl
  · obtain ⟨sl, at_n, unlocked⟩ : ∃ sl, s.slots[n]? = some sl ∧ sl.unlocked = true := by simpa [latches] using open_n
    exact h (sl, n) (List.mem_zipIdx_iff_getElem?.2 at_n) unlocked
  · refine h x.2 ?_
    simp [latches, List.mem_zipIdx_iff_getElem?.1 hx, unlocked]

theorem OnlyOpen.congr {o : Option Nat} {s t : State} (h : OnlyOpen o s) (same : latches t = latches s) :
    OnlyOpen o t := by
  unfold OnlyOpen
  rwa [same]

theorem OnlyOpen.of_none {s : State} (o : Option Nat) (h : OnlyOpen none s) : OnlyOpen o s := fun n k =>
  absurd (h n k) (by simp)

theorem latchesFollowSwap_congr {s t : State} (h : LatchesFollowSwap s) (same : latches t = latches s)
    (active : t.seq.active = s.seq.active) : LatchesFollowSwap t := by
  rw [latchesFollowSwap_iff] at h ⊢
  rw [active]
  exact ⟨h.1.congr same, h.2⟩

/-- Without a swap at the slots all latches are LOCKED. -/
theorem locked_of_idle {s : State} (h : LatchesFollowSwap s) (idle : openSlot s.seq.active = none) :
    OnlyOpen none s := idle ▸ (latchesFollowSwap_iff.1 h).1

/-- With all latches LOCKED only the swap's dock matters. -/
theorem latchesFollowSwap_of_locked {s : State} (h : OnlyOpen none s) (dock : DockKnown s.seq.active) :
    LatchesFollowSwap s := latchesFollowSwap_iff.2 ⟨h.of_none _, dock⟩

theorem dockKnown_none : DockKnown none := fun _ h => absurd h (by simp)

theorem dockKnown_some {w : Swap} (h : w.dock.isSome = true) : DockKnown (some w) := by
  rintro _ ⟨⟩ -
  exact h

/-! ### What the writes do to the latches -/

theorem latches_zeroAllSetpoints (s : State) : latches (zeroAllSetpoints s) = latches s := by
  simp [latches, zeroAllSetpoints, Slot.zeroed, Slot.refreshed, Function.comp_def]

theorem latches_plannerHandOff (s : State) : latches (plannerHandOff s) = latches s := by
  unfold plannerHandOff
  split
  · exact latches_zeroAllSetpoints s
  · rfl

/-- Without SEQ neither a latch nor the active swap moves. -/
theorem Write.latches_eq {svy : Prop} {s t : State} (h : Write False svy s t) :
    latches t = latches s ∧ t.seq = s.seq := by
  cases h with
  | slots l each =>
    refine ⟨?_, rfl⟩
    simp only [latches]
    refine List.forall₂_eq_eq_eq ▸ List.forall₂_map_left_iff.2 (List.forall₂_map_right_iff.2 (each.flip.imp ?_))
    exact fun _ _ w => w.latch.resolve_left id
  | sequencer q acts => exact acts.elim
  | pause => exact ⟨latches_zeroAllSetpoints _, rfl⟩
  | stationState => exact ⟨latches_plannerHandOff _, by simp⟩
  | _ => simp [latches]

theorem Writes.latches_eq {svy : Prop} {s t : State} (h : Writes False svy s t) :
    latches t = latches s ∧ t.seq = s.seq :=
  h.keeps (P := fun u => latches u = latches s ∧ u.seq = s.seq)
    (fun _ _ w k => ⟨w.latches_eq.1.trans k.1, w.latches_eq.2.trans k.2⟩) ⟨rfl, rfl⟩

theorem Writes.latchesFollowSwap {svy : Prop} {s t : State} (h : Writes False svy s t) (k : LatchesFollowSwap s) :
    LatchesFollowSwap t :=
  latchesFollowSwap_congr k h.latches_eq.1 (congrArg Seq.active h.latches_eq.2)

theorem Writes.onlyOpen {svy : Prop} {s t : State} {o : Option Nat} (h : Writes False svy s t) (k : OnlyOpen o s) :
    OnlyOpen o t := k.congr h.latches_eq.1

/-- A latch SEQ opens is the only one when no other was open. -/
theorem onlyOpen_unlock {d : Nat} {s : State} (h : OnlyOpen (some d) s) : OnlyOpen (some d) (setLatch d true s) := by
  intro n open_n
  obtain ⟨a, at_n, unlocked⟩ : ∃ a, s.slots[n]? = some a ∧ (if d = n then true else a.unlocked) = true := by
    cases at_n : s.slots[n]? with
    | none => simp [latches, setLatch, modSlot, List.getElem?_modify, at_n] at open_n
    | some a => exact ⟨a, rfl, by
      by_cases e : d = n
      · simp [e]
      · simpa [latches, setLatch, modSlot, at_n, e] using open_n⟩
  split at unlocked
  · next e => rw [e]
  · exact h n (by simp [latches, at_n, unlocked])

/-- A latch that SEQ locks leaves none open when no other was open. -/
theorem onlyOpen_lock {d : Nat} {s : State} (h : OnlyOpen (some d) s) : OnlyOpen none (setLatch d false s) := by
  intro n open_n
  cases at_n : s.slots[n]? with
  | none => simp [latches, setLatch, modSlot, List.getElem?_modify, at_n] at open_n
  | some a =>
    by_cases e : d = n
    · simp [latches, setLatch, modSlot, at_n, e] at open_n
    · have := h n (by simpa [latches, setLatch, modSlot, at_n, e] using open_n)
      exact absurd (Option.some.inj this) e

/-! ### The operations of SEQ (file 09) -/

/-- SEQ's swap is `w`, it knows its dock, and every latch is LOCKED. -/
structure SwapClosed (w : Swap) (s : State) : Prop where
  locked : OnlyOpen none s
  active : s.seq.active = some w
  dock : w.dock.isSome = true

/-- SEQ's swap is `w`, its dock is `d`, and no other latch is UNLOCKED. -/
structure SwapAtDock (d : Nat) (w : Swap) (s : State) : Prop where
  only : OnlyOpen (some d) s
  active : s.seq.active = some w
  dock : w.dock = some d

theorem SwapClosed.follows {w : Swap} {s : State} (h : SwapClosed w s) : LatchesFollowSwap s :=
  latchesFollowSwap_of_locked h.locked (h.active ▸ dockKnown_some h.dock)

/-- Writes without SEQ leave a closed swap closed. -/
theorem SwapClosed.writes {svy : Prop} {w : Swap} {s t : State} (h : SwapClosed w s) (k : Writes False svy s t) :
    SwapClosed w t :=
  ⟨k.onlyOpen h.locked, (congrArg Seq.active k.latches_eq.2).trans h.active, h.dock⟩

theorem SwapClosed.atDock {d : Nat} {w : Swap} {s : State} (h : SwapClosed w s) (dock : w.dock = some d) :
    SwapAtDock d w s := ⟨h.locked.of_none _, h.active, dock⟩

theorem stay_writes {s : State} : Writes False False s s := .refl

/-- The swap's record is rewritten and no latch moves. -/
theorem latchesFollowSwap_modSwap {f : Swap → Swap} {w : Swap} {s : State} {o : Option Nat}
    (active : s.seq.active = some w) (slot : openSlot (some (f w)) = o) (only : OnlyOpen o s)
    (dock : (f w).dock.isSome = true) : LatchesFollowSwap (modSwap f s) := by
  rw [latchesFollowSwap_iff]
  have new : (modSwap f s).seq.active = some (f w) := by simp [modSwap, active]
  rw [new, slot]
  exact ⟨only, dockKnown_some dock⟩

theorem writeProgress_follows {s : State} (h : LatchesFollowSwap s) : LatchesFollowSwap (writeProgress s) :=
  (writeProgress_writes stay_writes).latchesFollowSwap h

theorem openReturnAt_follows {d : Nat} {w : Swap} {s : State} (only : OnlyOpen (some d) s)
    (active : s.seq.active = some w) : LatchesFollowSwap (openReturnAt d s) :=
  writeProgress_follows (latchesFollowSwap_modSwap (w := w) active rfl (onlyOpen_unlock only) rfl)

theorem handBack_follows {rid : ReqId} {s : State} (h : OnlyOpen none s) : LatchesFollowSwap (handBack rid s) :=
  (decline_writes _ _ (holdAgain_writes _ stay_writes)).latchesFollowSwap
    (s := { s with seq.active := none, seq.timer := none, rhs.progress := none })
    (latchesFollowSwap_of_locked h dockKnown_none)

theorem openReturn_follows {rid : ReqId} {w : Swap} {s : State} (locked : OnlyOpen none s)
    (active : s.seq.active = some w) : LatchesFollowSwap (openReturn rid s) := by
  unfold openReturn
  split
  · next d _ =>
    have k := (setRole_writes d .dock (some rid) (stay_writes (s := s))).latches_eq
    exact openReturnAt_follows ((locked.congr k.1).of_none _) ((congrArg Seq.active k.2).trans active)
  · exact handBack_follows locked

theorem startSwap_follows {rid : ReqId} {s : State} (locked : OnlyOpen none s) :
    LatchesFollowSwap (startSwap rid s) := by
  unfold startSwap
  dsimp only
  split
  · exact openReturn_follows (locked.congr rfl) rfl
  · refine latchesFollowSwap_of_locked (locked.congr rfl) ?_
    rintro _ ⟨⟩
    simp

theorem runQueue_follows {n : Nat} {s : State} (h : LatchesFollowSwap s) : LatchesFollowSwap (runQueue n s) := by
  induction n generalizing s with
  | zero => exact h
  | succ n ih =>
    unfold runQueue
    split
    · exact h
    · split
      · next idle => exact ih (startSwap_follows ((locked_of_idle h (by simp [Option.isNone_iff_eq_none.1 idle.1, openSlot])).congr rfl))
      · exact h

theorem lookAtQueue_follows {s : State} (h : LatchesFollowSwap s) : LatchesFollowSwap (lookAtQueue s) :=
  runQueue_follows h

theorem endSwap_follows {o : Outcome} {a : Option AbortReason} {after : EntryAfter} {w : Swap} {s : State}
    (locked : OnlyOpen none s) : LatchesFollowSwap (endSwap o a after w s) := by
  have k := (close_writes w.rid o a w.released w.returned (endServing_writes w.rid after (stay_writes (s := s)))).onlyOpen locked
  exact lookAtQueue_follows (latchesFollowSwap_of_locked (k.congr rfl) dockKnown_none)

theorem closeDock_locked {d : Nat} {w : Swap} {s : State} (only : OnlyOpen (some d) s) (dock : w.dock = some d) :
    OnlyOpen none (closeDock w s) := by
  unfold closeDock
  rw [dock]
  exact (setRole_writes d .free none stay_writes).onlyOpen (onlyOpen_lock only)

theorem openRelease_follows {n : Nat} {w w' : Swap} {s : State} (h : SwapClosed w s) :
    LatchesFollowSwap (openRelease n w' s) := by
  have k := h.writes (setRole_writes n .releasing (some w'.rid) stay_writes)
  exact writeProgress_follows (latchesFollowSwap_modSwap (w := w) k.active rfl
    (onlyOpen_unlock (k.locked.of_none _)) k.dock)

theorem endGiveBack_follows {r : AbortReason} {w : Swap} {s : State} (locked : OnlyOpen none s) :
    LatchesFollowSwap (endGiveBack r w s) :=
  endSwap_follows ((freeRelease_writes w stay_writes).onlyOpen locked)

theorem openGiveBack_follows {d : Nat} {r : AbortReason} {w : Swap} {s : State} (h : SwapClosed w s)
    (dock : w.dock = some d) : LatchesFollowSwap (openGiveBack d r w s) := by
  have k := h.writes (setRole_writes d .dock (some w.rid) stay_writes)
  exact writeProgress_follows (latchesFollowSwap_modSwap (w := w) k.active
    (by simp [openSlot, dock]) (onlyOpen_unlock (k.locked.of_none (some d))) k.dock)

theorem giveBack_follows {r : AbortReason} {w : Swap} {s : State} (h : SwapClosed w s) :
    LatchesFollowSwap (giveBack r w s) := by
  have ends : LatchesFollowSwap (endGiveBack r w (setReplan s)) := endGiveBack_follows (h.locked.congr rfl)
  unfold giveBack
  split
  · next d dock =>
    split
    · split
      · exact openGiveBack_follows h dock
      · exact ends
    · exact ends
  · exact ends

theorem substitute_follows {w : Swap} {e : Entry} {s : State} (h : SwapClosed w s) :
    LatchesFollowSwap (substitute w e s) := by
  unfold substitute
  split
  · exact openRelease_follows (h.writes (syncRecord_writes _ (modEntry_writes _ (fun _ => rfl)
      (freeRelease_writes _ (setRole_writes _ _ _ stay_writes)))))
  · exact giveBack_follows h

theorem openWait_follows {e : Entry} {w : Swap} {s : State} (h : SwapClosed w s) : LatchesFollowSwap (openWait e s) :=
  (setReplan_writes stay_writes).latchesFollowSwap (writeProgress_follows
    (latchesFollowSwap_modSwap (w := w) h.active rfl h.locked h.dock))

theorem releaseReady_follows {w : Swap} {s : State} (h : SwapClosed w s) : LatchesFollowSwap (releaseReady w s) := by
  unfold releaseReady
  split
  · split
    · exact openRelease_follows h
    · split
      · split
        · exact openWait_follows h
        · exact giveBack_follows h
      · exact substitute_follows h
  · exact substitute_follows h
  · exact h.follows

theorem judgeWaiting_follows {w : Swap} {s : State} (h : SwapClosed w s) : LatchesFollowSwap (judgeWaiting w s) := by
  unfold judgeWaiting
  split
  · split
    · exact openRelease_follows h
    · split
      · exact h.follows
      · exact substitute_follows h
  · exact h.follows

/-- A swap of these steps holds its dock open (R158). -/
theorem swapAtDock_of_follows {w : Swap} {s : State} (h : LatchesFollowSwap s) (active : s.seq.active = some w)
    (step : w.step = .returnOpen ∨ w.step = .returnCheck ∨ w.step = .rejectOut ∨ w.step = .giveBack) :
    ∃ d, SwapAtDock d w s := by
  obtain ⟨only, dock⟩ := latchesFollowSwap_iff.1 h
  obtain ⟨d, known⟩ := Option.isSome_iff_exists.1 (dock w active (.inl (by rcases step with e | e | e | e <;> simp [e])))
  refine ⟨d, ?_, active, known⟩
  rw [active] at only
  rcases step with e | e | e | e <;> simpa [openSlot, e, known] using only

/-- A swap in RELEASE_WAIT, or one that is to be resumed, holds no latch open (R158, R174). -/
theorem swapClosed_of_follows {w : Swap} {s : State} (h : LatchesFollowSwap s) (active : s.seq.active = some w)
    (step : w.step = .releaseWait ∨ (w.step = .startingWait ∧ w.resume.isSome = true)) : SwapClosed w s := by
  have idle : openSlot s.seq.active = none := by rcases step with e | ⟨e, -⟩ <;> simp [active, openSlot, e]
  refine ⟨locked_of_idle h idle, active, (latchesFollowSwap_iff.1 h).2 w active ?_⟩
  rcases step with e | ⟨-, e⟩
  · exact .inl (by simp [e])
  · exact .inr e

theorem rejudge_follows {n : Nat} {s : State} (h : LatchesFollowSwap s) : LatchesFollowSwap (rejudge n s) := by
  unfold rejudge
  split
  · next w active =>
    split
    · next k => exact judgeWaiting_follows (swapClosed_of_follows h active (.inl k.1))
    · exact h
  · exact h

/-- The timer has no part in the latches. -/
theorem SwapAtDock.stopTimer {d : Nat} {w : Swap} {s : State} (h : SwapAtDock d w s) :
    SwapAtDock d w { s with seq.timer := none } := ⟨h.only.congr rfl, h.active, h.dock⟩

theorem openCheck_follows {d : Nat} {w : Swap} {s : State} (h : SwapAtDock d w s) : LatchesFollowSwap (openCheck s) :=
  writeProgress_follows (latchesFollowSwap_modSwap (w := w) h.active
    (by simp [openSlot, h.dock]) (h.only.congr rfl) (by simp [h.dock]))

theorem openReject_follows {d : Nat} {w : Swap} {s : State} (h : SwapAtDock d w s) :
    LatchesFollowSwap (openReject d s) :=
  writeProgress_follows (latchesFollowSwap_modSwap (w := w) h.active
    (by simp [openSlot, h.dock]) (onlyOpen_unlock h.only) (by simp [h.dock]))

theorem endReject_follows {d : Nat} {w : Swap} {s : State} (only : OnlyOpen (some d) s) (dock : w.dock = some d) :
    LatchesFollowSwap (endReject w s) :=
  endSwap_follows (closeDock_locked (s := { s with seq.timer := none }) only dock)

@[simp] theorem closeDock_seq (w : Swap) (s : State) : (closeDock w s).seq = s.seq := by simp

theorem acceptReturn_follows {p : Pack} {d : Nat} {w : Swap} {s : State} (h : SwapAtDock d w s) :
    LatchesFollowSwap (acceptReturn p w s) := by
  have locked := closeDock_locked (s := { s with seq.timer := none, seq.active := some { w with returned := some p.id } })
    h.only h.dock
  exact releaseReady_follows ⟨locked.congr rfl, by simp [setFocus], by simp [h.dock]⟩

theorem judgeReturn_follows {c : Cond} {p : Option Pack} {d : Nat} {w : Swap} {s : State} (h : SwapAtDock d w s) :
    LatchesFollowSwap (judgeReturn c p d w s) := by
  unfold judgeReturn
  split
  · split
    · exact acceptReturn_follows h
    · exact openReject_follows h
  · exact openReject_follows h

/-- A swap in RELEASE_OPEN holds its release slot open (R158). -/
theorem releaseOpen_only {w : Swap} {s : State} (h : LatchesFollowSwap s) (active : s.seq.active = some w)
    (step : w.step = .releaseOpen) : OnlyOpen (some w.release) s := by
  have := (latchesFollowSwap_iff.1 h).1
  rwa [active, show openSlot (some w) = some w.release by simp [openSlot, step]] at this

/-- The release slot is locked and freed, and the swap ends (R156, R157, R174). -/
theorem endRelease_follows {o : Outcome} {w : Swap} {s : State} (only : OnlyOpen (some w.release) s) :
    LatchesFollowSwap (endSwap o none .done w (setRole w.release .free none (setLatch w.release false s))) :=
  endSwap_follows ((setRole_writes _ _ _ stay_writes).onlyOpen (onlyOpen_lock only))

theorem takeReport_follows {n : Nat} {r : Report} {s : State} (h : LatchesFollowSwap s) :
    LatchesFollowSwap (takeReport n r s) := by
  unfold takeReport
  split
  · exact h
  · next w active =>
    have timer : LatchesFollowSwap { s with seq.timer := none } := latchesFollowSwap_congr h rfl rfl
    cases step : w.step with
    | startingWait => exact h
    | returnOpen =>
      obtain ⟨d, at_d⟩ := swapAtDock_of_follows h active (.inl step)
      dsimp only
      split
      · exact openCheck_follows at_d
      · exact h
    | returnCheck =>
      obtain ⟨d, at_d⟩ := swapAtDock_of_follows h active (.inr (.inl step))
      dsimp only
      split
      · next k =>
        obtain rfl : d = n := Option.some.inj (at_d.dock.symm.trans k.1)
        exact judgeReturn_follows at_d
      · exact h
    | rejectOut =>
      obtain ⟨d, at_d⟩ := swapAtDock_of_follows h active (.inr (.inr (.inl step)))
      dsimp only
      split
      · exact endReject_follows at_d.only at_d.dock
      · exact h
    | releaseWait =>
      dsimp only
      split
      · exact judgeWaiting_follows (swapClosed_of_follows h active (.inl step))
      · exact h
    | releaseOpen =>
      dsimp only
      split
      · next k =>
        have only := releaseOpen_only timer active step
        exact k.1 ▸ endRelease_follows only
      · exact h
    | giveBack =>
      obtain ⟨d, at_d⟩ := swapAtDock_of_follows h active (.inr (.inr (.inr step)))
      dsimp only
      split
      · exact endGiveBack_follows (closeDock_locked at_d.stopTimer.only at_d.dock)
      · exact h

theorem resumeReturn_follows {d : Nat} {w : Swap} {s : State} (h : SwapClosed w s) (dock : w.dock = some d) :
    LatchesFollowSwap (resumeReturn d w s) := by
  have at_d := h.atDock dock
  unfold resumeReturn
  split
  · exact h.follows
  · split
    · exact openReturnAt_follows at_d.only at_d.active
    · exact openCheck_follows ⟨(onlyOpen_unlock at_d.only).congr rfl, at_d.active, dock⟩
    · exact judgeReturn_follows at_d
    · exact openReject_follows at_d
    · exact openReject_follows at_d

theorem resumeSwap_follows {p : ProgressStep} {w : Swap} {s : State} (h : SwapClosed w s) :
    LatchesFollowSwap (resumeSwap p w s) := by
  obtain ⟨d, dock⟩ := Option.isSome_iff_exists.1 h.dock
  have at_d := h.atDock dock
  have docked : w.dock.getD 0 = d := by simp [dock]
  have gives : ∀ r, LatchesFollowSwap (if emptyAt d s then endGiveBack r w (closeDock w s) else openGiveBack d r w s) := by
    intro r
    split
    · exact endGiveBack_follows (closeDock_locked at_d.only dock)
    · exact openGiveBack_follows h dock
  unfold resumeSwap
  simp only [docked]
  cases p with
  | returnOpen => exact resumeReturn_follows h dock
  | returnCheck => exact resumeReturn_follows h dock
  | rejectOut =>
    dsimp only
    split
    · exact endReject_follows at_d.only dock
    · exact openReject_follows at_d
  | releaseWait => exact releaseReady_follows h
  | releaseOpen =>
    dsimp only
    split
    · exact endRelease_follows (h.locked.of_none _)
    · exact openRelease_follows h
  | giveBackNoPack => exact gives .noPack
  | giveBackWaitExceeded => exact gives .releaseWaitExceeded

theorem takeFirstPass_follows {s : State} (h : LatchesFollowSwap s) : LatchesFollowSwap (takeFirstPass s) := by
  have seen : LatchesFollowSwap { s with seq.firstPassSeen := true } := latchesFollowSwap_congr h rfl rfl
  unfold takeFirstPass
  dsimp only
  split
  · exact seen
  · next w active =>
    split
    · next waiting =>
      split
      · exact lookAtQueue_follows (openReturn_follows (w := w)
          (locked_of_idle seen (by simp [active, openSlot, waiting])) active)
      · next p resume =>
        exact resumeSwap_follows (swapClosed_of_follows seen active (.inr ⟨waiting, by simp [resume]⟩))
    · exact seen

theorem takeBegin_follows {rid : ReqId} {s : State} (h : LatchesFollowSwap s) :
    LatchesFollowSwap (takeBegin rid s) := by
  have declines : ∀ r, LatchesFollowSwap (decline rid r s) := fun r =>
    (decline_writes rid r stay_writes).latchesFollowSwap h
  unfold takeBegin
  split
  · exact declines _
  · split
    · exact declines _
    · split
      · exact declines _
      · split
        · exact declines _
        · split
          · next idle =>
            have locked := locked_of_idle h (by simp [Option.isNone_iff_eq_none.1 idle, openSlot])
            exact lookAtQueue_follows (startSwap_follows
              ((modEntry_writes rid (f := Entry.serving .active) (fun _ => rfl) stay_writes).onlyOpen locked))
          · split
            · exact (renumberQueue_writes (modEntry_writes rid (f := Entry.serving .queued1) (fun _ => rfl)
                stay_writes)).latchesFollowSwap (s := { s with seq.queue := s.seq.queue ++ [rid] })
                (latchesFollowSwap_congr h rfl rfl)
            · exact declines _

theorem endCancelled_follows {d : Nat} {w : Swap} {s : State} (only : OnlyOpen (some d) s) (dock : w.dock = some d) :
    LatchesFollowSwap (endCancelled w s) :=
  endSwap_follows ((freeRelease_writes w stay_writes).onlyOpen
    (closeDock_locked (s := { s with seq.timer := none }) only dock))

theorem cancelSwap_follows {rid : ReqId} {s : State} (h : LatchesFollowSwap s) :
    LatchesFollowSwap (cancelSwap rid s) := by
  have queued : LatchesFollowSwap (renumberQueue (cancelServing rid
      { s with seq.queue := s.seq.queue.filter (fun r => decide (r ≠ rid)) })) :=
    (renumberQueue_writes (cancelServing_writes rid stay_writes)).latchesFollowSwap (latchesFollowSwap_congr h rfl rfl)
  unfold cancelSwap
  split
  · next w active =>
    split
    · split
      · next waiting =>
        split
        · next fresh =>
          have locked := locked_of_idle h (by simp [active, openSlot, waiting])
          exact lookAtQueue_follows ((cancelServing_writes rid stay_writes).latchesFollowSwap
            (s := { s with seq.active := none }) (latchesFollowSwap_of_locked (locked.congr rfl) dockKnown_none))
        · next resume =>
          have closed := swapClosed_of_follows h active (.inr ⟨waiting, by simp [resume]⟩)
          obtain ⟨d, dock⟩ := Option.isSome_iff_exists.1 closed.dock
          exact endCancelled_follows (closed.atDock dock).only dock
        · exact h
      · next step =>
        obtain ⟨d, at_d⟩ := swapAtDock_of_follows h active (.inl step)
        exact endCancelled_follows at_d.only at_d.dock
      · exact h
    · split
      · exact queued
      · exact h
  · split
    · exact queued
    · exact h

/-! ### Frames, survey and station -/

theorem takeFrame_follows {f : RxFrame} {s : State} (h : LatchesFollowSwap s) : LatchesFollowSwap (takeFrame f s) := by
  by_cases calm : f.msg.calm = true
  · exact (takeFrame_calm_writes f calm stay_writes).latchesFollowSwap h
  · unfold takeFrame
    split
    · next e => simp [Message.calm, e] at calm
    · split
      · exact h
      · split
        case h_5 rid e =>
          unfold takeBeginFrame
          split
          · exact takeBegin_follows h
          · exact latchesFollowSwap_congr h rfl rfl
        case h_6 rid e =>
          unfold takeCancel
          split
          · exact h
          · have ended : ∀ v : State, LatchesFollowSwap v → LatchesFollowSwap (modEntry rid (Entry.ended .cancelled s.rhs.seconds) v) :=
              fun v k => latchesFollowSwap_congr k rfl rfl
            split
            · exact (closeStretch_writes rid stay_writes).latchesFollowSwap (ended _ h)
            · exact (closeStretch_writes rid stay_writes).latchesFollowSwap (ended _ h)
            · exact (clearRegister_writes stay_writes).latchesFollowSwap (ended _ h)
            · exact (setReplan_writes (freePledge_writes _ stay_writes)).latchesFollowSwap (ended _ h)
            · refine (setReplan_writes (removeRecord_writes rid stay_writes)).latchesFollowSwap (ended _ ?_)
              split
              · exact (freeRole_writes _ _ _ stay_writes).latchesFollowSwap h
              · exact h
            · exact cancelSwap_follows h
            · exact h
        all_goals simp_all [Message.calm]

theorem dispatch_follows {n : Nat} {s : State} (h : LatchesFollowSwap s) : LatchesFollowSwap (dispatch n s) := by
  induction n generalizing s with
  | zero => exact h
  | succ n ih =>
    unfold dispatch
    split
    · exact h
    · exact ih (latchesFollowSwap_congr (takeFrame_follows h) rfl rfl)

theorem deliver_follows {f : RxFrame} {s : State} (h : LatchesFollowSwap s) : LatchesFollowSwap (deliver f s) :=
  dispatch_follows ((stay_writes.next (.store f)).latchesFollowSwap h)

theorem settle_follows {s : State} (h : LatchesFollowSwap s) : LatchesFollowSwap (settle s) :=
  (settle_writes stay_writes).latchesFollowSwap h

/-- A state made by cases is sound when each case is. -/
theorem ite_follows {p : Prop} [Decidable p] {s t : State} (h : p → LatchesFollowSwap s)
    (k : ¬ p → LatchesFollowSwap t) : LatchesFollowSwap (if p then s else t) := by
  split
  · exact h ‹_›
  · exact k ‹_›

theorem receiveGood_follows {f : RxFrame} {s : State} (h : LatchesFollowSwap s) :
    LatchesFollowSwap (receiveGood f s) := by
  have reported := (reportLoss_writes f.winner (toSpace_writes stay_writes)).latchesFollowSwap h
  exact ite_follows (fun _ => settle_follows (ite_follows (fun _ => deliver_follows reported) (fun _ => reported)))
    (fun _ => h)

theorem handleFrame_follows {f : LineFrame} {s : State} (h : LatchesFollowSwap s) :
    LatchesFollowSwap (handleFrame f s) := by
  refine ite_follows (fun _ => latchesFollowSwap_congr h rfl rfl) (fun _ => ite_follows (fun _ => h) (fun _ => ?_))
  split
  · exact latchesFollowSwap_congr h rfl rfl
  · exact ite_follows (fun _ => deliver_follows h) (fun _ => latchesFollowSwap_congr h rfl rfl)

theorem changeState_follows {new : StationState} {s : State} (h : LatchesFollowSwap s) :
    LatchesFollowSwap (changeState new s) := by
  have planned : LatchesFollowSwap (plannerHandOff { s with sul.state := new }) :=
    (plannerHandOff_writes stay_writes).latchesFollowSwap (latchesFollowSwap_congr h rfl rfl)
  have k := (allowanceHandOff_writes s.sul.state stay_writes).latchesFollowSwap planned
  exact ite_follows (fun _ => lookAtQueue_follows k) (fun _ => k)

theorem handReport_follows {n : Nat} {r : Option Report} {s : State} (h : LatchesFollowSwap s) :
    LatchesFollowSwap (handReport n r s) := by
  unfold handReport
  split
  · exact takeReport_follows h
  · exact h

/-- A slot record rewritten with its latch kept. -/
theorem modSlot_follows {n : Nat} {f : Slot → Slot} {s : State} (h : LatchesFollowSwap s)
    (latch : ∀ a, s.slots[n]? = some a → (f a).unlocked = a.unlocked) : LatchesFollowSwap (modSlot n f s) := by
  refine latchesFollowSwap_congr h (List.ext_getElem? (fun m => ?_)) rfl
  simp only [latches, modSlot, List.getElem?_map, List.getElem?_modify]
  cases at_m : s.slots[m]? with
  | none => simp
  | some a =>
    by_cases e : n = m
    · subst e
      simpa using latch a at_m
    · simp [e]

theorem settleExchange_follows {n : Nat} {v : Visit} {s : State} (h : LatchesFollowSwap s) :
    LatchesFollowSwap (settleExchange n v s) :=
  ite_follows (fun _ => takeReport_follows (modSlot_follows h (fun _ _ => rfl))) (fun _ => h)

theorem visit_unlocked (cfg : Cfg) (d : Bool) (now : Word) (seen hot : Bool) (o : ReadOutcome) (sl : Slot) :
    (visit cfg d now seen hot o sl).slot.unlocked = sl.unlocked :=
  (visit_slotWrite (seq := False) (s := State.reset) cfg d now seen hot o sl).latch.resolve_left id

theorem applyStep_follows {st : SurveyStep} {seen : Bool} {l : List Bool} {hot : Bool} {s : State}
    (h : LatchesFollowSwap s) : LatchesFollowSwap (applyStep st seen l hot s) := by
  unfold applyStep
  split
  · exact latchesFollowSwap_congr h rfl rfl
  · next sl at_n =>
    have visits : LatchesFollowSwap (modSlot st.slot (fun _ =>
        (visit s.sul.cfg s.sul.doorOpen s.rhs.seconds seen hot (stepOutcome st seen l) sl).slot) s) := by
      refine modSlot_follows h (fun a at_n' => ?_)
      cases at_n.symm.trans at_n'
      exact visit_unlocked _ _ _ _ _ _ _
    have counted := (bumpIf_writes (decide ((visit s.sul.cfg s.sul.doorOpen s.rhs.seconds seen hot
      (stepOutcome st seen l) sl).report = some ⟨.insertion, .unreadable, none, none⟩)) .unreadable
      (countOutcome_writes (stepOutcome st seen l) stay_writes)).latchesFollowSwap visits
    exact latchesFollowSwap_congr (rejudge_follows (settleExchange_follows (handReport_follows counted))) rfl rfl

theorem nextStep_follows {st : SurveyStep} {s : State} (h : LatchesFollowSwap s) :
    LatchesFollowSwap (nextStep st s) := by
  have regular : LatchesFollowSwap (afterRegular st.slot s) := by
    refine ite_follows (fun _ => ?_) (fun _ => (afterPass_writes _ stay_writes).latchesFollowSwap ?_)
    · split
      · exact latchesFollowSwap_congr h rfl rfl
      · exact (beginRegular_writes stay_writes).latchesFollowSwap h
    · refine latchesFollowSwap_congr (ite_follows (fun _ => h) (fun _ => ?_)) rfl rfl
      exact takeFirstPass_follows (latchesFollowSwap_congr h rfl rfl)
  unfold nextStep
  split
  · exact ite_follows (fun _ => regular) (fun _ => (beginStep_writes _ _ stay_writes).latchesFollowSwap
      (modSlot_follows h (fun _ _ => rfl)))
  · exact regular
  · exact (afterFocus_writes stay_writes).latchesFollowSwap h

theorem doorCloses_unlocked (cfg : Cfg) (sl : Slot) : (sl.doorCloses cfg).unlocked = sl.unlocked :=
  (doorCloses_slotWrite (seq := False) (u := State.reset) cfg sl).latch.resolve_left id

theorem surveyDoorCloses_follows {s : State} (h : LatchesFollowSwap s) : LatchesFollowSwap (surveyDoorCloses s) := by
  have fold : ∀ (l : List Nat) (u : State), LatchesFollowSwap u → LatchesFollowSwap (reportCleared l u) := by
    intro l
    induction l with
    | nil => exact fun _ k => k
    | cons n l ih => exact fun u k => ih _ (latchesFollowSwap_congr (takeReport_follows k) rfl rfl)
  exact fold _ _ (latchesFollowSwap_congr h (by simp [latches, Function.comp_def, doorCloses_unlocked]) rfl)

theorem lapseDue_follows {s : State} (h : LatchesFollowSwap s) : LatchesFollowSwap (lapseDue s) :=
  (lapseDue_writes stay_writes).latchesFollowSwap h

/-- The rebuilt swap stands in STARTING_WAIT and knows its dock (R174). -/
theorem rebuild_follows {s : State} (locked : OnlyOpen none s) (idle : s.seq.active = none) :
    LatchesFollowSwap (rebuild s) := by
  have roles : ∀ (l : List HoldRecord) (u : State), Writes False False u
      (l.foldl (fun st r => setRole r.slot .held (some r.rid) st) u) := fun l u =>
    foldl_writes (fun _ _ k => setRole_writes _ _ _ k) l .refl
  unfold rebuild
  extract_lets holds kept progress book oldOffers oldStore s1 s2
  have l1 : OnlyOpen none s1 := locked
  have l2 : OnlyOpen none s2 := (roles kept s1).onlyOpen l1
  have idle2 : s2.seq.active = none := (congrArg Seq.active (roles kept s1).latches_eq.2).trans idle
  refine lapseDue_follows ?_
  clear_value s2 s1 progress
  cases progress with
  | some p =>
    have l3 : OnlyOpen none (resumedRoles p s2) := (resumedRoles_writes p stay_writes).onlyOpen l2
    exact latchesFollowSwap_of_locked (s := resumeActive p (resumedRoles p s2)) l3 (dockKnown_some rfl)
  | none => exact latchesFollowSwap_of_locked l2 (idle2 ▸ dockKnown_none)

end Sys2Proof.Machine
end

section
/-! Proofs of the step lemma of the latches, of what opens none (O7, O8, O16), and of the first statements about the machine
(O1, O2). -/

namespace Sys2Proof.Machine

open Sys2Proof

/-! ### The latches of a step (O7, O8) -/

theorem latchesFollowSwap_of_no_slots {t : State} (slots : t.slots = []) (active : t.seq.active = none) :
    LatchesFollowSwap t := by
  refine latchesFollowSwap_of_locked (fun n h => ?_) (active ▸ dockKnown_none)
  simp [latches, slots] at h

/-- A table of fresh records has every latch LOCKED (R2). -/
theorem locked_of_fresh {n : Nat} {d : Bool} {hot : BitVec 8} {now : Word} {t : State}
    (slots : t.slots = freshSlots n d hot now) : OnlyOpen none t := by
  intro m h
  obtain ⟨sl, at_m, unlocked⟩ : ∃ sl, t.slots[m]? = some sl ∧ sl.unlocked = true := by simpa [latches] using h
  rw [slots] at at_m
  obtain ⟨b, rfl⟩ := freshSlots_mem (List.mem_of_getElem? at_m)
  cases unlocked

/-- A calm command keeps the latches and the swap. -/
theorem exec_calm_follows {c : Instr} {s t : State} (h : exec c s = .next t) (calm : Instr.calm c = true)
    (k : LatchesFollowSwap s) : LatchesFollowSwap t :=
  (exec_calm_writes (seq := False) (svy := False) h calm).latchesFollowSwap k

theorem follows_of_eq {s t : State} (e : (Host.Outcome.next s : Host.Outcome State Fault Refusal) = .next t)
    (w : LatchesFollowSwap s) : LatchesFollowSwap t := by
  cases e
  exact w

theorem haltConfig_follows {c : HaltCause} {s : State} (h : LatchesFollowSwap s) :
    LatchesFollowSwap (haltConfig c s) := by
  rw [haltConfig_eq]
  exact changeState_follows (latchesFollowSwap_congr h rfl rfl)

theorem enterJoining_follows {d m : Bool} {s : State} (h : LatchesFollowSwap s) :
    LatchesFollowSwap (enterJoining d m s) := by
  have joined : LatchesFollowSwap (changeState .joining { s with sul.doorOpen := d }) :=
    changeState_follows (latchesFollowSwap_congr h rfl rfl)
  have timed := (beginRegular_writes stay_writes).latchesFollowSwap
    (s := { changeState .joining { s with sul.doorOpen := d } with sul.joiningTimer := some 3000 })
    (latchesFollowSwap_congr joined rfl rfl)
  exact ite_follows (fun _ => timed) (fun _ => changeState_follows timed)

theorem execLoadingEnd_follows {d m : Bool} {hot : BitVec 8} {s t : State} (h : execLoadingEnd d hot m s = .next t)
    (k : LatchesFollowSwap s) : LatchesFollowSwap t := by
  have read : LatchesFollowSwap (readOut m s) := latchesFollowSwap_congr k rfl rfl
  by_cases ready : loading s = true ∧ s.sul.image.length = 66
  · cases fault : imageFault s.sul.image with
    | some c =>
      rw [execLoadingEnd_of_fault ready.1 ready.2 fault] at h
      exact follows_of_eq h (haltConfig_follows read)
    | none =>
      rw [execLoadingEnd_of_good ready.1 ready.2 fault] at h
      obtain ⟨-, slots, -⟩ := putInForce_tables d hot (readOut m s)
      have locked := locked_of_fresh slots
      have idle : (putInForce d hot (readOut m s)).seq.active = none :=
        congrArg Seq.active (putInForce_fresh d hot (readOut m s)).2.2
      exact follows_of_eq h (settle_follows (enterJoining_follows (ite_follows
        (fun _ => latchesFollowSwap_of_locked locked (idle ▸ dockKnown_none)) (fun _ => rebuild_follows locked idle))))
  · rw [execLoadingEnd_of_not_ready ready] at h
    exact follows_of_eq h k

theorem swapIn_eq_some_iff {s : State} {st : SwapStep} {w : Swap} :
    s.swapIn st = some w ↔ s.seq.active = some w ∧ w.step = st := by
  simp [State.swapIn]

theorem exec_follows {c : Instr} {s t : State} (h : exec c s = .next t) (k : LatchesFollowSwap s) :
    LatchesFollowSwap t := by
  have timer : LatchesFollowSwap { s with seq.timer := none } := latchesFollowSwap_congr k rfl rfl
  by_cases calm : Instr.calm c = true
  · exact exec_calm_follows h calm k
  cases c
  case start straps clr => exact follows_of_eq h (latchesFollowSwap_of_no_slots rfl rfl)
  case coreStop => exact follows_of_eq h (ite_follows (fun _ => latchesFollowSwap_of_no_slots rfl rfl) (fun _ => k))
  case retainedCellFail =>
    exact follows_of_eq h (ite_follows (fun _ => latchesFollowSwap_congr k rfl rfl)
      (fun _ => latchesFollowSwap_congr k rfl rfl))
  case secondsTick =>
    have counted : LatchesFollowSwap { s with rhs.seconds := s.rhs.seconds + 1 } := latchesFollowSwap_congr k rfl rfl
    exact follows_of_eq h (ite_follows (fun _ => settle_follows ((removeLingered_writes stay_writes).latchesFollowSwap
      (ite_follows (fun _ => (agePeers_writes stay_writes).latchesFollowSwap counted) (fun _ => counted))))
      (fun _ => counted))
  case loadingTimerExpiry =>
    exact follows_of_eq h (ite_follows (fun _ => haltConfig_follows (latchesFollowSwap_congr k rfl rfl)) (fun _ => k))
  case loadingEnd d hot m => exact execLoadingEnd_follows h k
  case joiningTimerExpiry =>
    have timer : LatchesFollowSwap { s with sul.joiningTimer := none } := latchesFollowSwap_congr k rfl rfl
    exact follows_of_eq h (ite_follows (fun _ => ite_follows (fun _ => settle_follows (changeState_follows timer))
      (fun _ => timer)) (fun _ => k))
  case mainsReturnTimerExpiry =>
    exact follows_of_eq h (ite_follows
      (fun _ => settle_follows (changeState_follows (latchesFollowSwap_congr k rfl rfl))) (fun _ => k))
  case surveyStepEnd seen levels hot =>
    simp only [exec, execSurveyStepEnd] at h
    split at h
    · exact follows_of_eq h (ite_follows (fun _ => settle_follows (nextStep_follows (applyStep_follows
        (latchesFollowSwap_congr k rfl rfl)))) (fun _ => k))
    · exact follows_of_eq h k
  case doorClose =>
    have closed : LatchesFollowSwap (surveyDoorCloses { s with sul.doorOpen := false }) :=
      surveyDoorCloses_follows (latchesFollowSwap_congr k rfl rfl)
    exact follows_of_eq h (ite_follows (fun _ => settle_follows (ite_follows (fun _ => changeState_follows closed)
      (fun _ => closed))) (fun _ => k))
  case thermalTrip n =>
    refine follows_of_eq h ?_
    split
    · exact ite_follows (fun _ => settle_follows (rejudge_follows
        (latchesFollowSwap_congr (modSlot_follows (f := Slot.tripped s.sul.cfg) k (fun _ _ => rfl)) rfl rfl)))
        (fun _ => k)
    · exact k
  case frameReceived cells =>
    refine follows_of_eq h ?_
    split
    · exact ite_follows (fun _ => settle_follows (handleFrame_follows ((reportLoss_writes _ (toSpace_writes
        (bumpIf_writes _ _ stay_writes))).latchesFollowSwap k))) (fun _ => k)
    · exact k
  case returnTimerExpiry =>
    refine follows_of_eq h (ite_follows (fun _ => ?_) (fun _ => k))
    split
    · next w swap =>
      obtain ⟨active, step⟩ := swapIn_eq_some_iff.1 swap
      obtain ⟨d, at_d⟩ := swapAtDock_of_follows k active (.inl step)
      exact settle_follows (endSwap_follows ((freeRelease_writes w stay_writes).onlyOpen
        (closeDock_locked at_d.stopTimer.only at_d.dock)))
    · exact k
  case checkTimerExpiry =>
    refine follows_of_eq h (ite_follows (fun _ => ?_) (fun _ => k))
    split
    · next w swap =>
      obtain ⟨active, step⟩ := swapIn_eq_some_iff.1 swap
      obtain ⟨d, at_d⟩ := swapAtDock_of_follows k active (.inr (.inl step))
      have docked : w.dock.getD 0 = d := by simp [at_d.dock]
      simp only [docked]
      exact settle_follows (ite_follows (fun _ => endReject_follows
        ((writeProgress_writes stay_writes).onlyOpen (OnlyOpen.congr (onlyOpen_unlock at_d.only) rfl)) at_d.dock)
        (fun _ => openReject_follows at_d.stopTimer))
    · exact k
  case removalTimerExpiry =>
    refine follows_of_eq h (ite_follows (fun _ => ?_) (fun _ => k))
    split
    · next w swap =>
      obtain ⟨active, step⟩ := swapIn_eq_some_iff.1 swap
      obtain ⟨d, at_d⟩ := swapAtDock_of_follows k active (.inr (.inr (.inl step)))
      have docked : w.dock.getD 0 = d := by simp [at_d.dock]
      simp only [docked]
      exact settle_follows (endSwap_follows ((freeRelease_writes w (setRole_writes d .free none (abandonSlot_writes d
        (.refl : Writes False True _ _)))).onlyOpen (onlyOpen_lock at_d.stopTimer.only)))
    · split
      · next w swap =>
        obtain ⟨active, step⟩ := swapIn_eq_some_iff.1 swap
        obtain ⟨d, at_d⟩ := swapAtDock_of_follows k active (.inr (.inr (.inr step)))
        exact settle_follows (endGiveBack_follows (closeDock_locked at_d.stopTimer.only at_d.dock))
      · exact k
  case waitTimerExpiry =>
    refine follows_of_eq h (ite_follows (fun _ => ?_) (fun _ => k))
    split
    · next w swap =>
      obtain ⟨active, step⟩ := swapIn_eq_some_iff.1 swap
      have closed := swapClosed_of_follows k active (.inl step)
      exact settle_follows (giveBack_follows ⟨closed.locked, closed.active, closed.dock⟩)
    · exact k
  case collectTimerExpiry =>
    refine follows_of_eq h (ite_follows (fun _ => ?_) (fun _ => k))
    split
    · next w swap =>
      obtain ⟨active, step⟩ := swapIn_eq_some_iff.1 swap
      exact settle_follows (endRelease_follows (releaseOpen_only timer active step))
    · exact k
  case request | offer | assign | assignOther | update | beginSwap | cancel | demand | meter |
      querySummary | querySlot | queryBook | queryCounters | queryPeer | queryInvalid =>
    exact follows_of_eq h (receiveGood_follows k)
  all_goals exact absurd rfl calm

/-- Settles O7, command by command: a calm command moves no latch, and each operation of SEQ opens the latch of its step
with the others LOCKED. -/
theorem latchesStayWithTheSwap : Obligations.LatchesStayWithTheSwap := by
  intro s t k h
  unfold step at h
  split at h
  · exact follows_of_eq h k
  · exact exec_follows h (latchesFollowSwap_congr k rfl rfl)

/-- At most one member of a list satisfies a test when all its places that do are one place. -/
theorem length_filter_le_one {α : Type} (p : α → Bool) (l : List α)
    (one : ∀ (m n : Nat) (a b : α), l[m]? = some a → l[n]? = some b → p a = true → p b = true → m = n) :
    (l.filter p).length ≤ 1 := by
  induction l with
  | nil => simp
  | cons x l ih =>
    have rest := ih (fun m n a b ha hb pa pb => Nat.succ.inj (one (m + 1) (n + 1) a b ha hb pa pb))
    by_cases px : p x = true
    · have none : l.filter p = [] := List.filter_eq_nil_iff.2 (fun b hb pb => by
        obtain ⟨n, at_n⟩ := List.getElem?_of_mem hb
        exact absurd (one 0 (n + 1) x b rfl at_n px pb) (by omega))
      simp [px, none]
    · simpa [px] using rest

/-- Settles O8: two UNLOCKED latches would both be the one slot that the swap's step holds open. -/
theorem atMostOneLatchOpen : Obligations.AtMostOneLatchOpen := fun _ h =>
  length_filter_le_one _ _ (fun m n a b ha hb ua ub => Option.some.inj
    ((h.1 (a, m) (List.mem_zipIdx_iff_getElem?.2 ha) ua).symm.trans (h.1 (b, n) (List.mem_zipIdx_iff_getElem?.2 hb) ub)))

/-! ### Commands that open no latch (O16) -/

/-- No latch is UNLOCKED that was not. -/
def OpensNone (s t : State) : Prop := ∀ n : Nat, (latches t)[n]? = some true → (latches s)[n]? = some true

theorem opensNone_of_writes {svy : Prop} {s t : State} (h : Writes False svy s t) : OpensNone s t := by
  intro n k
  rwa [← h.latches_eq.1]

theorem opensNone_of_no_slots {s t : State} (h : t.slots = []) : OpensNone s t := by
  intro n k
  simp [latches, h] at k

theorem opensNone_of_eq {s t u : State} (e : (Host.Outcome.next u : Host.Outcome State Fault Refusal) = .next t)
    (h : OpensNone s u) : OpensNone s t := by
  cases e
  exact h

theorem storeFrame_of_empty (f : RxFrame) {s : State} (h : s.lif.rxBuf = []) :
    storeFrame f s = { s with lif.rxBuf := [f], lif.mark := markOf f s.lif.mark } := by
  simp [storeFrame, h]

/-- A frame that comes to an empty buffer is taken at once, and leaves it again (R36, R37). -/
theorem deliver_of_empty (f : RxFrame) {s : State} (h : s.lif.rxBuf = []) :
    deliver f s = dropHead (takeFrame f (storeFrame f s)) := by
  rw [deliver, storeFrame_of_empty f h]
  rfl

theorem clearRegister_rxBuf (s : State) : (clearRegister s).lif.rxBuf = s.lif.rxBuf := by
  unfold clearRegister
  split <;> rfl

theorem reportLoss_rxBuf (w : ReqId → Option Winner) (s : State) : (reportLoss w s).lif.rxBuf = s.lif.rxBuf := by
  unfold reportLoss
  split
  · dsimp only
    split
    · rfl
    · split
      · unfold offerBeaten
        split
        · rfl
        · exact clearRegister_rxBuf _
      · unfold offerTried
        split
        · rfl
        · split
          · exact clearRegister_rxBuf _
          · rfl
  · rfl

theorem receiveGood_calm_writes {seq svy : Prop} {f : RxFrame} {s : State} (calm : f.msg.calm = true)
    (empty : s.lif.rxBuf = []) : Writes seq svy s (receiveGood f s) := by
  have reported := reportLoss_writes f.winner (toSpace_writes (.refl : Writes seq svy s s))
  refine .ite (fun _ => settle_writes (.ite (fun _ => ?_) (fun _ => reported))) (fun _ => .refl)
  have buffer : (reportLoss f.winner (toSpace s)).lif.rxBuf = [] := (reportLoss_rxBuf _ _).trans empty
  rw [deliver_of_empty f buffer]
  exact Writes.next (takeFrame_calm_writes f calm (reported.next (.store f))) .drop

/-- Settles O16: the calm commands and frames move no latch, and the openings among the others leave none open. -/
theorem onlySwapCommandsOpenLatches : Obligations.OnlySwapCommandsOpenLatches := by
  intro c s t h empty listed
  suffices opens : OpensNone s t by
    intro n sl at_n unlocked
    have := opens n (by simp [latches, at_n, unlocked])
    simpa [latches] using this
  by_cases calm : Instr.calm c = true
  · exact opensNone_of_writes (exec_calm_writes (svy := False) h calm)
  cases c
  case secondsTick =>
    have counted : ∀ u, Writes False False { s with rhs.seconds := s.rhs.seconds + 1 } u → OpensNone s u :=
      fun u w => show OpensNone { s with rhs.seconds := s.rhs.seconds + 1 } u from opensNone_of_writes w
    refine opensNone_of_eq h (counted _ (.ite (fun _ => settle_writes (removeLingered_writes
      (.ite (fun _ => agePeers_writes .refl) (fun _ => .refl)))) (fun _ => .refl)))
  case retainedCellFail =>
    refine opensNone_of_eq h ?_
    dsimp only
    split
    · exact fun n => id
    · exact fun n => id
  case coreStop =>
    refine opensNone_of_eq h ?_
    split
    · exact opensNone_of_no_slots rfl
    · exact fun n => id
  case start => exact opensNone_of_eq h (opensNone_of_no_slots rfl)
  case loadingTimerExpiry =>
    refine opensNone_of_eq h ?_
    split
    · next load =>
      show OpensNone (haltBase .noResponse (deselect s)) _
      exact opensNone_of_writes (svy := False)
        (haltConfig_writes (s := deselect s) .noResponse (starting_of_loading (s := s) load))
    · exact fun n => id
  case request | offer | assign | assignOther | update | demand | meter |
      querySummary | querySlot | queryBook | queryCounters | queryPeer | queryInvalid =>
    exact opensNone_of_eq h (opensNone_of_writes (svy := False) (receiveGood_calm_writes rfl empty))
  -- the calm commands are done, and the others are not listed
  all_goals simp [Instr.calm] at calm listed

end Sys2Proof.Machine
end

section
/-! Proofs of the statements about the machine (O1, O2, O4, O5) and that nothing due waits (O12). -/

namespace Sys2Proof.Machine

open Sys2Proof

/-! ### What settle begins (O4) -/

theorem beginPass_pln (s : State) : (beginPass s).pln =
    (if operates s = true ∧ s.pln.replan = true ∧ s.pln.pass = none then
      { s.pln with replan := false, pass := some ⟨takeSnapshot s, 200 + 150 * s.slots.length⟩ } else s.pln) := by
  unfold beginPass
  cases s.pln.pass <;> cases s.pln.replan <;> cases operates s <;> simp

theorem operates_congr {s t : State} (core : t.core = s.core) (state : t.sul.state = s.sul.state) :
    operates t = operates s := by
  simp [operates, core, state]

@[simp] theorem operates_beginPass (s : State) :
    operates (beginPass s) = operates s := operates_congr (by simp) (by simp)

@[simp] theorem operates_beginEvaluation (s : State) : operates (beginEvaluation s) = operates s :=
  operates_congr (by simp) (by simp)

@[simp] theorem operates_settle (s : State) : operates (settle s) = operates s := operates_congr (by simp) (by simp)

/-- The evaluator takes the HEARD entry nearest the head (R115). -/
theorem beginEvaluation_ofe_of_heard {s : State} {e : Entry} (runs : operates s = true) (idle : s.ofe.evaluation = none)
    (heard : s.ofe.book.find? (fun e => decide (e.state = .heard)) = some e) :
    (beginEvaluation s).ofe = ⟨s.ofe.book.map (fun x => if x.rid = e.rid then { x with state := .evaluating } else x),
      some ⟨takeView e s, 250 * s.slots.length⟩⟩ := by
  simp [beginEvaluation, runs, idle, heard]

theorem beginEvaluation_of_nothing {s : State}
    (h : operates s = false ∨ s.ofe.evaluation.isSome = true ∨ ∀ e ∈ s.ofe.book, e.state ≠ .heard) :
    beginEvaluation s = s := by
  unfold beginEvaluation
  rcases h with h | h | h
  · simp [h]
  · obtain ⟨ev, busy⟩ := Option.isSome_iff_exists.1 h
    simp [busy]
  · have none : s.ofe.book.find? (fun e => decide (e.state = .heard)) = none := by simpa using h
    simp [none]

theorem beginGapFocus_svy_of_due {s : State} {f ms : Nat} (runs : operates s = true) (rest : s.svy.step = none)
    (gap : s.svy.gap = .running ms) (focus : s.svy.focus = some f) : beginGapFocus s = beginStep .focus f s := by
  simp [beginGapFocus, runs, rest, gap, focus]

theorem beginGapFocus_of_nothing {s : State} (h : operates s = false ∨ s.svy.step.isSome = true ∨ s.svy.focus = none ∨
    s.svy.gap = .inPass ∨ s.svy.gap = .due) : beginGapFocus s = s := by
  unfold beginGapFocus
  split
  · rcases h with h | h | h | h | h <;> simp_all
  · rfl

/-- Two states of equal fields are one. -/
theorem state_ext {s t : State} (core : s.core = t.core) (lif : s.lif = t.lif) (slots : s.slots = t.slots)
    (svy : s.svy = t.svy) (alw : s.alw = t.alw) (pln : s.pln = t.pln) (ofe : s.ofe = t.ofe) (seq : s.seq = t.seq)
    (rhs : s.rhs = t.rhs) (sul : s.sul = t.sul) (counters : s.counters = t.counters) (draw : s.draw = t.draw)
    (pending : s.pending = t.pending) : s = t := by
  cases s
  cases t
  simp_all

/-- `settle` writes a pass, an evaluation and a survey step, and nothing else (R7, R77, R115). -/
theorem settle_eq (s : State) :
    settle s = { s with pln := (settle s).pln, ofe := (settle s).ofe, svy := (settle s).svy } := by
  apply state_ext <;> simp

/-- A pass that begins asks the planner only. -/
theorem beginPass_eq (s : State) : beginPass s = { s with pln := (beginPass s).pln } := by
  apply state_ext <;> simp

theorem settle_pln (s : State) : (settle s).pln = (beginPass s).pln := by simp [settle]

/-- A pass that begins changes nothing that the evaluator looks at. -/
theorem takeView_beginPass (e : Entry) (s : State) : takeView e (beginPass s) = takeView e s := by
  rw [beginPass_eq]
  rfl

theorem settle_ofe (s : State) : (settle s).ofe = (beginEvaluation s).ofe := by
  have gap : (settle s).ofe = (beginEvaluation (beginPass s)).ofe := by simp [settle]
  rw [gap]
  by_cases h : operates s = false ∨ s.ofe.evaluation.isSome = true ∨ ∀ e ∈ s.ofe.book, e.state ≠ .heard
  · rw [beginEvaluation_of_nothing h, beginEvaluation_of_nothing (by simpa using h)]
    simp
  · simp only [not_or, Bool.not_eq_false, Bool.not_eq_true, Option.isSome_eq_false_iff, Option.isNone_iff_eq_none] at h
    obtain ⟨runs, idle, heard⟩ := h
    obtain ⟨e, found⟩ : ∃ e, s.ofe.book.find? (fun e => decide (e.state = .heard)) = some e := by
      simpa [← Option.isSome_iff_exists, List.find?_isSome] using heard
    rw [beginEvaluation_ofe_of_heard runs idle found,
      beginEvaluation_ofe_of_heard (e := e) (by simpa) (by simpa) (by simpa), takeView_beginPass]
    simp

/-- The focus step of the gap is found from the survey, the slots and the station alone. -/
theorem beginGapFocus_svy_congr {s t : State} (svy : t.svy = s.svy) (slots : t.slots = s.slots) (sul : t.sul = s.sul)
    (runs : operates t = operates s) : (beginGapFocus t).svy = (beginGapFocus s).svy := by
  unfold beginGapFocus
  rw [svy]
  split
  · rw [runs]
    split
    · simp [beginStep, State.slot?, svy, slots, sul]
    · exact svy
  · exact svy

theorem settle_svy (s : State) : (settle s).svy = (beginGapFocus s).svy :=
  beginGapFocus_svy_congr (by simp) (by simp) (by simp) (by simp)

/-- Settles O4, from what each of the three beginnings does. -/
theorem settleBeginsWhatIsDue : Obligations.SettleBeginsWhatIsDue := by
  intro s
  refine ⟨?frame, ?pass, ?evaluation, ?busy, ?focus, ?rest⟩
  case frame => exact settle_eq s
  case pass => rw [settle_pln, beginPass_pln]
  case evaluation =>
    intro e runs idle heard
    rw [settle_ofe, beginEvaluation_ofe_of_heard runs idle heard]
    exact ⟨rfl, rfl⟩
  case busy =>
    intro h
    rw [settle_ofe, beginEvaluation_of_nothing h]
  case focus =>
    intro f ms runs rest gap focus
    rw [settle_svy, beginGapFocus_svy_of_due runs rest gap focus]
    rfl
  case rest =>
    intro h
    rw [settle_svy, beginGapFocus_of_nothing h]

/-! ### The first statements (O1, O2, O5) -/

/-- Settles O1. -/
theorem stepRunsFrontCommand : Obligations.StepRunsFrontCommand := by
  refine ⟨fun c rest s waits => ?_, fun s waits => ?_⟩
  · simp [step, waits]
  · simp [step, waits]

/-- Settles O2: every arm of `exec` is a next state. -/
theorem noCommandStops : Obligations.NoCommandStops := by
  intro c s
  cases c
  case loadingEnd d hot m => exact ⟨_, rfl⟩
  case surveyStepEnd seen levels hot =>
    simp only [exec, execSurveyStepEnd]
    split <;> exact ⟨_, rfl⟩
  case planningPassEnd =>
    simp only [exec, execPlanningPassEnd]
    split <;> exact ⟨_, rfl⟩
  case evaluationEnd =>
    simp only [exec, execEvaluationEnd]
    split <;> exact ⟨_, rfl⟩
  all_goals exact ⟨_, rfl⟩

/-- Settles O5: the reset state holds no slot, no entry and no frame, and its core is stopped. -/
theorem resetMeetsTheInvariants : Obligations.ResetMeetsTheInvariants := by
  refine ⟨?setpoints, ?latches, ?places, ?peers, ?queue, ?ids, ?due⟩
  case setpoints => simp [SetpointsSafe, State.reset]
  case latches => exact latchesFollowSwap_of_no_slots rfl rfl
  case places =>
    exact withinCapacity_of_fresh rfl rfl rfl (by simp [State.reset, Rhs.empty]) (by simp [State.reset, Sul.initial])
      (by simp [State.reset]) (by simp [State.reset])
  case peers => exact ⟨by simp [State.reset, Alw.initial], by simp [lifRuns, State.reset]⟩
  case queue => exact queueInOrder_initial rfl
  case ids => simp [RequestIdsUnique, State.reset, Ofe.initial, Rhs.empty]
  case due => simp [NothingDue, operates, State.reset]

/-! ### Nothing due waits (O12) -/

/-- What begins at the end of an event leaves nothing due. -/
theorem settle_nothingDue (s : State) : NothingDue (settle s) := by
  intro runs
  rw [operates_settle] at runs
  refine ⟨?pass, ?evaluation, ?focus⟩
  case pass =>
    rw [settle_pln, beginPass_pln]
    split
    · simp
    · next h =>
      intro replan
      simpa [runs, replan, Option.isSome_iff_ne_none] using h
  case evaluation =>
    rw [settle_ofe]
    intro idle
    by_cases h : operates s = false ∨ s.ofe.evaluation.isSome = true ∨ ∀ e ∈ s.ofe.book, e.state ≠ .heard
    · rw [beginEvaluation_of_nothing h] at idle ⊢
      simpa [runs, idle] using h
    · simp only [not_or, Bool.not_eq_false, Bool.not_eq_true, Option.isSome_eq_false_iff, Option.isNone_iff_eq_none] at h
      obtain ⟨-, quiet, heard⟩ := h
      obtain ⟨e, found⟩ : ∃ e, s.ofe.book.find? (fun e => decide (e.state = .heard)) = some e := by
        simpa [← Option.isSome_iff_exists, List.find?_isSome] using heard
      rw [beginEvaluation_ofe_of_heard runs quiet found] at idle
      cases idle
  case focus =>
    rw [settle_svy]
    intro rest focus ms gap
    by_cases h : operates s = false ∨ s.svy.step.isSome = true ∨ s.svy.focus = none ∨ s.svy.gap = .inPass ∨ s.svy.gap = .due
    · rw [beginGapFocus_of_nothing h] at rest focus gap
      rcases h with h | h | h | h | h <;> simp_all
    · simp only [not_or, Bool.not_eq_false, Bool.not_eq_true, Option.isSome_eq_false_iff, Option.isNone_iff_eq_none] at h
      obtain ⟨-, still, set, inPass, due⟩ := h
      obtain ⟨f, focused⟩ := Option.ne_none_iff_exists'.1 set
      cases run : s.svy.gap with
      | inPass => exact inPass run
      | due => exact due run
      | running ms =>
        rw [beginGapFocus_svy_of_due runs still run focused] at rest
        cases rest

/-- Writes outside the planner, the book, the survey and the state leave what is due as it is. -/
theorem nothingDue_congr {s t : State} (h : NothingDue s) (runs : operates t = true → operates s = true)
    (pln : t.pln = s.pln) (ofe : t.ofe = s.ofe) (svy : t.svy = s.svy) : NothingDue t := by
  intro k
  rw [pln, ofe, svy]
  exact h (runs k)

/-- Where the part is not at work nothing is due. -/
theorem nothingDue_of_not_operating {t : State} (h : operates t = false) : NothingDue t := by
  intro k
  rw [h] at k
  cases k

theorem ite_nothingDue {p : Prop} [Decidable p] {s t : State} (h : p → NothingDue s) (k : ¬ p → NothingDue t) :
    NothingDue (if p then s else t) := by
  split
  · exact h ‹_›
  · exact k ‹_›

theorem nothingDue_of_eq {s t : State} (e : (Host.Outcome.next s : Host.Outcome State Fault Refusal) = .next t)
    (w : NothingDue s) : NothingDue t := by
  cases e
  exact w

/-- Entries that become SAT_OUT make no evaluation due. -/
theorem nothingDue_offerClashed {rid : ReqId} {s : State} (h : NothingDue s) : NothingDue (offerClashed rid s) := by
  unfold offerClashed
  split
  · exact h
  · intro runs
    obtain ⟨pass, heard, focus⟩ := h runs
    refine ⟨pass, fun idle e mem => ?_, focus⟩
    obtain ⟨x, hx, rfl⟩ := List.mem_map.1 mem
    split
    · simp [Entry.satOutFor, Entry.ended]
    · exact heard idle x hx

theorem beginSurveyPass_nothingDue {s : State} (h : NothingDue s) : NothingDue (beginSurveyPass s) := by
  intro runs
  obtain ⟨pass, heard, -⟩ := h (by simpa [operates] using runs)
  refine ⟨by simpa using pass, by simpa using heard, ?_⟩
  unfold beginSurveyPass beginRegular
  split <;> simp [beginStep]

theorem changeState_halted_not_operating (s : State) : operates (changeState .haltedConfig s) = false := by
  simp [operates, StationState.operating]

theorem exec_nothingDue {c : Instr} {s t : State} (h : exec c s = .next t) (k : NothingDue s) : NothingDue t := by
  have settled := settle_nothingDue
  cases c
  case start straps clr =>
    exact nothingDue_of_eq h (nothingDue_of_not_operating (by simp [operates, Sul.started, Sul.initial, StationState.operating]))
  case coreStop =>
    exact nothingDue_of_eq h (ite_nothingDue
      (fun _ => nothingDue_of_not_operating (by simp [operates, State.coreLost])) (fun _ => k))
  case retainedCellFail =>
    exact nothingDue_of_eq h (ite_nothingDue (fun _ => nothingDue_congr k id rfl rfl rfl)
      (fun off => nothingDue_of_not_operating (by simp [operates, spoilRetained, off])))
  case secondsTick =>
    exact nothingDue_of_eq h (ite_nothingDue (fun _ => settled _) (fun _ => nothingDue_congr k id rfl rfl rfl))
  case configMemoryReady bits =>
    exact nothingDue_of_eq h (ite_nothingDue (fun _ => nothingDue_congr k id rfl rfl rfl) (fun _ => k))
  case loadingTimerExpiry =>
    exact nothingDue_of_eq h (ite_nothingDue
      (fun _ => nothingDue_of_not_operating (changeState_halted_not_operating _)) (fun _ => k))
  case loadingEnd d hot m =>
    refine nothingDue_of_eq h (ite_nothingDue (fun _ => ?_) (fun _ => k))
    dsimp only
    split
    · exact nothingDue_of_not_operating (changeState_halted_not_operating _)
    · exact settled _
  case joiningTimerExpiry =>
    exact nothingDue_of_eq h (ite_nothingDue (fun _ => ite_nothingDue (fun _ => settled _)
      (fun _ => nothingDue_congr k id rfl rfl rfl)) (fun _ => k))
  case mainsGoodLow =>
    refine nothingDue_of_eq h (ite_nothingDue (fun _ => ?_) (fun _ => k))
    dsimp only
    split
    · exact settled _
    · exact settled _
    · exact settled _
    · exact nothingDue_congr k id rfl rfl rfl
    · exact nothingDue_congr k id rfl rfl rfl
    · exact nothingDue_congr k id rfl rfl rfl
  case mainsGoodHigh =>
    exact nothingDue_of_eq h (ite_nothingDue (fun _ => ite_nothingDue (fun _ => nothingDue_congr k id rfl rfl rfl)
      (fun _ => nothingDue_congr k id rfl rfl rfl)) (fun _ => k))
  case surveyStepEnd seen levels hot =>
    simp only [exec, execSurveyStepEnd] at h
    split at h
    · exact nothingDue_of_eq h (ite_nothingDue (fun _ => settled _) (fun _ => k))
    · exact nothingDue_of_eq h k
  case passGapExpiry =>
    refine nothingDue_of_eq h ?_
    split
    · refine ite_nothingDue (fun _ => ite_nothingDue (fun _ runs => ?_) (fun _ => beginSurveyPass_nothingDue k)) (fun _ => k)
      obtain ⟨pass, heard, -⟩ := k runs
      exact ⟨pass, heard, fun _ _ _ gap => by cases gap⟩
    · exact k
  case doorOpen => exact nothingDue_of_eq h (ite_nothingDue (fun _ => settled _) (fun _ => k))
  case doorClose => exact nothingDue_of_eq h (ite_nothingDue (fun _ => settled _) (fun _ => k))
  case mainsReturnTimerExpiry => exact nothingDue_of_eq h (ite_nothingDue (fun _ => settled _) (fun _ => k))
  case holdTimerExpiry => exact nothingDue_of_eq h (ite_nothingDue (fun _ => settled _) (fun _ => k))
  case pledgeTimerExpiry rid =>
    refine nothingDue_of_eq h ?_
    split
    · exact ite_nothingDue (fun _ => settled _) (fun _ => k)
    · exact k
  case thermalTrip n =>
    refine nothingDue_of_eq h ?_
    split
    · exact ite_nothingDue (fun _ => settled _) (fun _ => k)
    · exact k
  case planningPassEnd =>
    simp only [exec, execPlanningPassEnd] at h
    split at h
    · exact nothingDue_of_eq h (ite_nothingDue (fun _ => settled _) (fun _ => k))
    · exact nothingDue_of_eq h k
  case evaluationEnd =>
    simp only [exec, execEvaluationEnd] at h
    split at h
    · exact nothingDue_of_eq h (ite_nothingDue (fun _ => settled _) (fun _ => k))
    · exact nothingDue_of_eq h k
  case demandTimerExpiry =>
    exact nothingDue_of_eq h (ite_nothingDue (fun _ => nothingDue_congr k (by simp [operates]) (by simp) (by simp)
      (by simp)) (fun _ => k))
  case spacingTimerExpiry =>
    exact nothingDue_of_eq h (ite_nothingDue (fun _ => ite_nothingDue
      (fun _ => nothingDue_congr k (by simp [operates]) (by simp) (by simp) (by simp))
      (fun _ => nothingDue_congr k id rfl rfl rfl)) (fun _ => k))
  case freshnessTimerExpiry => exact nothingDue_of_eq h (ite_nothingDue (fun _ => settled _) (fun _ => k))
  case frameReceived cells =>
    refine nothingDue_of_eq h ?_
    split
    · exact ite_nothingDue (fun _ => settled _) (fun _ => k)
    · exact k
  case framingError noisy => exact nothingDue_of_eq h (ite_nothingDue (fun _ => settled _) (fun _ => k))
  case truncated noisy => exact nothingDue_of_eq h (ite_nothingDue (fun _ => settled _) (fun _ => k))
  case malformedFrameEnd noisy => exact nothingDue_of_eq h (ite_nothingDue (fun _ => settled _) (fun _ => k))
  case frameMalformedLength =>
    exact nothingDue_of_eq h (ite_nothingDue (fun _ => nothingDue_congr k id rfl rfl rfl) (fun _ => k))
  case startPoint => exact nothingDue_of_eq h (ite_nothingDue (fun _ => settled _) (fun _ => k))
  case arbitrationLoss =>
    refine nothingDue_of_eq h ?_
    split
    · refine ite_nothingDue (fun _ => ?_) (fun _ => k)
      exact nothingDue_congr k (by simp [operates]) (by simp) (by simp) (by simp)
    · exact k
  case transmissionComplete =>
    refine nothingDue_of_eq h ?_
    split
    · exact ite_nothingDue (fun _ => settled _) (fun _ => k)
    · exact k
  case stationClash =>
    refine nothingDue_of_eq h ?_
    split
    · refine ite_nothingDue (fun _ => ?_) (fun _ => k)
      unfold abandonTransmission
      dsimp only
      split
      · exact nothingDue_congr k (by simp [operates, flagClash]) (by simp) (by simp) (by simp)
      · split
        · exact ite_nothingDue (fun _ => nothingDue_congr k id rfl rfl rfl)
            (fun _ => nothingDue_offerClashed (nothingDue_congr k id rfl rfl rfl))
        · exact nothingDue_congr k id rfl rfl rfl
    · exact k
  case clashTimerExpiry =>
    exact nothingDue_of_eq h (ite_nothingDue (fun _ => nothingDue_congr k id rfl rfl rfl) (fun _ => k))
  case stretchStart =>
    refine nothingDue_of_eq h ?_
    split
    · exact ite_nothingDue (fun _ => nothingDue_congr k id rfl rfl rfl) (fun _ => k)
    · exact k
  case stretchLimit still =>
    refine nothingDue_of_eq h ?_
    split
    · exact ite_nothingDue (fun _ => settled _) (fun _ => k)
    · exact k
  case lineHoldStart noisy later => exact nothingDue_of_eq h (ite_nothingDue (fun _ => settled _) (fun _ => k))
  case lineHoldEnd =>
    exact nothingDue_of_eq h (ite_nothingDue (fun _ => nothingDue_congr k id rfl rfl rfl) (fun _ => k))
  case pauseTimerExpiry => exact nothingDue_of_eq h (ite_nothingDue (fun _ => settled _) (fun _ => k))
  case returnTimerExpiry | checkTimerExpiry | waitTimerExpiry | collectTimerExpiry =>
    refine nothingDue_of_eq h (ite_nothingDue (fun _ => ?_) (fun _ => k))
    split
    · exact settled _
    · exact k
  case removalTimerExpiry =>
    refine nothingDue_of_eq h (ite_nothingDue (fun _ => ?_) (fun _ => k))
    split
    · exact settled _
    · split
      · exact settled _
      · exact k
  case request | offer | assign | assignOther | update | beginSwap | cancel | demand | meter |
      querySummary | querySlot | queryBook | queryCounters | queryPeer | queryInvalid =>
    exact nothingDue_of_eq h (ite_nothingDue (fun _ => settled _) (fun _ => k))

/-- Settles O12: a command ends with what begins then, or makes nothing due. -/
theorem nothingDueWaits : Obligations.NothingDueWaits := by
  intro s t k h
  unfold step at h
  split at h
  · exact nothingDue_of_eq h k
  · exact exec_nothingDue h k

end Sys2Proof.Machine
end

section
/-! Proofs of the statements about the characters of a frame (O17, O18). -/

namespace Sys2Proof.Machine

open Sys2Proof

/-! ### Bits and bytes -/

/-- One more bit of a number read from the most significant side. -/
theorem bitsNumber_append (l : List Bool) (b : Bool) : bitsNumber (l ++ [b]) = 2 * bitsNumber l + b.toNat := by
  simp [bitsNumber]

/-- The first `k` of a byte's bits, the most significant first, spell what is left of it above the others. -/
theorem bitsNumber_high (b : Byte) (k : Nat) (h : k ≤ 8) :
    bitsNumber ((List.range k).map (fun i => b.getLsbD (7 - i))) = b.toNat / 2 ^ (8 - k) := by
  induction k with
  | zero => simp [bitsNumber, Nat.div_eq_of_lt b.isLt]
  | succ k ih =>
    have above : 8 - k = (7 - k) + 1 := by omega
    have below : 8 - (k + 1) = 7 - k := by omega
    rw [List.range_succ, List.map_append, List.map_singleton, bitsNumber_append, ih (by omega), above, below,
      BitVec.getLsbD, Nat.testBit_eq_decide_div_mod_eq, Nat.pow_succ, ← Nat.div_div_eq_div_mul]
    by_cases odd : b.toNat / 2 ^ (7 - k) % 2 = 1
    · simp only [odd, decide_true, Bool.toNat_true]
      omega
    · simp only [odd, decide_false, Bool.toNat_false]
      omega

theorem bitsNumber_msbBits (b : Byte) : bitsNumber (msbBits b) = b.toNat := by
  simpa [msbBits] using bitsNumber_high b 8 (by omega)

@[simp] theorem byteOf_toNat (b : Byte) : byteOf b.toNat = b := by simp [byteOf]

theorem reverse_lsbBits (b : Byte) : (lsbBits b).reverse = msbBits b := by
  simp [lsbBits, msbBits, List.range_succ]

@[simp] theorem length_msbBits (b : Byte) : (msbBits b).length = 8 := by simp [msbBits]

@[simp] theorem length_lsbBits (b : Byte) : (lsbBits b).length = 8 := by simp [lsbBits]

@[simp] theorem length_dataBits (place : Nat) (b : Byte) : (dataBits place b).length = 8 := by
  unfold dataBits
  split <;> simp

/-- The data cells of a character spell its byte (R22). -/
theorem charByte_dataBits (place : Nat) (b : Byte) : charByte place (dataBits place b) = b := by
  unfold charByte dataBits
  split
  · simp [bitsNumber_msbBits]
  · simp [reverse_lsbBits, bitsNumber_msbBits]

/-! ### Reading the cells of a frame (O17) -/

/-- Up to eight data cells of a character are collected. -/
theorem rxCell_data (chars : List Byte) (more bits : List Bool) (h : bits.length + more.length ≤ 8) :
    more.foldl rxCell (some (.inChar bits, chars)) = some (.inChar (bits ++ more), chars) := by
  induction more generalizing bits with
  | nil => simp
  | cons b more ih =>
    simp only [List.length_cons] at h
    have room : bits.length < 8 := by omega
    simp only [List.foldl_cons, rxCell, room, if_true]
    rw [ih _ (by simp; omega)]
    simp

/-- The ten cells of a character add it to the characters collected. -/
theorem rxCell_char (chars : List Byte) (b : Byte) :
    (charCells chars.length b).foldl rxCell (some (.gap 0, chars)) = some (.gap 0, chars ++ [b]) := by
  rw [charCells, List.foldl_append, List.foldl_append]
  have start : [false].foldl rxCell (some (.gap 0, chars)) = some (.inChar [], chars) := by simp [rxCell]
  rw [start, rxCell_data _ _ _ (by simp)]
  simp [rxCell, charByte_dataBits]

theorem rxCell_frame (more chars : List Byte) :
    (frameCells chars.length more).foldl rxCell (some (.gap 0, chars)) = some (.gap 0, chars ++ more) := by
  induction more generalizing chars with
  | nil => simp [frameCells]
  | cons b more ih =>
    rw [frameCells, List.foldl_append, rxCell_char]
    simpa using ih (chars ++ [b])

theorem map_cellValue_onLine (chars : List Byte) : (onLine chars).map cellValue = frameCells 0 chars := by
  have clean : cellValue ∘ cleanCell = id := by
    funext b
    simp [cellValue, cleanCell]
  simp [onLine, clean]

/-- Settles O17, by one character after another. -/
theorem sentCharactersAreReadBack : Obligations.SentCharactersAreReadBack := by
  intro chars whole short size
  have read : (frameCells 0 chars).foldl rxCell (some (.gap 0, [])) = some (.gap 0, chars) := by
    simpa using rxCell_frame chars []
  rw [map_cellValue_onLine, readFrame, read]
  exact if_pos ⟨whole, short, size⟩

/-! ### The frames this station sends (O18) -/

@[simp] theorem length_bytes16 (h : Half) : (bytes16 h).length = 2 := rfl

theorem length_chars (f : TxFrame) (source : BitVec 4) : (f.chars source).length = 6 + f.data.length := by
  simp [TxFrame.chars]
  omega

theorem ofCode_code (k : Kind) : Kind.ofCode k.code = some k := by
  cases k <;> rfl

/-- Settles O18: the length character is the data's length, and the CRC is the body's. -/
theorem sentFramesAreGood : Obligations.SentFramesAreGood := by
  intro f source short
  have size : ((f.chars source).getD 3 0).toNat = f.data.length := by
    simp only [TxFrame.chars, byteOf]
    simpa using by omega
  refine ⟨?back, ?fields, ofCode_code f.kind⟩
  case back =>
    exact sentCharactersAreReadBack (f.chars source) (by rw [length_chars]; omega) (by omega)
      (by rw [length_chars, size])
  case fields =>
    let body : List Byte := [f.contest, f.kind.code ++ source, f.target, byteOf f.data.length] ++ f.data
    have parts : f.chars source = body ++ bytes16 (crc16 body) := rfl
    have cut : (f.chars source).length - 2 = body.length := by simp [parts]
    have kind : (f.kind.code ++ source).extractLsb' 4 4 = f.kind.code := BitVec.extractLsb'_append_eq_left
    have number : (f.kind.code ++ source).extractLsb' 0 4 = source := BitVec.extractLsb'_append_eq_right
    simp only [lineFrame, cut]
    simp [parts, body, kind, number]

end Sys2Proof.Machine
end

section
/-! Proofs of the statements about the frames of the line: their reception, their start points and what becomes of the
frames this station sends (O19 to O23, O25). -/

namespace Sys2Proof.Machine

open Sys2Proof

/-! ### The end of an event -/

/-- Where nothing is due, nothing begins. -/
theorem settle_of_nothingDue {s : State} (h : NothingDue s) : settle s = s := by
  by_cases runs : operates s = true
  · obtain ⟨pass, heard, focus⟩ := h runs
    have noPass : beginPass s = s := by
      cases running : s.pln.pass with
      | some p => simp [beginPass, running]
      | none =>
        have replan : s.pln.replan = false := by
          by_contra set
          simpa [running] using pass (by simpa using set)
        simp [beginPass, replan]
    have noEvaluation : beginEvaluation s = s := by
      apply beginEvaluation_of_nothing
      cases evaluation : s.ofe.evaluation with
      | some ev => simp
      | none => exact .inr (.inr (heard evaluation))
    have noFocus : beginGapFocus s = s := by
      apply beginGapFocus_of_nothing
      cases step : s.svy.step with
      | some st => simp
      | none =>
        cases set : s.svy.focus with
        | none => simp
        | some f =>
          cases gap : s.svy.gap with
          | inPass => simp
          | due => simp
          | running ms => exact absurd gap (focus step (by simp [set]) ms)
    rw [settle, noPass, noEvaluation, noFocus]
  · have still : operates s = false := by simpa using runs
    have noPass : beginPass s = s := by simp [beginPass, still]
    rw [settle, noPass, beginEvaluation_of_nothing (.inl still), beginGapFocus_of_nothing (.inl still)]

/-- While the part is at work, a pass that is asked for runs at the end of the event (R75, R77). -/
theorem settle_pass_isSome {s : State} (runs : operates s = true)
    (asked : s.pln.replan = true ∨ s.pln.pass.isSome = true) : (settle s).pln.pass.isSome = true := by
  rw [settle_pln, beginPass_pln]
  split
  · rfl
  · next h =>
    rcases asked with replan | running
    · simpa [runs, replan, ← Option.isSome_iff_ne_none] using h
    · exact running

/-! ### Counters -/

theorem count_bump_same {c : Counter} {s : State} (full : s.counters.length = 32) :
    (bump c s).count c = satInc (s.count c) := by
  have place : c.place < s.counters.length := by
    rw [full]
    cases c <;> decide
  simp [State.count, bump, place]

/-- The counters in page order (R185). -/
def counterOrder : List Counter :=
  [.crc, .framing, .noisy, .truncated, .malformed, .unknownKind, .overrun, .transmitDropped, .stationClash,
    .stretchOverrun, .noReply, .linkCrc, .unreadable, .bookFull, .duplicate, .assignConflict, .done, .lapsed,
    .uncollected, .aborted, .abortedCancelled, .abortedReturnTimeout, .abortedReturnRejected, .abortedNoPack,
    .abortedReleaseWaitExceeded, .declineLate, .declineNotEligible, .declineNoDock, .declineBusy, .declineUnknown,
    .declineSupply, .declineService]

theorem counterOrder_place (c : Counter) : counterOrder[c.place]? = some c := by
  cases c <;> rfl

theorem place_injective {c d : Counter} (h : c.place = d.place) : c = d := by
  have same := counterOrder_place c
  rw [h, counterOrder_place d] at same
  exact (Option.some.inj same).symm

theorem count_bump_other {c d : Counter} (h : c ≠ d) (s : State) : (bump c s).count d = s.count d := by
  have apart : c.place ≠ d.place := fun e => h (place_injective e)
  simp [State.count, bump, apart]

/-- A count depends on the counters alone. -/
theorem bump_counters_congr (c : Counter) {s t : State} (h : t.counters = s.counters) :
    (bump c t).counters = (bump c s).counters := by
  simp [bump, h]

theorem bumpIf_counters_congr (b : Bool) (c : Counter) {s t : State} (h : t.counters = s.counters) :
    (bumpIf b c t).counters = (bumpIf b c s).counters := by
  cases b
  · exact h
  · exact bump_counters_congr c h

/-! ### Reception (O19) -/

/-- Where LIF receives, its flag for a malformed frame is clear (R25). -/
theorem malformed_of_listening {s : State} (h : listening s = true) : s.lif.malformed = false := by
  simp [listening] at h
  exact h.2

theorem listening_of_receiving {s : State} (h : receiving s = true) : listening s = true := by
  simp [receiving] at h
  exact h.1

theorem tx_of_listening {s : State} (h : listening s = true) : s.lif.tx = none := by
  simp [listening] at h
  exact h.1.1.1.2

/-- A frame's end in SPACE, after its noise has been counted. -/
theorem toSpace_bumpIf (b : Bool) (c : Counter) (s : State) : toSpace (bumpIf b c s) = bumpIf b c (toSpace s) := by
  cases b <;> rfl

/-- The cells of a complete frame, where no loss report waits (R25, R28). -/
theorem exec_frameReceived {cells : List Cell} {chars : List Byte} {s : State}
    (read : readFrame (cells.map cellValue) = some chars) (taken : takesCells (lineFrame chars) s = true)
    (quiet : s.lif.lossPending = false) : exec (.frameReceived cells) s =
      .next (settle (handleFrame (lineFrame chars) (bumpIf (cells.any cellNoisy) .noisy (toSpace s)))) := by
  have none : ∀ w, reportLoss w (bumpIf (cells.any cellNoisy) .noisy (toSpace s)) =
      bumpIf (cells.any cellNoisy) .noisy (toSpace s) := fun w => reportLoss_of_none w (by simpa [toSpace] using quiet)
  show Host.Outcome.next _ = _
  rw [read]
  simp only [taken, if_true, toSpace_bumpIf, none]

theorem handleFrame_badCrc {f : LineFrame} (s : State) (h : f.crcGood = false) : handleFrame f s = bump .crc s := by
  simp [handleFrame, h]

theorem handleFrame_elsewhere {f : LineFrame} {s : State} (good : f.crcGood = true) (h : targeted s f.target = false) :
    handleFrame f s = s := by
  simp [handleFrame, good, h]

theorem handleFrame_unknown {f : LineFrame} {s : State} (good : f.crcGood = true) (here : targeted s f.target = true)
    (h : Kind.ofCode f.kindCode = none) : handleFrame f s = bump .unknownKind s := by
  simp [handleFrame, good, here, h]

theorem handleFrame_known {f : LineFrame} {s : State} {k : Kind} (good : f.crcGood = true)
    (here : targeted s f.target = true) (h : Kind.ofCode f.kindCode = some k) :
    handleFrame f s = if k.sizeFits f.data.length = true then
      deliver ⟨f.source, f.contest, f.target, message k f.data⟩ s else bump .malformed s := by
  simp [handleFrame, good, here, h]

theorem targeted_congr {s t : State} (h : t.sul = s.sul) (target : Byte) : targeted t target = targeted s target := by
  simp [targeted, h]

theorem ofCode_eq_none {c : BitVec 4} (h : 12 ≤ c.toNat) : Kind.ofCode c = none := by
  simpa [Kind.ofCode] using h

/-- Settles O19: each step of R28 by its case of `handleFrame`. -/
theorem completeFrameIsFiltered : Obligations.CompleteFrameIsFiltered := by
  refine ⟨?frame, ?tail⟩
  case frame =>
    intro cells chars s read receives quiet f u
    have listens := listening_of_receiving receives
    have space : bumpIf (cells.any cellNoisy) .noisy (toSpace s) = u := by
      simp only [u, toSpace, ← malformed_of_listening listens]
    have runs := exec_frameReceived read (by simp [takesCells, receives]) quiet
    rw [space] at runs
    have names : targeted u f.target = targeted s f.target := targeted_congr (by simp [u]) _
    have buffer : u.lif.rxBuf = s.lif.rxBuf := by simp [u]
    refine ⟨fun bad => ?_, fun good away => ?_, fun good here unknown => ?_, fun k good here known => ⟨fun misfit => ?_,
      fun fits full => ?_, fun fits => ⟨fun empty => ?_, fun h one => ?_⟩⟩⟩
    · rw [runs, handleFrame_badCrc u bad]
    · rw [runs, handleFrame_elsewhere good (names.trans away)]
    · rw [runs, handleFrame_unknown good (names.trans here) (ofCode_eq_none unknown)]
    all_goals rw [runs, handleFrame_known good (names.trans here) known]
    · simp [f, misfit]
    · simp [f, fits, deliver, storeFrame, buffer, full]
    · rw [if_pos fits, deliver_of_empty _ (buffer.trans empty), storeFrame_of_empty _ (buffer.trans empty)]
      simp [u, f]
    · simp [f, fits, deliver, storeFrame, buffer, one]
      simp [u]
  case tail =>
    intro cells chars s read listens space quiet
    have stands : receiving s = false := receiving_eq_false_of_space space
    refine ⟨fun good => ?_, fun bad => ?_⟩
    · show Host.Outcome.next _ = _
      rw [read]
      simp [takesCells_of_crcGood good, stands]
    · rw [exec_frameReceived read (by simp [takesCells, listens, bad]) quiet, handleFrame_badCrc _ bad]
      rfl

end Sys2Proof.Machine
end

section
/-! Entries of the Request Book and the line interface without its register, and the statements about errors, start
points and frames in transmission (O20 to O23, O25). -/

namespace Sys2Proof.Machine

open Sys2Proof

/-! ### The entry of a request -/

theorem entry?_congr {s t : State} (h : t.ofe.book = s.ofe.book) (rid : ReqId) : t.entry? rid = s.entry? rid := by
  simp [State.entry?, h]

theorem entry?_modEntry_same {f : Entry → Entry} (keeps : ∀ e, (f e).rid = e.rid) (rid : ReqId) (s : State) :
    (modEntry rid f s).entry? rid = (s.entry? rid).map f := by
  have place : (fun e : Entry => decide ((if e.rid = rid then f e else e).rid = rid)) = fun e => decide (e.rid = rid) := by
    funext e
    split <;> simp_all
  simp only [State.entry?, modEntry, List.find?_map, Function.comp_def, place]
  cases found : s.ofe.book.find? (fun e => decide (e.rid = rid)) with
  | none => rfl
  | some e => simp [(entry?_mem (s := s) found).2]

theorem entry?_modEntry_other {f : Entry → Entry} (keeps : ∀ e, (f e).rid = e.rid) {rid r : ReqId} (apart : r ≠ rid)
    (s : State) : (modEntry rid f s).entry? r = s.entry? r := by
  have place : (fun e : Entry => decide ((if e.rid = rid then f e else e).rid = r)) = fun e => decide (e.rid = r) := by
    funext e
    split <;> simp_all
  simp only [State.entry?, modEntry, List.find?_map, Function.comp_def, place]
  cases found : s.ofe.book.find? (fun e => decide (e.rid = r)) with
  | none => rfl
  | some e =>
    have := (entry?_mem (s := s) found).2
    simp [this, apart]

/-- No entry of this request is HEARD, so that none is evaluated at the end of the event. -/
def NotHeard (rid : ReqId) (s : State) : Prop := ∀ e ∈ s.ofe.book, e.rid = rid → e.state ≠ .heard

theorem notHeard_modEntry {f : Entry → Entry} {rid : ReqId} {s : State} (h : ∀ e, (f e).state ≠ .heard) :
    NotHeard rid (modEntry rid f s) := by
  intro e mem
  obtain ⟨x, -, rfl⟩ := List.mem_map.1 mem
  split
  · exact fun _ => h x
  · next other => exact fun same => absurd same other

theorem notHeard_congr {rid : ReqId} {s t : State} (h : t.ofe.book = s.ofe.book) (k : NotHeard rid s) :
    NotHeard rid t := by
  unfold NotHeard
  rw [h]
  exact k

/-- What begins at the end of an event leaves an entry that is not HEARD as it is (R115). -/
theorem entry?_settle {rid : ReqId} {s : State} (h : NotHeard rid s) : (settle s).entry? rid = s.entry? rid := by
  have book : (settle s).entry? rid = (beginEvaluation s).entry? rid := entry?_congr (by rw [settle_ofe]) rid
  rw [book]
  by_cases begins : operates s = false ∨ s.ofe.evaluation.isSome = true ∨ ∀ e ∈ s.ofe.book, e.state ≠ .heard
  · rw [beginEvaluation_of_nothing begins]
  · simp only [not_or, Bool.not_eq_false, Bool.not_eq_true, Option.isSome_eq_false_iff, Option.isNone_iff_eq_none] at begins
    obtain ⟨runs, idle, heard⟩ := begins
    obtain ⟨e, found⟩ : ∃ e, s.ofe.book.find? (fun e => decide (e.state = .heard)) = some e := by
      simpa [← Option.isSome_iff_exists, List.find?_isSome] using heard
    have apart : rid ≠ e.rid := fun same =>
      h e (List.mem_of_find?_eq_some found) same.symm (by simpa using List.find?_some found)
    have evaluated : (beginEvaluation s).entry? rid =
        (modEntry e.rid (fun x => { x with state := .evaluating }) s).entry? rid :=
      entry?_congr (by rw [beginEvaluation_ofe_of_heard runs idle found]; rfl) rid
    exact evaluated.trans
      (entry?_modEntry_other (f := fun x => { x with state := .evaluating }) (fun _ => rfl) apart s)

/-! ### The line without the contest register -/

/-- LIF without its contest register. -/
def Lif.bare (l : Lif) : Lif := { l with register := none, lossPending := false, clearPending := false }

theorem clearRegister_bare (s : State) : (clearRegister s).lif.bare = s.lif.bare := by
  unfold clearRegister
  split <;> rfl

theorem offerTried_bare (rid : ReqId) (s : State) : (offerTried rid s).lif.bare = s.lif.bare := by
  unfold offerTried
  split
  · rfl
  · split
    · exact clearRegister_bare _
    · rfl

theorem offerBeaten_bare (rid : ReqId) (w : Winner) (s : State) : (offerBeaten rid w s).lif.bare = s.lif.bare := by
  unfold offerBeaten
  split
  · rfl
  · exact clearRegister_bare _

theorem reportLoss_bare (w : ReqId → Option Winner) (s : State) : (reportLoss w s).lif.bare = s.lif.bare := by
  unfold reportLoss
  split
  · dsimp only
    split
    · rfl
    · split
      · exact offerBeaten_bare _ _ _
      · exact offerTried_bare _ _
  · rfl

@[simp] theorem reportLoss_cond (w : ReqId → Option Winner) (s : State) : (reportLoss w s).lif.cond = s.lif.cond := by
  show (reportLoss w s).lif.bare.cond = s.lif.bare.cond
  rw [reportLoss_bare]

@[simp] theorem reportLoss_tx (w : ReqId → Option Winner) (s : State) : (reportLoss w s).lif.tx = s.lif.tx := by
  show (reportLoss w s).lif.bare.tx = s.lif.bare.tx
  rw [reportLoss_bare]

theorem failTransmission_of_idle {s : State} (h : s.lif.tx = none) : failTransmission s = s := by
  simp [failTransmission, h]

@[simp] theorem failTransmission_tx (s : State) : (failTransmission s).lif.tx = none := by
  unfold failTransmission
  split
  · next idle => exact idle
  · dsimp only
    split
    · rfl
    · split
      · rfl
      · split
        · show (offerTried _ _).lif.bare.tx = none
          rw [offerTried_bare]
          rfl
        · rfl

/-! ### Errors (O20) -/

theorem exec_truncated {noisy : Bool} {s : State} (h : listening s = true) : exec (.truncated noisy) s =
    .next (settle (reportLoss unidentified (toSpace (bumpIf noisy .noisy (bump .truncated s))))) := by
  simp only [exec, execTruncated, h, if_true]

theorem exec_framingError {noisy : Bool} {s : State} (runs : lifRuns s = true) (free : s.lif.cond ≠ .hold)
    (still : s.lif.stretch = none) : exec (.framingError noisy) s = .next (settle (reportLoss unidentified (toSpace
      (failTransmission (bumpIf (noisy && s.lif.tx.isNone) .noisy (bump .framing s)))))) := by
  simp [exec, execFramingError, runs, free, still]

theorem exec_malformedFrameEnd {noisy : Bool} {s : State} (runs : lifRuns s = true) (passed : s.lif.malformed = true) :
    exec (.malformedFrameEnd noisy) s = .next (settle (reportLoss unidentified (toSpace (bumpIf noisy .noisy s)))) := by
  simp [exec, execMalformedFrameEnd, runs, passed]

theorem lifRuns_of_listening {s : State} (h : listening s = true) :
    lifRuns s = true ∧ s.lif.cond ≠ .hold ∧ s.lif.stretch = none := by
  simp [listening] at h
  obtain ⟨⟨⟨⟨runs, -⟩, free⟩, still⟩, -⟩ := h
  exact ⟨runs, free, still⟩

/-- Settles O20: the counts are made before the report, which counts nothing. -/
theorem receptionErrorsAreCounted : Obligations.ReceptionErrorsAreCounted := by
  intro noisy s u
  refine ⟨fun quiet => ⟨fun listens => ⟨?_, ?_⟩, fun runs passed => ?_⟩, fun receives => ?_, fun space => ?_,
    fun listens => ?_, fun runs free still => ?_, fun runs passed => ?_⟩
  · rw [exec_truncated listens, toSpace_bumpIf, reportLoss_of_none _ (by simpa [toSpace] using quiet)]
    rfl
  · obtain ⟨runs, free, still⟩ := lifRuns_of_listening listens
    rw [exec_framingError runs free still, failTransmission_of_idle (by simpa using tx_of_listening listens),
      toSpace_bumpIf, reportLoss_of_none _ (by simpa [toSpace] using quiet)]
    simp only [tx_of_listening listens, Option.isNone_none, Bool.and_true]
    rfl
  · rw [exec_malformedFrameEnd runs passed, toSpace_bumpIf, reportLoss_of_none _ (by simpa [toSpace] using quiet)]
    rfl
  · simp only [exec, execFrameMalformedLength, receives, if_true]
  · simp [exec, execFrameMalformedLength, receiving_eq_false_of_space space]
  · exact ⟨_, exec_truncated listens, by simp [toSpace], by simp⟩
  · exact ⟨_, exec_framingError runs free still, by simp [toSpace], by simp [toSpace], by simp⟩
  · exact ⟨_, exec_malformedFrameEnd runs passed, by simp [toSpace], by simp⟩

end Sys2Proof.Machine
end

section
/-! Proofs of the statements about start points and frames in transmission (O21 to O25). -/

namespace Sys2Proof.Machine

open Sys2Proof

/-! ### Start points (O21, O22) -/

theorem contests_iff (st : StationState) :
    st.contests = true ↔ st = .active ∨ st = .withdrawn ∨ st = .holdup := by
  cases st <;> simp [StationState.contests]

/-- Where the register may send, its OFFER is the one that may start (R32). -/
theorem offer?_of_contests {s : State} (h : s.sul.state = .active ∨ s.sul.state = .withdrawn ∨ s.sul.state = .holdup) :
    s.offer? = s.lif.register := by
  simp [State.offer?, (contests_iff _).2 h]

theorem offer?_eq_none {s : State}
    (h : s.lif.register = none ∨ ¬ (s.sul.state = .active ∨ s.sul.state = .withdrawn ∨ s.sul.state = .holdup)) :
    s.offer? = none := by
  unfold State.offer?
  rcases h with empty | barred
  · split
    · exact empty
    · rfl
  · exact if_neg (fun c => barred ((contests_iff _).1 c))

theorem exec_startPoint {s : State} (runs : lifRuns s = true) (quiet : s.lif.tx = none) (still : s.lif.stretch = none)
    (waits : s.lif.cond = .idle ∨ s.lif.cond = .space) : exec .startPoint s = .next (settle (atStartPoint s)) := by
  simp [exec, execStartPoint, runs, quiet, still, waits]

/-- Settles O21, by the four cases of the queue's head and the register. -/
theorem startPointSendsTheLower : Obligations.StartPointSendsTheLower := by
  intro s runs quiet still unmarked waits sends mayOffer
  have start := exec_startPoint runs quiet still waits
  have lowest : atStartPoint s = startLowest (toIdle s) := by simp [atStartPoint, unmarked]
  have offers : (toIdle s).offer? = s.offer? := rfl
  have queue : (toIdle s).lif.queue = s.lif.queue := rfl
  rw [lowest] at start
  have begun : ∀ o f, startLowest (toIdle s) = startFrame o f (toIdle s) → sends o f := by
    intro o f which
    show _ = _
    rw [start, which]
    rfl
  refine ⟨fun e rest front none => begun _ _ ?_, fun r empty held may => begun _ _ ?_,
    fun e rest r front held may => ⟨fun lower => begun _ _ ?_, fun upper => begun _ _ ?_⟩, fun empty none => ?_⟩
  · simp [startLowest, queue, front, offers, offer?_eq_none none]
  · simp [startLowest, queue, empty, offers, offer?_of_contests may, held]
  · simp [startLowest, queue, front, offers, offer?_of_contests may, held, lower]
  · simp [startLowest, queue, front, offers, offer?_of_contests may, held, upper]
  · have nothing : startLowest (toIdle s) = toIdle s := by
      simp [startLowest, queue, empty, offers, offer?_eq_none none]
    rw [start, nothing]
    rfl

/-- Where no contest point is marked and no stretch driven, a request closed for the stretch leaves LIF as it is. -/
theorem closeStretch_of_unmarked {rid : ReqId} {s : State} (mark : s.lif.mark = none) (still : s.lif.stretch = none) :
    closeStretch rid s = s := by
  apply state_ext <;> simp [closeStretch, mark, still]
  cases s with
  | mk core lif => cases lif; simp_all

theorem late_of_open {rid : ReqId} {s : State} {e : Entry} (held : s.entry? rid = some e)
    (h : e.state = .heard ∨ e.state = .evaluating) :
    late rid s = closeStretch rid (modEntry rid (Entry.satOutFor .late s.rhs.seconds) s) := by
  rcases h with h | h <;> simp [late, held, h, EntryState.open?]

/-- A report of lateness leaves LIF as it is where no mark stands and no stretch is driven. -/
theorem late_lif {rid : ReqId} {s : State} (mark : s.lif.mark = none) (still : s.lif.stretch = none) :
    (late rid s).lif = s.lif := by
  unfold late
  split
  · split
    · rw [closeStretch_of_unmarked (by simpa using mark) (by simpa using still)]
      rfl
    · rfl
  · rfl

theorem rid_ended (st : EntryState) (now : Word) (e : Entry) : (e.ended st now).rid = e.rid := rfl

theorem rid_satOutFor (c : SatOutCause) (now : Word) (e : Entry) : (e.satOutFor c now).rid = e.rid := rfl

theorem state_satOutFor (c : SatOutCause) (now : Word) (e : Entry) : (e.satOutFor c now).state = .satOut := rfl

/-- An entry that is late is SAT_OUT with cause LATE, also at the end of the event (R126). -/
theorem entry?_settle_late {rid : ReqId} {s t : State} {e : Entry} (held : s.entry? rid = some e)
    (h : e.state = .heard ∨ e.state = .evaluating) (same : t.ofe = (late rid s).ofe) :
    (settle t).entry? rid = some (e.satOutFor .late s.rhs.seconds) := by
  have book : t.ofe.book = (modEntry rid (Entry.satOutFor .late s.rhs.seconds) s).ofe.book := by
    rw [same, late_of_open held h]
    rfl
  rw [entry?_settle (notHeard_congr book (notHeard_modEntry (by simp [state_satOutFor]))), entry?_congr book,
    entry?_modEntry_same (rid_satOutFor _ _), held]
  rfl

/-- Settles O22. -/
theorem contestPointIsForItsOffer : Obligations.ContestPointIsForItsOffer := by
  intro s m runs quiet still marked waits
  have point : atStartPoint s = late m.rid { startAtContest m (toIdle s) with lif.mark := none } := by
    simp [atStartPoint, marked]
  have lif : (settle (atStartPoint s)).lif = { (startAtContest m (toIdle s)).lif with mark := none } := by
    have stretch : (startAtContest m (toIdle s)).lif.stretch = none := by
      unfold startAtContest
      split
      · split <;> exact still
      · exact still
    rw [point]
    simp [late_lif, stretch]
  refine ⟨_, exec_startPoint runs quiet still waits, ?_, ?_, ?_, ?_, ?_, ?_⟩
  · rw [lif]
  · rw [lif]
    unfold startAtContest
    split
    · split <;> rfl
    · rfl
  · rw [lif]
    unfold startAtContest
    split
    · split <;> rfl
    · rfl
  · rw [lif]
    by_cases may : s.sul.state = .active ∨ s.sul.state = .withdrawn ∨ s.sul.state = .holdup
    · have offer : (toIdle s).offer? = s.lif.register := offer?_of_contests may
      unfold startAtContest
      rw [offer]
      cases s.lif.register with
      | none => exact quiet
      | some r =>
        by_cases own : r.rid = m.rid ∧ m.barred = false
        · simp [own, may, startFrame]
        · simpa [own, may, ← and_assoc, toIdle] using quiet
    · have offer : (toIdle s).offer? = none := offer?_eq_none (.inr may)
      unfold startAtContest
      rw [offer]
      cases s.lif.register with
      | none => exact quiet
      | some r => simpa [may, toIdle] using quiet
  · intro e held opened
    refine ⟨e.satOutFor .late s.rhs.seconds, ?_, rfl, rfl, rfl⟩
    rw [point]
    have same : ({ startAtContest m (toIdle s) with lif.mark := none } : State).entry? m.rid = some e := by
      rw [← held]
      exact entry?_congr (by simp) _
    simpa using entry?_settle_late same opened rfl
  · apply state_ext <;> simp

/-! ### Frames in transmission (O23 to O25) -/

theorem exec_arbitrationLoss {s : State} {x : Transmission} (runs : lifRuns s = true) (sends : s.lif.tx = some x) :
    exec .arbitrationLoss s = .next (loseTransmission x s) := by
  simp [exec, execArbitrationLoss, sends, runs]

theorem exec_transmissionComplete {s : State} {x : Transmission} (runs : lifRuns s = true) (sends : s.lif.tx = some x) :
    exec .transmissionComplete s = .next (settle (completeTransmission x s)) := by
  simp [exec, execTransmissionComplete, sends, runs]

theorem exec_stationClash {s : State} {x : Transmission} (runs : lifRuns s = true) (sends : s.lif.tx = some x) :
    exec .stationClash s = .next (abandonTransmission x (flagClash (bump .stationClash s))) := by
  simp [exec, execStationClash, sends, runs]

theorem exec_lineHoldStart {noisy later : Bool} {s : State} (runs : lifRuns s = true) (free : s.lif.cond ≠ .hold)
    (still : s.lif.stretch = none) : exec (.lineHoldStart noisy later) s = .next (settle (beginPause (toHold
      (reportLoss unidentified (failTransmission (countHold noisy later s)))))) := by
  simp [exec, execLineHoldStart, runs, free, still]

/-- The line after a hold's beginning has begun the line pause (R44, R92). -/
theorem beginPause_lif (s : State) : (beginPause s).lif = { s.lif with linePause := true } := by
  unfold beginPause
  split
  · next runs =>
    cases s with
    | mk core lif => cases lif; simp_all
  · rfl

/-- Settles O23, from what becomes of the queue at each outcome. -/
theorem queueFrameOutcomes : Obligations.QueueFrameOutcomes := by
  intro s o chars runs sends stays leaves clashed
  refine ⟨exec_arbitrationLoss runs sends, ?framing, ?cut, ?plain, ?kept⟩
  case framing =>
    intro free still quiet noisy
    have failed : failTransmission (bumpIf (noisy && s.lif.tx.isNone) .noisy (bump .framing s)) =
        queueRetries o { bump .framing s with lif.tx := none } := by simp [failTransmission, sends, bumpIf]
    rw [exec_framingError runs free still, failed, reportLoss_of_none _ (by simpa [toSpace, queueRetries] using quiet)]
    rfl
  case cut =>
    intro free still quiet noisy later
    have failed : failTransmission (countHold noisy later s) =
        queueRetries o { countHold noisy later s with lif.tx := none } := by simp [failTransmission, sends]
    have made := reportLoss_of_none unidentified (s := failTransmission (countHold noisy later s))
      (by simpa [failed, queueRetries] using quiet)
    have run := exec_lineHoldStart (noisy := noisy) (later := later) runs free still
    rw [made, failed] at run
    refine ⟨_, run, ?_, ?_, ?_⟩
    · simp [beginPause_lif, toHold, queueRetries, stays]
    · simp [countHold, sends, bumpIf]
    · apply state_ext <;> simp
  case plain =>
    intro e found none
    refine ⟨?_, ?_⟩
    · have completed : queueCompleted o (toSpace { s with lif.tx := Option.none }) =
          { toSpace { s with lif.tx := Option.none } with lif.queue := leaves } := by
        simp [queueCompleted, toSpace, found, none, leaves]
      rw [exec_transmissionComplete runs sends]
      exact congrArg (fun u => Host.Outcome.next (settle u)) completed
    · rw [exec_stationClash runs sends]
      simp [abandonTransmission, queueAbandoned, flagClash, found, none, clashed, leaves]
      rfl
  case kept =>
    intro e d found figures
    refine ⟨⟨_, exec_transmissionComplete runs sends, ?_⟩, ?_⟩
    · have completed : queueCompleted o (toSpace { s with lif.tx := none }) = pushFrame { e.frame with data := d }
          { toSpace { s with lif.tx := none } with lif.queue := leaves } := by
        simp [queueCompleted, toSpace, found, figures, leaves]
      have whole : completeTransmission ⟨.queue o, chars⟩ s = _ := completed
      rw [whole]
      refine ⟨by simp [pushFrame, toSpace], by simp [pushFrame, toSpace], ?_, by simp [pushFrame, toSpace], by simp⟩
      simpa [pushFrame, toSpace] using insertTx_perm _ _
    · rw [exec_stationClash runs sends]
      simp [abandonTransmission, queueAbandoned, flagClash, found, figures, clashed, leaves]
      rfl

/-- Settles O25. -/
theorem lostOfferWaitsForItsReport : Obligations.LostOfferWaitsForItsReport := by
  intro s chars r runs sends held
  rw [exec_arbitrationLoss runs sends, exec_transmissionComplete runs sends]
  refine ⟨fun kept => ?_, fun cleared => ⟨?_, ?_⟩⟩
  · simp [loseTransmission, kept]
  · simp [loseTransmission, cleared, emptyRegister]
  · simp [completeTransmission, cleared, emptyRegister, held, toSpace]

end Sys2Proof.Machine
end

section
/-! Proofs of the statements about the OFFER in transmission, the station clash, the stretch and the line hold (O24, O27,
O28, O29). -/

namespace Sys2Proof.Machine

open Sys2Proof

/-! ### Roles and entries -/

theorem setRole_slots {n : Nat} {r : Role} (h : r ≠ .releasing) (rid : Option ReqId) (s : State) :
    (setRole n r rid s).slots = s.slots.modify n (fun sl => { sl with role := r, rid := rid }) := by
  simp [setRole, modSlot, h]

@[simp] theorem setReplan_pln (s : State) : (setReplan s).pln = { s.pln with replan := true } := rfl

@[simp] theorem setRole_replan (n : Nat) (r : Role) (rid : Option ReqId) (s : State) :
    (setRole n r rid s).pln = { s.pln with replan := true } := rfl

theorem contender_eq_some {s : State} {rid : ReqId} {e : Entry} (held : s.entry? rid = some e)
    (h : e.state = .contending) : s.contender rid = some e := by
  simp [State.contender, held, h]

theorem settle_modEntry {rid : ReqId} {f : Entry → Entry} {s t u : State} {e : Entry} (keeps : ∀ x, (f x).rid = x.rid)
    (unheard : ∀ x, (f x).state ≠ .heard) (held : s.entry? rid = some e)
    (book : t.ofe.book = (modEntry rid f u).ofe.book) (same : u.ofe.book = s.ofe.book) :
    (settle t).entry? rid = some (f e) := by
  rw [entry?_settle (notHeard_congr book (notHeard_modEntry unheard)), entry?_congr book, entry?_modEntry_same keeps,
    entry?_congr same, held]
  rfl

/-! ### The OFFER in transmission (O24) -/

theorem slot?_congr {s t : State} (h : t.slots = s.slots) (n : Nat) : t.slot? n = s.slot? n := by
  simp [State.slot?, h]

/-- Settles O24. -/
theorem offerWonPledgesItsSlot : Obligations.OfferWonPledgesItsSlot := by
  intro s chars r e o sl runs sends held kept entry contends offer place
  let u : State := emptyRegister (toSpace { s with lif.tx := none })
  have won : completeTransmission ⟨.register, chars⟩ s = offerWon r.rid u := by
    simp [completeTransmission, held, kept, u]
  have contender : u.contender r.rid = some e := contender_eq_some (s := u) entry contends
  have slot : u.slot? o.slot = some sl := place
  have run := exec_transmissionComplete runs sends
  rw [won] at run
  have lif : u.lif = { s.lif with tx := none, register := none, cond := .space, recessive := 0, malformed := false } := by
    simp [u, emptyRegister, toSpace, kept]
  by_cases free : sl.role = .free
  · have pledged : offerWon r.rid u = setRole o.slot .pledged (some r.rid) (modEntry r.rid Entry.pledged u) := by
      simp [offerWon, contender, offer, slot, free]
    rw [pledged] at run
    refine ⟨_, run, by simp [lif], fun _ => ⟨?_, ?_, fun works => ?_⟩, fun taken => absurd free taken, ?_⟩
    · exact settle_modEntry (f := Entry.pledged) (fun _ => rfl) (by simp [Entry.pledged]) entry rfl rfl
    · simp [setRole_slots, u]
    · exact settle_pass_isSome (by simpa [operates, u] using works) (.inl rfl)
    · apply state_ext <;> simp [u]
  · have lost : offerWon r.rid u = modEntry r.rid (Entry.ended .unassigned s.rhs.seconds) u := by
      simp [offerWon, contender, offer, slot, free, u]
    rw [lost] at run
    refine ⟨_, run, by simp [lif], fun vacant => absurd vacant free, fun _ => ⟨by simp [u], e.ended .unassigned s.rhs.seconds, ?_, rfl, rfl⟩, ?_⟩
    · exact settle_modEntry (rid_ended _ _) (by simp [Entry.ended]) entry rfl rfl
    · apply state_ext <;> simp [u]

/-! ### The station clash (O27) -/

theorem abandonTransmission_lif (x : Transmission) (s : State) : (abandonTransmission x s).lif =
    { s.lif with
      tx := none, cond := .frame, queue := (abandonTransmission x s).lif.queue,
      nextOrder := (abandonTransmission x s).lif.nextOrder, register := (abandonTransmission x s).lif.register,
      clearPending := (abandonTransmission x s).lif.clearPending } := by
  unfold abandonTransmission
  dsimp only
  split
  · rw [queueAbandoned_line]
  · split
    · split
      · rfl
      · simp [emptyRegister]
    · rfl

/-- Settles O27. -/
theorem stationClashIsFlaggedAndNotRetried : Obligations.StationClashIsFlaggedAndNotRetried := by
  refine ⟨?flagged, ?expiry, ?lamp, ?shown, ?started, ?removed⟩
  case flagged =>
    intro s x runs sends
    refine ⟨_, exec_stationClash runs sends, ?_, ?_⟩
    · rw [abandonTransmission_lif]
      rfl
    · rw [abandonTransmission_lif]
      rfl
  case expiry =>
    intro s runs timer
    simp [exec, execClashTimerExpiry, runs, timer]
  case lamp =>
    intro s runs flag
    simp [State.faultLamp, runs, flag]
  case shown =>
    intro s
    simp [summaryMain, bytes16, boolByte]
  case started =>
    intro straps clr s t run
    cases run
    exact ⟨rfl, rfl⟩
  case removed =>
    intro s chars r e runs sends held kept entry contends full
    let u : State := emptyRegister { flagClash (bump .stationClash s) with lif.tx := none, lif.cond := .frame }
    have contender : u.contender r.rid = some e := contender_eq_some (s := u) entry contends
    have clashed : abandonTransmission ⟨.register, chars⟩ (flagClash (bump .stationClash s)) =
        modEntry r.rid (Entry.satOutFor .lost s.rhs.seconds) u := by
      have offer : abandonTransmission ⟨.register, chars⟩ (flagClash (bump .stationClash s)) = offerClashed r.rid u := by
        simp [abandonTransmission, flagClash, held, kept, u]
      rw [offer, offerClashed, contender]
      rfl
    have run := exec_stationClash runs sends
    rw [clashed] at run
    refine ⟨_, e.satOutFor .lost s.rhs.seconds, run, rfl, rfl, rfl, count_bump_same full, ?_, rfl, rfl, ?_⟩
    · have found : u.entry? r.rid = some e := entry
      rw [entry?_modEntry_same (rid_satOutFor _ _), found]
      rfl
    · apply state_ext <;> simp [u, flagClash]

/-! ### The stretch (O28) -/

theorem late_stretch {rid : ReqId} {s : State} (still : s.lif.stretch = none) : (late rid s).lif.stretch = none := by
  unfold late
  split
  · split
    · simp [closeStretch, still]
    · exact still
  · exact still

theorem settleCandidate_stretch (e : Entry) (c : Candidate) (s : State) :
    (settleCandidate e c s).lif.stretch = s.lif.stretch := by
  unfold settleCandidate
  dsimp only
  split
  · rfl
  · split <;> rfl

theorem count_bumpIf {c : Counter} {s : State} (b : Bool) (full : s.counters.length = 32) :
    (bumpIf b c s).count c = if b = true then satInc (s.count c) else s.count c := by
  cases b
  · rfl
  · exact count_bump_same full

/-- Settles O28. -/
theorem stretchDrivesAndLetsGo : Obligations.StretchDrivesAndLetsGo := by
  refine ⟨?drives, ?limit, ?ends, ?frames⟩
  case drives =>
    intro s m e runs space quiet still marked opened entry state
    have isOpen : stretchOpen m s = true := by
      rcases state with h | h <;> simp [stretchOpen, opened, entry, h, EntryState.open?]
    refine ⟨fun contests => ?_, fun silent => ?_⟩
    · have may := (contests_iff _).2 contests
      simp [exec, execStretchStart, marked, runs, may, space, still, quiet, isOpen]
    · have barred : s.sul.state.contests = false := by
        rcases silent with h | h <;> rw [h] <;> rfl
      simp [exec, execStretchStart, marked, barred]
  case limit =>
    intro s rid e still runs driven entry state full
    let u : State := { s with lif.stretch := none }
    have run : exec (.stretchLimit still) s = .next (settle (bumpIf still .stretchOverrun (late rid u))) := by
      simp [exec, execStretchLimit, driven, runs, u]
    have found : u.entry? rid = some e := entry
    refine ⟨_, e.satOutFor .late s.rhs.seconds, run, ?_, ?_, ?_, rfl, rfl, ?_⟩
    · simpa using late_stretch (s := u) rfl
    · have counted := count_bumpIf (c := .stretchOverrun) (s := late rid u) still (by simpa using full)
      simpa [State.count] using counted
    · exact entry?_settle_late (s := u) found state (by simp)
    · apply state_ext <;> simp [u]
  case ends =>
    intro s ev e on running driven entry evaluating
    have run : exec .evaluationEnd s = .next (settle (endEvaluation ev.view { s with ofe.evaluation := none })) := by
      simp [exec, execEvaluationEnd, running, on]
    refine ⟨_, run, ?_⟩
    have found : ({ s with ofe.evaluation := none } : State).entry? ev.view.rid = some e := entry
    simp only [endEvaluation, found, evaluating, ne_eq, not_true_eq_false, if_false, (settle_frame _).2.1]
    split
    · simp [closeStretch, driven]
    · simp [closeStretch, settleCandidate_stretch, driven]
  case frames =>
    intro s rid rid' chosen slot driven
    have silent := receiving_eq_false_of_stretch driven
    refine ⟨?_, ?_, ?_⟩
    · exact congrArg Host.Outcome.next (receiveGood_of_not_receiving _ silent)
    · exact congrArg Host.Outcome.next (receiveGood_of_not_receiving _ silent)
    · exact congrArg Host.Outcome.next (receiveGood_of_not_receiving _ silent)

/-! ### The line hold (O29) -/

theorem settle_figures (s : State) : (settle s).pln.wanted = s.pln.wanted ∧ (settle s).pln.urgent = s.pln.urgent := by
  rw [settle_pln, beginPass_pln]
  split <;> exact ⟨rfl, rfl⟩

/-- A pause that begins zeroes every setpoint and asks for a pass; one that runs changes nothing (R44, R92). -/
theorem beginPause_of_paused {s : State} (h : s.lif.linePause = true) : beginPause s = s := by
  simp [beginPause, h]

theorem beginPause_of_charging {s : State} (h : s.lif.linePause = false) :
    beginPause s = setReplan (zeroAllSetpoints { s with lif.linePause := true }) := by
  simp [beginPause, h]

theorem clearRegister_lossPending {s : State} (h : s.lif.lossPending = false) :
    (clearRegister s).lif.lossPending = false := by
  unfold clearRegister
  split
  · exact h
  · rfl

theorem offerTried_lossPending {rid : ReqId} {s : State} (h : s.lif.lossPending = false) :
    (offerTried rid s).lif.lossPending = false := by
  unfold offerTried
  split
  · exact h
  · split
    · exact clearRegister_lossPending h
    · exact h

/-- A report that was due has been made (R35). -/
@[simp] theorem reportLoss_lossPending (w : ReqId → Option Winner) (s : State) :
    (reportLoss w s).lif.lossPending = false := by
  unfold reportLoss
  split
  · dsimp only
    split
    · rfl
    · split
      · unfold offerBeaten
        split
        · rfl
        · exact clearRegister_lossPending rfl
      · exact offerTried_lossPending rfl
  · next quiet => simpa using quiet

/-- Settles O29. -/
theorem lineHoldPausesCharging : Obligations.LineHoldPausesCharging := by
  refine ⟨?begins, ?counts, ?ends, ?expiry⟩
  case begins =>
    intro s noisy later runs free still quiet unreported
    have idle : failTransmission (countHold noisy later s) = countHold noisy later s :=
      failTransmission_of_idle (by simpa using quiet)
    have made : reportLoss unidentified (countHold noisy later s) = countHold noisy later s :=
      reportLoss_of_none _ (by simpa using unreported)
    have run := exec_lineHoldStart (noisy := noisy) (later := later) runs free still
    rw [idle, made] at run
    refine ⟨_, run, ?_, ?_, fun charging => ⟨?_, fun works => ?_⟩, fun paused => ?_, by simp, ?_, ?_, ?_⟩
    · simp [beginPause_lif, toHold]
    · simp [countHold, quiet]
    · rw [beginPause_of_charging (by simpa [toHold] using charging)]
      intro sl mem
      obtain ⟨x, -, rfl⟩ := List.mem_map.1 (by simpa [zeroAllSetpoints] using mem)
      rfl
    · apply settle_pass_isSome (by simpa [operates] using works)
      rw [beginPause_of_charging (by simpa [toHold] using charging)]
      exact .inl rfl
    · rw [beginPause_of_paused (by simpa [toHold] using paused)]
      simp
    · rw [(settle_figures _).1]
      unfold beginPause
      split <;> simp
    · rw [(settle_figures _).2]
      unfold beginPause
      split <;> simp
    · apply state_ext <;> simp
  case counts =>
    intro s noisy later runs free still inFrame
    refine ⟨_, exec_lineHoldStart runs free still, ?_, ?_, ?_, ?_, ?_⟩
    · simp [beginPause_lif, toHold]
    · simp [beginPause_lif]
    · simp [beginPause_lif, toHold]
    · simp [beginPause_lif, toHold]
    · simp [countHold, inFrame]
  case ends =>
    intro s runs held
    simp [exec, execLineHoldEnd, runs, held]
  case expiry =>
    intro s runs timer
    simp [exec, execPauseTimerExpiry, runs, timer, setReplan]

end Sys2Proof.Machine
end

section
/-! No block looks at the receive buffer while it takes a frame, so that a frame that comes to an empty buffer is simply
taken (R36, R37): each operation behind `takeFrame` commutes with the buffer's contents. -/

namespace Sys2Proof.Machine

open Sys2Proof

/-- The state with these frames in the receive buffer. -/
def State.holding (b : List RxFrame) (s : State) : State := { s with lif.rxBuf := b }

variable (b : List RxFrame) (s : State)

/-! ### What operations read of a state with frames held -/

@[simp] theorem holding_core : (s.holding b).core = s.core := rfl
@[simp] theorem holding_slots : (s.holding b).slots = s.slots := rfl
@[simp] theorem holding_alw : (s.holding b).alw = s.alw := rfl
@[simp] theorem holding_pln : (s.holding b).pln = s.pln := rfl
@[simp] theorem holding_ofe : (s.holding b).ofe = s.ofe := rfl
@[simp] theorem holding_seq : (s.holding b).seq = s.seq := rfl
@[simp] theorem holding_rhs : (s.holding b).rhs = s.rhs := rfl
@[simp] theorem holding_sul : (s.holding b).sul = s.sul := rfl
@[simp] theorem holding_queue : (s.holding b).lif.queue = s.lif.queue := rfl
@[simp] theorem holding_register : (s.holding b).lif.register = s.lif.register := rfl
@[simp] theorem holding_tx : (s.holding b).lif.tx = s.lif.tx := rfl
@[simp] theorem holding_entry? (rid : ReqId) : (s.holding b).entry? rid = s.entry? rid := rfl
@[simp] theorem holding_slot? (n : Nat) : (s.holding b).slot? n = s.slot? n := rfl
@[simp] theorem holding_newestStatus : newestStatus (s.holding b).lif = newestStatus s.lif := rfl
@[simp] theorem holding_dockSlot : dockSlot (s.holding b) = dockSlot s := rfl
@[simp] theorem holding_recheck (e : Entry) (o : OwnOffer) : recheck e o (s.holding b) = recheck e o s := rfl
@[simp] theorem holding_grantNow : grantNow (s.holding b) = grantNow s := rfl
@[simp] theorem holding_statusFrame (n : BitVec 4) (i j : Byte) :
    statusFrame n i j (s.holding b) = statusFrame n i j s := rfl

/-! ### Plain writes -/

@[simp] theorem holding_bump (c : Counter) : bump c (s.holding b) = (bump c s).holding b := rfl
@[simp] theorem holding_setReplan : setReplan (s.holding b) = (setReplan s).holding b := rfl
@[simp] theorem holding_closeStretch (rid : ReqId) :
    closeStretch rid (s.holding b) = (closeStretch rid s).holding b := rfl
@[simp] theorem holding_barRequest (rid : ReqId) : barRequest rid (s.holding b) = (barRequest rid s).holding b := rfl
@[simp] theorem holding_modEntry (rid : ReqId) (f : Entry → Entry) :
    modEntry rid f (s.holding b) = (modEntry rid f s).holding b := rfl
@[simp] theorem holding_removeRecord (rid : ReqId) :
    removeRecord rid (s.holding b) = (removeRecord rid s).holding b := rfl
@[simp] theorem holding_setRole (n : Nat) (r : Role) (rid : Option ReqId) :
    setRole n r rid (s.holding b) = (setRole n r rid s).holding b := rfl
@[simp] theorem holding_setLatch (n : Nat) (u : Bool) : setLatch n u (s.holding b) = (setLatch n u s).holding b := rfl
@[simp] theorem holding_clearSwap : clearSwap (s.holding b) = (clearSwap s).holding b := rfl
@[simp] theorem holding_renumberQueue : renumberQueue (s.holding b) = (renumberQueue s).holding b := rfl

/-! ### The queue, the register and the roles -/

@[simp] theorem holding_enqueue (f : TxFrame) : enqueue f (s.holding b) = (enqueue f s).holding b := by
  unfold enqueue
  rw [holding_queue, holding_newestStatus]
  split
  · rfl
  · split
    · rfl
    · split
      · split <;> rfl
      · rfl

@[simp] theorem holding_decline (rid : ReqId) (r : DeclineReason) :
    decline rid r (s.holding b) = (decline rid r s).holding b := by simp [decline]

@[simp] theorem holding_close (rid : ReqId) (o : Outcome) (a : Option AbortReason) (x y : Option Word) :
    close rid o a x y (s.holding b) = (close rid o a x y s).holding b := by
  cases a <;> simp [close, bumpClose]

@[simp] theorem holding_clearRegister : clearRegister (s.holding b) = (clearRegister s).holding b := by
  unfold clearRegister
  rw [holding_register, holding_tx]
  split <;> rfl

@[simp] theorem holding_freeRole (n : Nat) (r : Role) (rid : ReqId) :
    freeRole n r rid (s.holding b) = (freeRole n r rid s).holding b := by
  unfold freeRole
  rw [holding_slot?]
  split
  · split <;> rfl
  · rfl

@[simp] theorem holding_syncRecord (rid : ReqId) : syncRecord rid (s.holding b) = (syncRecord rid s).holding b := by
  unfold syncRecord
  rw [holding_entry?]
  split <;> rfl

@[simp] theorem holding_freePledge (e : Entry) : freePledge e (s.holding b) = (freePledge e s).holding b := by
  unfold freePledge
  split
  · simp
  · rfl

/-! ### The blocks' takings -/

@[simp] theorem holding_recomputeGrant : recomputeGrant (s.holding b) = (recomputeGrant s).holding b := by
  unfold recomputeGrant
  rw [holding_grantNow, holding_alw]
  split <;> rfl

@[simp] theorem holding_takeDemand (n : BitVec 4) (p : Peer) :
    takeDemand n p (s.holding b) = (takeDemand n p s).holding b := by
  unfold takeDemand
  rw [holding_sul]
  split
  · rfl
  · exact holding_recomputeGrant b { s with alw.peers := s.alw.peers.set n.toNat (some p) }

@[simp] theorem holding_recomputeAllowance : recomputeAllowance (s.holding b) = (recomputeAllowance s).holding b := by
  unfold recomputeAllowance
  dsimp only
  rw [holding_alw, holding_sul]
  split
  · rfl
  · exact holding_recomputeGrant b { s with alw.allowance := allowanceOf s.sul.cfg s.alw.meter }

@[simp] theorem holding_takeMeter (l m : Half) : takeMeter l m (s.holding b) = (takeMeter l m s).holding b :=
  holding_recomputeAllowance b
    { s with alw.meter := ⟨l.toNat * 10, m.toNat * 10, s.rhs.seconds, true⟩, alw.freshTimer := some 3000 }

@[simp] theorem holding_enterRequest (e : Entry) : enterRequest e (s.holding b) = (enterRequest e s).holding b := by
  unfold enterRequest
  rw [holding_ofe]
  split
  · rfl
  · split <;> rfl

@[simp] theorem holding_takeRequest (n : BitVec 4) (rid : ReqId) (x0 x1 x2 x3 x4 : Byte) :
    takeRequest n rid x0 x1 x2 x3 x4 (s.holding b) = (takeRequest n rid x0 x1 x2 x3 x4 s).holding b := by
  have renew : ∀ e, enterOrRenew e (s.holding b) = (enterOrRenew e s).holding b := by
    intro e
    unfold enterOrRenew
    rw [holding_entry?]
    split
    · simp
    · split <;> rfl
  unfold takeRequest
  split
  · split
    · exact renew _
    · rfl
  · rfl

@[simp] theorem holding_takeOffer (n : BitVec 4) (c : Byte) (rid : ReqId) (x : Byte) :
    takeOffer n c rid x (s.holding b) = (takeOffer n c rid x s).holding b := by
  unfold takeOffer
  dsimp only
  rw [holding_entry?]
  split
  · rfl
  · split
    · rfl
    · split
      case h_4 => simp
      all_goals rfl

@[simp] theorem holding_makeHold (rid : ReqId) (e : Entry) (n : Nat) :
    makeHold rid e n (s.holding b) = (makeHold rid e n s).holding b :=
  holding_syncRecord b (modEntry rid (Entry.held n (holdDeadline e.eta s)) (setRole n .held (some rid) s)) rid

@[simp] theorem holding_takeAssign (rid : ReqId) (c : Byte) :
    takeAssign rid c (s.holding b) = (takeAssign rid c s).holding b := by
  have here : takeAssignHere rid (s.holding b) = (takeAssignHere rid s).holding b := by
    unfold takeAssignHere
    rw [holding_entry?]
    split
    · simp
    · split
      · simp
      · split
        · simp
        · rw [holding_recheck]
          split <;> simp
  have elsewhere : ∀ n, takeAssignElsewhere rid n (s.holding b) = (takeAssignElsewhere rid n s).holding b := by
    intro n
    unfold takeAssignElsewhere
    rw [holding_entry?]
    split
    · rfl
    · split <;> simp
  unfold takeAssign
  rw [here, elsewhere, holding_sul]
  split
  · rfl
  · split <;> rfl

@[simp] theorem holding_takeUpdate (rid : ReqId) (x : Byte) :
    takeUpdate rid x (s.holding b) = (takeUpdate rid x s).holding b := by
  unfold takeUpdate
  rw [holding_entry?]
  split
  · rfl
  · split <;> simp [holdDeadline]

/-! ### The sequencer -/

@[simp] theorem holding_writeProgress : writeProgress (s.holding b) = (writeProgress s).holding b := by
  unfold writeProgress
  rw [holding_seq]
  split <;> rfl

@[simp] theorem holding_holdAgain (rid : ReqId) : holdAgain rid (s.holding b) = (holdAgain rid s).holding b := by
  simp [holdAgain]

@[simp] theorem holding_openReturn (rid : ReqId) : openReturn rid (s.holding b) = (openReturn rid s).holding b := by
  unfold openReturn
  rw [holding_dockSlot]
  split
  · next d _ =>
    exact holding_writeProgress b (modSwap (fun w => { w with step := .returnOpen, dock := some d, resume := none })
      (startTimer .ret (s.sul.cfg.returnTimer * 1000) (setFocus (some d) (setLatch d true (setRole d .dock (some rid) s)))))
  · have back := holding_holdAgain b { s with seq.active := none, seq.timer := none, rhs.progress := none } rid
    exact (congrArg (decline rid .noDock) back).trans (holding_decline ..)

@[simp] theorem holding_startSwap (rid : ReqId) : startSwap rid (s.holding b) = (startSwap rid s).holding b := by
  unfold startSwap
  dsimp only
  rw [holding_seq, holding_entry?]
  split
  · exact holding_openReturn b (modEntry rid (fun e => { e with servePos := some .active }) { s with
      seq.active := some ⟨rid, .startingWait, none, ((s.entry? rid).bind (fun e => e.heldSlot)).getD 0, none, none, none,
        none⟩ }) rid
  · rfl

@[simp] theorem holding_runQueue (n : Nat) : runQueue n (s.holding b) = (runQueue n s).holding b := by
  induction n generalizing s with
  | zero => rfl
  | succ n ih =>
    unfold runQueue
    rw [holding_seq, holding_sul]
    split
    · rfl
    · next rid rest _ =>
      split
      · have started := holding_startSwap b (renumberQueue { s with seq.queue := rest }) rid
        exact (congrArg (runQueue n) started).trans (ih _)
      · rfl

@[simp] theorem holding_lookAtQueue : lookAtQueue (s.holding b) = (lookAtQueue s).holding b := by simp [lookAtQueue]

@[simp] theorem holding_endSwap (o : Outcome) (a : Option AbortReason) (k : EntryAfter) (w : Swap) :
    endSwap o a k w (s.holding b) = (endSwap o a k w s).holding b := by
  cases k <;> simp [endSwap, endServing]

@[simp] theorem holding_takeBegin (rid : ReqId) : takeBegin rid (s.holding b) = (takeBegin rid s).holding b := by
  unfold takeBegin
  rw [holding_entry?, holding_sul, holding_seq]
  split
  · simp
  · split
    · simp
    · split
      · simp
      · split
        · simp
        · split
          · simp
          · split
            · rfl
            · simp

@[simp] theorem holding_cancelServing (rid : ReqId) :
    cancelServing rid (s.holding b) = (cancelServing rid s).holding b := by
  unfold cancelServing
  rw [holding_entry?]
  split
  · rfl
  · split <;> simp

@[simp] theorem holding_endCancelled (w : Swap) : endCancelled w (s.holding b) = (endCancelled w s).holding b := by
  have dock : closeDock w { s.holding b with seq.timer := none } = (closeDock w { s with seq.timer := none }).holding b := by
    unfold closeDock
    split <;> rfl
  unfold endCancelled freeRelease
  rw [dock, holding_freeRole, holding_endSwap]

/-- A queued request's CANCEL (R160). -/
theorem holding_cancelQueued (rid : ReqId) : renumberQueue (cancelServing rid { s.holding b with
    seq.queue := s.seq.queue.filter (fun r => decide (r ≠ rid)) }) = (renumberQueue (cancelServing rid { s with
    seq.queue := s.seq.queue.filter (fun r => decide (r ≠ rid)) })).holding b :=
  congrArg renumberQueue
    (holding_cancelServing b { s with seq.queue := s.seq.queue.filter (fun r => decide (r ≠ rid)) } rid)

@[simp] theorem holding_cancelSwap (rid : ReqId) : cancelSwap rid (s.holding b) = (cancelSwap rid s).holding b := by
  have fresh : lookAtQueue (cancelServing rid { s.holding b with seq.active := none }) =
      (lookAtQueue (cancelServing rid { s with seq.active := none })).holding b :=
    (congrArg lookAtQueue (holding_cancelServing b { s with seq.active := none } rid)).trans (holding_lookAtQueue ..)
  unfold cancelSwap
  rw [holding_seq]
  split
  · split
    · split
      · split
        · exact fresh
        · simp
        · rfl
      · simp
      · rfl
    · split
      · exact holding_cancelQueued b s rid
      · rfl
  · split
    · exact holding_cancelQueued b s rid
    · rfl

@[simp] theorem holding_takeCancel (rid : ReqId) : takeCancel rid (s.holding b) = (takeCancel rid s).holding b := by
  unfold takeCancel
  rw [holding_entry?]
  split
  · rfl
  · split
    case h_5 => split <;> simp
    all_goals simp

/-- No block looks at the receive buffer while it takes a frame. -/
theorem holding_takeFrame (f : RxFrame) : takeFrame f (s.holding b) = (takeFrame f s).holding b := by
  unfold takeFrame
  split
  · simp [answerQuery]
  · rw [holding_sul]
    split
    · rfl
    · split
      case h_5 =>
        unfold takeBeginFrame
        rw [holding_sul]
        split <;> simp
      all_goals simp

/-! ### A frame that comes to an empty buffer -/

/-- The contest point that a frame marks (R41). -/
def marked (f : RxFrame) (s : State) : State := { s with lif.mark := markOf f s.lif.mark }

theorem marked_of_noRequest {f : RxFrame} {s : State} (h : markOf f s.lif.mark = s.lif.mark) : marked f s = s := by
  simp [marked, h]

/-- A frame that comes to an empty buffer is taken, and leaves nothing behind (R36, R37). -/
theorem deliver_taken (f : RxFrame) {s : State} (h : s.lif.rxBuf = []) : deliver f s = takeFrame f (marked f s) := by
  have stored : storeFrame f s = (marked f s).holding [f] := by
    rw [storeFrame_of_empty f h]
    rfl
  have empty : marked f s = (marked f s).holding [] := by
    simp only [State.holding, marked, ← h]
  have left : dropHead ((takeFrame f (marked f s)).holding [f]) = (takeFrame f (marked f s)).holding [] := rfl
  rw [deliver_of_empty f h, stored, holding_takeFrame, left, ← holding_takeFrame, ← empty]

/-- A frame row with nothing left of an earlier frame, for a frame that names this station: LIF is in SPACE, the frame's
owner takes it, and what is due begins (R28, R30, R36, R37). -/
theorem receiveGood_taken {f : RxFrame} {s : State} (h : FrameMayEnd s) (here : targeted s f.target = true) :
    receiveGood f s = settle (takeFrame f (marked f (toSpace s))) := by
  obtain ⟨receives, quiet, empty⟩ := h
  rw [receiveGood_of_receiving f receives quiet, if_pos here, deliver_taken f (by simpa [toSpace] using empty)]

theorem targeted_all (s : State) : targeted s toAll = true := by simp [targeted]

end Sys2Proof.Machine
end

section
/-! Proof of the statement about a lost OFFER's report (O26). -/

namespace Sys2Proof.Machine

open Sys2Proof

/-! ### Events that leave the OFFER alone -/

/-- No evaluation is due at the end of the event. -/
def EvaluationNotDue (s : State) : Prop :=
  operates s = true → s.ofe.evaluation = none → ∀ e ∈ s.ofe.book, e.state ≠ .heard

theorem evaluationNotDue_of_nothingDue {s : State} (h : NothingDue s) : EvaluationNotDue s := fun runs => (h runs).2.1

theorem settle_ofe_of_notDue {s : State} (h : EvaluationNotDue s) : (settle s).ofe = s.ofe := by
  rw [settle_ofe, beginEvaluation_of_nothing]
  cases runs : operates s with
  | false => exact .inl rfl
  | true =>
    cases evaluation : s.ofe.evaluation with
    | some ev => exact .inr (.inl rfl)
    | none => exact .inr (.inr (h runs evaluation))

/-- Entries rewritten without becoming HEARD make no evaluation due. -/
theorem evaluationNotDue_modEntry {rid : ReqId} {f : Entry → Entry} {s : State} (h : EvaluationNotDue s)
    (keeps : ∀ e, e.state ≠ .heard → (f e).state ≠ .heard) : EvaluationNotDue (modEntry rid f s) := by
  intro runs idle e mem
  obtain ⟨x, hx, rfl⟩ := List.mem_map.1 mem
  have quiet := h runs idle x hx
  split
  · exact keeps x quiet
  · exact quiet

theorem notHeard_modEntry_other {rid r : ReqId} {f : Entry → Entry} {s : State} (ids : ∀ e, (f e).rid = e.rid)
    (keeps : ∀ e, e.state ≠ .heard → (f e).state ≠ .heard) (h : NotHeard rid s) : NotHeard rid (modEntry r f s) := by
  intro e mem same
  obtain ⟨x, hx, rfl⟩ := List.mem_map.1 mem
  have own : x.rid = rid := by
    rw [← same]
    split
    · exact (ids x).symm
    · rfl
  split
  · exact keeps x (h x hx own)
  · exact h x hx own

/-- From `s` to `t` the register, its pending report, the transmission and the entry of request `rid` stay as they are,
and no evaluation becomes due. -/
structure OfferStands (rid : ReqId) (s t : State) : Prop where
  register : t.lif.register = s.lif.register
  lossPending : t.lif.lossPending = s.lif.lossPending
  tx : t.lif.tx = s.lif.tx
  entry : t.entry? rid = s.entry? rid
  due : EvaluationNotDue s → EvaluationNotDue t
  unheard : NotHeard rid s → NotHeard rid t

section
variable {rid : ReqId} {s t u : State}

theorem OfferStands.trans (h : OfferStands rid s t) (k : OfferStands rid t u) : OfferStands rid s u :=
  ⟨k.register.trans h.register, k.lossPending.trans h.lossPending, k.tx.trans h.tx, k.entry.trans h.entry, k.due ∘ h.due,
    k.unheard ∘ h.unheard⟩

/-- An event that writes neither the register nor the book leaves the OFFER alone. -/
theorem offerStands_of_ofe (register : t.lif.register = s.lif.register) (lossPending : t.lif.lossPending = s.lif.lossPending)
    (tx : t.lif.tx = s.lif.tx) (ofe : t.ofe = s.ofe) (runs : operates t = operates s) : OfferStands rid s t :=
  ⟨register, lossPending, tx, entry?_congr (by rw [ofe]) rid, by simp only [EvaluationNotDue, runs, ofe]; exact id,
    notHeard_congr (by rw [ofe])⟩

theorem offerStands_refl : OfferStands rid s s := offerStands_of_ofe rfl rfl rfl rfl rfl

/-- What begins at the end of an event leaves an entry as it is where no evaluation is due. -/
theorem offerStands_settle (h : EvaluationNotDue s) : OfferStands rid s (settle s) :=
  offerStands_of_ofe (by simp) (by simp) (by simp) (settle_ofe_of_notDue h) (by simp)

theorem offerStands_enqueue (f : TxFrame) : OfferStands rid s (enqueue f s) := by
  have lif := enqueue_line f s
  exact offerStands_of_ofe (by rw [lif]) (by rw [lif]) (by rw [lif]) (by simp) (operates_congr (by simp) (by simp))

/-! ### A try (R131) -/

/-- A try has been reported for the OFFER `r` of the entry `e`: below three tries it waits in the register again, at the
third its entry has sat out and the register is empty. -/
def OfferTried (r : Register) (e : Entry) (t : State) : Prop :=
  t.lif.lossPending = false ∧ t.lif.tx = none ∧
    (e.tries < 2 → t.lif.register = some r ∧ t.entry? r.rid = some { e with tries := e.tries + 1 }) ∧
    (2 ≤ e.tries → t.lif.register = none ∧ ∃ e', t.entry? r.rid = some e' ∧ e'.state = .satOut ∧ e'.satOut = some .lost)

theorem OfferTried.stands {r : Register} {e : Entry} (h : OfferTried r e s) (k : OfferStands r.rid s t) :
    OfferTried r e t := by
  unfold OfferTried
  rw [k.register, k.lossPending, k.tx, k.entry]
  exact h

theorem offerTried_again {r : Register} {e : Entry} (entry : s.entry? r.rid = some e) (contends : e.state = .contending)
    (early : e.tries < 2) : offerTried r.rid s = modEntry r.rid (fun x => { x with tries := x.tries + 1 }) s := by
  have more : ¬ 3 ≤ e.tries + 1 := by omega
  simp [offerTried, contender_eq_some entry contends, more]

theorem offerTried_last {r : Register} {e : Entry} (entry : s.entry? r.rid = some e) (contends : e.state = .contending)
    (third : 2 ≤ e.tries) (quiet : s.lif.tx = none) : offerTried r.rid s =
      { modEntry r.rid (Entry.satOutFor .lost s.rhs.seconds) s with lif.register := none, lif.lossPending := false } := by
  have more : 3 ≤ e.tries + 1 := by omega
  simp [offerTried, contender_eq_some entry contends, more, clearRegister, registerInTransmission, quiet]

/-- The report of a try is a try, and makes no evaluation due (R131). -/
theorem offerTried_tried {r : Register} {e : Entry} (entry : s.entry? r.rid = some e) (contends : e.state = .contending)
    (held : s.lif.register = some r) (quiet : s.lif.tx = none) (reported : s.lif.lossPending = false)
    (due : EvaluationNotDue s) : OfferTried r e (offerTried r.rid s) ∧ EvaluationNotDue (offerTried r.rid s) := by
  rcases Nat.lt_or_ge e.tries 2 with early | third
  · rw [offerTried_again entry contends early]
    refine ⟨⟨reported, quiet, fun _ => ⟨held, ?_⟩, fun third => absurd early (by omega)⟩,
      evaluationNotDue_modEntry due (fun _ h => h)⟩
    rw [entry?_modEntry_same (f := fun x => { x with tries := x.tries + 1 }) (fun _ => rfl), entry]
    rfl
  · rw [offerTried_last entry contends third quiet]
    refine ⟨⟨rfl, quiet, fun early => absurd early (by omega), fun _ => ⟨rfl, e.satOutFor .lost s.rhs.seconds, ?_, rfl,
      rfl⟩⟩, evaluationNotDue_modEntry due (fun _ _ => by simp [state_satOutFor])⟩
    show (modEntry r.rid (Entry.satOutFor .lost s.rhs.seconds) s).entry? r.rid = _
    rw [entry?_modEntry_same (rid_satOutFor _ _), entry]
    rfl

theorem reportLoss_unnamed {r : Register} {w : ReqId → Option Winner} (held : s.lif.register = some r)
    (waits : s.lif.lossPending = true) (unnamed : w r.rid = none) :
    reportLoss w s = offerTried r.rid { s with lif.lossPending := false } := by
  simp [reportLoss, waits, held, unnamed]

/-- A loss that waited is reported as a try, where the winning frame names no winner (R131). -/
theorem reportLoss_tried {r : Register} {e : Entry} {w : ReqId → Option Winner} (entry : s.entry? r.rid = some e)
    (contends : e.state = .contending) (held : s.lif.register = some r) (quiet : s.lif.tx = none)
    (waits : s.lif.lossPending = true) (due : EvaluationNotDue s) (unnamed : w r.rid = none) :
    OfferTried r e (reportLoss w s) ∧ EvaluationNotDue (reportLoss w s) := by
  rw [reportLoss_unnamed held waits unnamed]
  exact offerTried_tried (s := { s with lif.lossPending := false }) entry contends held quiet rfl due

/-- The end of an event after a try has been reported, whatever else the event does beside the OFFER. -/
theorem tried_at_end {r : Register} {e : Entry} {c : Instr} {s0 : State} (run : exec c s0 = .next (settle t))
    (h : OfferTried r e s ∧ EvaluationNotDue s) (k : OfferStands r.rid s t) :
    ∃ v, exec c s0 = .next v ∧ v.lif.lossPending = false ∧ v.lif.tx = none ∧
      (e.tries < 2 → v.lif.register = some r ∧ v.entry? r.rid = some { e with tries := e.tries + 1 }) ∧
      (2 ≤ e.tries → v.lif.register = none ∧
        ∃ e', v.entry? r.rid = some e' ∧ e'.state = .satOut ∧ e'.satOut = some .lost) :=
  ⟨_, run, h.1.stands (k.trans (offerStands_settle (k.due h.2)))⟩

theorem offerStands_toSpace : OfferStands rid s (toSpace s) := offerStands_of_ofe rfl rfl rfl rfl rfl

theorem offerStands_bump (c : Counter) : OfferStands rid s (bump c s) := offerStands_of_ofe rfl rfl rfl rfl rfl

theorem offerStands_bumpIf (b : Bool) (c : Counter) : OfferStands rid s (bumpIf b c s) := by
  cases b
  · exact offerStands_refl
  · exact offerStands_bump c

theorem offerStands_beginPause_toHold : OfferStands rid s (beginPause (toHold s)) := by
  have lif := beginPause_lif (toHold s)
  exact offerStands_of_ofe (by rw [lif]; rfl) (by rw [lif]; rfl) (by rw [lif]; rfl) (by simp)
    (operates_congr (by simp) (by simp))

theorem offerStands_countHold (a b : Bool) : OfferStands rid s (countHold a b s) :=
  (offerStands_bumpIf _ _).trans (offerStands_bumpIf _ _)

/-! ### Frames that are no OFFER for the request -/

/-- A frame of another kind than these leaves the OFFER alone. -/
theorem offerStands_takeFrame {f : RxFrame} (h : (∃ w u g r0 r1 r2 r3 em sc, f.msg = .demand w u g r0 r1 r2 r3 em sc) ∨
    (∃ l m, f.msg = .meter l m) ∨ (∃ i j, f.msg = .query i j) ∨ (∃ k d, f.msg = .untaken k d)) :
    OfferStands rid s (takeFrame f s) := by
  obtain ⟨w, u, g, r0, r1, r2, r3, em, sc, msg⟩ | ⟨l, m, msg⟩ | ⟨i, j, msg⟩ | ⟨k, d, msg⟩ := h
  · simp only [takeFrame, msg]
    split
    · exact offerStands_refl
    · exact offerStands_of_ofe (by simp) (by simp) (by simp) (by simp) (operates_congr (by simp) (by simp))
  · simp only [takeFrame, msg]
    split
    · exact offerStands_refl
    · exact offerStands_of_ofe (by simp) (by simp) (by simp) (by simp) (operates_congr (by simp) (by simp))
  · simp only [takeFrame, msg]
    exact offerStands_enqueue _
  · simp only [takeFrame, msg, ite_self]
    exact offerStands_refl

/-- A foreign OFFER for another request, whose entry does not contend, leaves the OFFER alone (R134). -/
theorem offerStands_takeOffer {n : BitVec 4} {c : Byte} {r : ReqId} {x : Byte} (apart : rid ≠ r)
    (other : ∀ e, s.entry? r = some e → e.state ≠ .contending) : OfferStands rid s (takeOffer n c r x s) := by
  unfold takeOffer
  split
  · exact offerStands_bump _
  · dsimp only
    split
    · exact offerStands_refl
    · next e entry =>
      split
      case h_4 contends => exact absurd contends (other e entry)
      case h_1 | h_2 | h_3 => exact offerStands_refl
      case h_5 =>
        exact ⟨rfl, rfl, rfl, entry?_modEntry_other (f := Entry.noteWinner ⟨n, some x.toNat⟩) (fun _ => rfl) apart s,
          fun due => evaluationNotDue_modEntry due (fun _ h => h), notHeard_modEntry_other (fun _ => rfl) (fun _ h => h)⟩

theorem offerStands_marked (f : RxFrame) : OfferStands rid s (marked f s) := offerStands_of_ofe rfl rfl rfl rfl rfl

/-- A foreign OFFER for a BEATEN entry whose winner is recorded changes nothing of it (R134). -/
theorem offerStands_takeOffer_beaten {n : BitVec 4} {c x : Byte} {e : Entry} (entry : s.entry? rid = some e)
    (beaten : e.state = .beaten) (named : e.winner.isSome = true) : OfferStands rid s (takeOffer n c rid x s) := by
  unfold takeOffer
  split
  · exact offerStands_bump _
  · simp only [entry, beaten]
    have noted : Entry.noteWinner ⟨n, some x.toNat⟩ e = e := by simp [Entry.noteWinner, named]
    refine ⟨rfl, rfl, rfl, ?_, fun due => evaluationNotDue_modEntry due (fun _ h => h),
      notHeard_modEntry_other (fun _ => rfl) (fun _ h => h)⟩
    rw [entry?_modEntry_same (f := Entry.noteWinner ⟨n, some x.toNat⟩) (fun _ => rfl), entry, Option.map_some, noted]

theorem takeOffer_cond (n : BitVec 4) (c : Byte) (r : ReqId) (x : Byte) (s : State) :
    (takeOffer n c r x s).lif.cond = s.lif.cond := by
  have cleared : ∀ u, (clearRegister u).lif.cond = u.lif.cond := by
    intro u
    show (clearRegister u).lif.bare.cond = u.lif.bare.cond
    rw [clearRegister_bare]
  unfold takeOffer
  split
  · rfl
  · dsimp only
    split
    · rfl
    · split
      case h_4 => rw [cleared, modEntry_lif]
      all_goals rfl

theorem takeFrame_offer (n : BitVec 4) (c target : Byte) (r : ReqId) (slot x : Byte) (m k : Half) (w : Word) (s : State) :
    takeFrame ⟨n, c, target, .offer r slot x m k w⟩ s =
      if s.sul.state = .haltedConfig then s else takeOffer n c r x s := rfl

/-- A delivered OFFER is taken, or in HALTED_CONFIG dropped (R37, R134). -/
theorem deliver_offer {n : BitVec 4} {c target : Byte} {r : ReqId} {slot x : Byte} {m k : Half} {w : Word}
    (empty : s.lif.rxBuf = []) : deliver ⟨n, c, target, .offer r slot x m k w⟩ s =
      if s.sul.state = .haltedConfig then s else takeOffer n c r x s := by
  rw [deliver_taken _ empty, marked_of_noRequest rfl, takeFrame_offer]

/-- A received frame leaves the OFFER alone where the frame that its owner takes does. -/
theorem offerStands_handleFrame {f : LineFrame} (taken : ∀ k, f.crcGood = true → targeted s f.target = true →
      Kind.ofCode f.kindCode = some k → k.sizeFits f.data.length = true →
      OfferStands rid s (deliver ⟨f.source, f.contest, f.target, message k f.data⟩ s)) :
    OfferStands rid s (handleFrame f s) := by
  cases good : f.crcGood with
  | false =>
    rw [handleFrame_badCrc s good]
    exact offerStands_bump _
  | true =>
    cases here : targeted s f.target with
    | false =>
      rw [handleFrame_elsewhere good here]
      exact offerStands_refl
    | true =>
      cases known : Kind.ofCode f.kindCode with
      | none =>
        rw [handleFrame_unknown good here known]
        exact offerStands_bump _
      | some k =>
        rw [handleFrame_known good here known]
        split
        · next fits => exact taken k good here known fits
        · exact offerStands_bump _

end

/-! ### The report of a winning frame -/

theorem exec_frameReceived_reporting {cells : List Cell} {chars : List Byte} {s : State}
    (read : readFrame (cells.map cellValue) = some chars) (receives : receiving s = true) :
    exec (.frameReceived cells) s = .next (settle (handleFrame (lineFrame chars) (reportLoss
      (fun rid => winnerIn rid (lineFrame chars)) (toSpace (bumpIf (cells.any cellNoisy) .noisy s))))) := by
  have taken : takesCells (lineFrame chars) s = true := by simp [takesCells, receives]
  show Host.Outcome.next _ = _
  rw [read]
  simp only [taken, if_true]

/-- An entry that is BEATEN by a winner (R130). -/
def Entry.beatenBy (w : Winner) (now : Word) (e : Entry) : Entry := { Entry.ended .beaten now e with winner := some w }

theorem offerBeaten_eq {s : State} {rid : ReqId} {e : Entry} {w : Winner} (entry : s.entry? rid = some e)
    (contends : e.state = .contending) (quiet : s.lif.tx = none) : offerBeaten rid w s =
      { modEntry rid (Entry.beatenBy w s.rhs.seconds) s with lif.register := none, lif.lossPending := false } := by
  simp only [offerBeaten, contender_eq_some entry contends, clearRegister, modEntry_lif, registerInTransmission, quiet,
    Bool.and_false, Bool.false_eq_true, if_false]
  rfl

/-- The report of a loss to the same request's OFFER (R35, R130). -/
theorem reportLoss_beaten {s : State} {r : Register} {e : Entry} {f : ReqId → Option Winner} {w : Winner}
    (entry : s.entry? r.rid = some e) (contends : e.state = .contending) (held : s.lif.register = some r)
    (quiet : s.lif.tx = none) (waits : s.lif.lossPending = true) (named : f r.rid = some w) : reportLoss f s =
      { modEntry r.rid (Entry.beatenBy w s.rhs.seconds) s with lif.register := none, lif.lossPending := false } := by
  have report : reportLoss f s = offerBeaten r.rid w { s with lif.lossPending := false } := by
    simp [reportLoss, waits, held, named]
  rw [report, offerBeaten_eq (s := { s with lif.lossPending := false }) entry contends quiet]
  rfl

theorem entry?_reportLoss_beaten {s t : State} {rid : ReqId} {e : Entry} {w : Winner} (entry : s.entry? rid = some e)
    (ofe : t.ofe = (modEntry rid (Entry.beatenBy w s.rhs.seconds) s).ofe) :
    t.entry? rid = some (Entry.beatenBy w s.rhs.seconds e) ∧ NotHeard rid t := by
  refine ⟨?_, notHeard_congr (by rw [ofe]) (notHeard_modEntry (f := Entry.beatenBy w s.rhs.seconds)
    (by simp [Entry.beatenBy, Entry.ended]))⟩
  have book : t.entry? rid = (modEntry rid (Entry.beatenBy w s.rhs.seconds) s).entry? rid := entry?_congr (by rw [ofe]) rid
  rw [book, entry?_modEntry_same (f := Entry.beatenBy w s.rhs.seconds) (fun _ => rfl), entry]
  rfl

theorem winnerIn_eq_none {rid : ReqId} {f : LineFrame} (h : ¬ (f.crcGood = true ∧ f.kindCode = 1#4 ∧ f.data.length = 12 ∧
    ridOfBytes (f.data.getD 0 0) (f.data.getD 1 0) = rid)) : winnerIn rid f = none := if_neg h

/-- A good OFFER frame, once its report is made, is dropped or taken (R28, R37, R134). -/
theorem handleFrame_of_offer {f : LineFrame} {s : State} (good : f.crcGood = true) (kind : f.kindCode = 1#4)
    (size : f.data.length = 12) (empty : s.lif.rxBuf = []) : handleFrame f s = s ∨ handleFrame f s =
      takeOffer f.source f.contest (ridOfBytes (f.data.getD 0 0) (f.data.getD 1 0)) (f.data.getD 3 0) s := by
  cases here : targeted s f.target with
  | false => exact .inl (handleFrame_elsewhere good here)
  | true =>
    have known : Kind.ofCode f.kindCode = some .offer := by rw [kind]; rfl
    have fits : Kind.offer.sizeFits f.data.length = true := by simp [Kind.sizeFits, size]
    rw [handleFrame_known good here known, if_pos fits, message, deliver_offer empty]
    split
    · exact .inl rfl
    · exact .inr rfl

theorem reportLoss_entry?_other {s : State} {r : Register} {w : ReqId → Option Winner} {rid : ReqId}
    (held : s.lif.register = some r) (unnamed : w r.rid = none) (apart : rid ≠ r.rid) :
    (reportLoss w s).entry? rid = s.entry? rid := by
  unfold reportLoss
  split
  · simp only [held, unnamed, offerTried]
    split
    · rfl
    · split
      · have cleared : ∀ u, (clearRegister u).entry? rid = u.entry? rid := fun u => entry?_congr (by simp) rid
        rw [cleared]
        exact entry?_modEntry_other (rid_satOutFor _ _) apart _
      · exact entry?_modEntry_other (f := fun x => { x with tries := x.tries + 1 }) (fun _ => rfl) apart _
  · rfl

/-- Settles O26. -/
theorem lossToSameRequestBeats : Obligations.LossToSameRequestBeats := by
  refine ⟨?cells, ?row, ?others, ?tries⟩
  case cells =>
    intro s cells chars r e read receives waits empty held entry contends good kind size same
    have quiet := tx_of_listening (listening_of_receiving receives)
    let f := lineFrame chars
    let w : Winner := ⟨f.source, some (f.data.getD 3 0).toNat⟩
    let v : State := toSpace (bumpIf (cells.any cellNoisy) .noisy s)
    let u : State := { modEntry r.rid (Entry.beatenBy w s.rhs.seconds) v with
      lif.register := none, lif.lossPending := false }
    have found : v.entry? r.rid = some e := by
      rw [← entry]
      exact entry?_congr (by simp [v]) _
    have report : reportLoss (fun rid => winnerIn rid f) v = u := by
      rw [reportLoss_beaten found contends (by simpa [v, toSpace] using held) (by simpa [v, toSpace] using quiet)
        (by simpa [v, toSpace] using waits) (if_pos ⟨good, kind, size, same⟩)]
      simp [u, v, w]
    have run := exec_frameReceived_reporting read receives
    rw [show reportLoss (fun rid => winnerIn rid (lineFrame chars)) _ = u from report] at run
    have beaten : u.entry? r.rid = some (Entry.beatenBy w s.rhs.seconds e) ∧ NotHeard r.rid u := by
      simpa [v] using entry?_reportLoss_beaten (t := u) (w := w) found (by simp [u, v])
    have stands : OfferStands r.rid u (handleFrame f u) := by
      rcases handleFrame_of_offer (s := u) good kind size (by simpa [u, v, toSpace] using empty) with h | h
      · rw [h]
        exact offerStands_refl
      · rw [h, same]
        exact offerStands_takeOffer_beaten beaten.1 rfl rfl
    have frame : (handleFrame f u).slots = u.slots ∧ (handleFrame f u).alw = u.alw ∧ (handleFrame f u).seq = u.seq ∧
        (handleFrame f u).rhs = u.rhs := by
      rcases handleFrame_of_offer (s := u) good kind size (by simpa [u, v, toSpace] using empty) with h | h
      · rw [h]
        exact ⟨rfl, rfl, rfl, rfl⟩
      · rw [h]
        simp
    obtain ⟨slots, alw, seq, rhs⟩ := frame
    refine ⟨_, Entry.beatenBy w s.rhs.seconds e, run, ?_, ?_, ?_, rfl, rfl, ?_, ?_, ?_, ?_, ?_⟩
    · simpa using stands.register
    · simpa using stands.lossPending
    · rw [entry?_settle (stands.unheard beaten.2), stands.entry, beaten.1]
    · simpa [u, v] using slots
    · simpa [u, v] using alw
    · simpa [u, v] using seq
    · simpa [u, v] using rhs
    · simp [u, v]
  case row =>
    intro s r e source contest slot score minutes soc packId receives waits empty held entry contends
    have quiet := tx_of_listening (listening_of_receiving receives)
    let g : RxFrame := ⟨source, contest, toAll, .offer r.rid slot score minutes soc packId⟩
    let w : Winner := ⟨source, some score.toNat⟩
    let u : State := { modEntry r.rid (Entry.beatenBy w s.rhs.seconds) (toSpace s) with
      lif.register := none, lif.lossPending := false }
    have report : reportLoss g.winner (toSpace s) = u :=
      reportLoss_beaten (s := toSpace s) entry contends held quiet waits (if_pos rfl)
    have run : receiveGood g s = settle (deliver g u) := by
      simp only [receiveGood, receives, if_true, report]
      rw [if_pos (targeted_all s)]
    have beaten := entry?_reportLoss_beaten (s := toSpace s) (t := u) (w := w) entry rfl
    have taken : deliver g u = if u.sul.state = .haltedConfig then u else takeOffer source contest r.rid score u :=
      deliver_offer (s := u) empty
    have stands : OfferStands r.rid u (deliver g u) := by
      rw [taken]
      split
      · exact offerStands_refl
      · exact offerStands_takeOffer_beaten beaten.1 rfl rfl
    have space : (deliver g u).lif.cond = .space := by
      rw [taken]
      split
      · rfl
      · exact takeOffer_cond _ _ _ _ _
    refine ⟨_, Entry.beatenBy w s.rhs.seconds e, congrArg Host.Outcome.next run, ?_, ?_, ?_, ?_, rfl, rfl⟩
    · simpa using stands.register
    · simpa using stands.lossPending
    · simpa using space
    · rw [entry?_settle (stands.unheard beaten.2), stands.entry, beaten.1]
      rfl
  case others =>
    intro s cells chars r e read receives waits held entry contends f other reported
    have quiet := tx_of_listening (listening_of_receiving receives)
    let v : State := bumpIf (cells.any cellNoisy) .noisy (toSpace { s with lif.lossPending := false })
    have taken : receiving { s with
        lif.lossPending := false, lif.register := if e.tries < 2 then some r else none,
        ofe.book := s.ofe.book.map (fun x => if x.rid = r.rid then reported x else x) } = true := receives
    have report : reportLoss (fun rid => winnerIn rid f) (toSpace (bumpIf (cells.any cellNoisy) .noisy s)) =
        offerTried r.rid v := by
      have waiting : (toSpace (bumpIf (cells.any cellNoisy) .noisy s)).lif.lossPending = true := by
        simpa [toSpace] using waits
      have registered : (toSpace (bumpIf (cells.any cellNoisy) .noisy s)).lif.register = some r := by
        simpa [toSpace] using held
      rw [reportLoss_unnamed registered waiting (winnerIn_eq_none other)]
      show offerTried r.rid _ = offerTried r.rid (bumpIf (cells.any cellNoisy) .noisy _)
      cases cells.any cellNoisy <;> rfl
    have found : v.entry? r.rid = some e := by
      rw [← entry]
      exact entry?_congr (by simp [v]) _
    rw [exec_frameReceived_reporting read receives,
      exec_frameReceived read (by simp only [takesCells, taken, Bool.true_or]) rfl, report]
    congr 3
    rcases Nat.lt_or_ge e.tries 2 with early | third
    · rw [offerTried_again found contends early]
      apply state_ext
      case counters => exact bumpIf_counters_congr _ _ rfl
      all_goals simp [v, modEntry, early, reported, toSpace, held]
    · have late : ¬ e.tries < 2 := by omega
      rw [offerTried_last found contends third (by simpa [v, toSpace] using quiet)]
      apply state_ext
      case counters => exact bumpIf_counters_congr _ _ rfl
      all_goals simp [v, modEntry, late, reported, toSpace, Entry.satOutFor, Entry.ended]
  case tries =>
    intro s r e noisy later runs nothing held entry contends uncleared free still tried
    have due := evaluationNotDue_of_nothingDue nothing
    refine ⟨fun chars sends unreported => ?_, fun quiet waits => ?_⟩
    · have ends : ∀ u : State, OfferStands r.rid { s with lif.tx := none } u →
          OfferTried r e (offerTried r.rid u) ∧ EvaluationNotDue (offerTried r.rid u) := by
        intro u k
        exact offerTried_tried (k.entry.trans entry) contends (k.register.trans held) k.tx
          (k.lossPending.trans unreported) (k.due due)
      refine ⟨?_, ?_⟩
      · let u : State := { bump .framing s with lif.tx := none }
        have failed : failTransmission (bumpIf (noisy && s.lif.tx.isNone) .noisy (bump .framing s)) = offerTried r.rid u := by
          simp [failTransmission, sends, uncleared, held, bumpIf, u]
        have run := exec_framingError (noisy := noisy) runs free still
        rw [failed, reportLoss_of_none _ (s := toSpace (offerTried r.rid u))
          (offerTried_lossPending (s := u) unreported)] at run
        exact tried_at_end run (ends u (offerStands_of_ofe rfl rfl rfl rfl rfl)) offerStands_toSpace
      · let u : State := { countHold noisy later s with lif.tx := none }
        have failed : failTransmission (countHold noisy later s) = offerTried r.rid u := by
          simp [failTransmission, sends, uncleared, held, u]
        have run := exec_lineHoldStart (noisy := noisy) (later := later) runs free still
        rw [failed, reportLoss_of_none _ (s := offerTried r.rid u)
          (offerTried_lossPending (by simpa [u] using unreported))] at run
        exact tried_at_end run (ends u (offerStands_of_ofe (by simp [u]) (by simp [u]) rfl (by simp [u])
          (operates_congr (by simp [u]) (by simp [u])))) offerStands_beginPause_toHold
    · have ends : ∀ (w : ReqId → Option Winner) (u : State), w r.rid = none → OfferStands r.rid s u →
          OfferTried r e (reportLoss w u) ∧ EvaluationNotDue (reportLoss w u) := by
        intro w u unnamed k
        exact reportLoss_tried (k.entry.trans entry) contends (k.register.trans held) (k.tx.trans quiet)
          (k.lossPending.trans waits) (k.due due) unnamed
      refine ⟨?_, ?_, fun whole => ?_, fun passed => ?_, fun receives empty => ⟨fun load total => ?_, ?_⟩⟩
      · have run := exec_framingError (noisy := noisy) runs free still
        rw [failTransmission_of_idle (by simpa using quiet)] at run
        exact tried_at_end run (ends _ _ rfl (((offerStands_bump _).trans (offerStands_bumpIf _ _)).trans
          offerStands_toSpace)) offerStands_refl
      · have run := exec_lineHoldStart (noisy := noisy) (later := later) runs free still
        rw [failTransmission_of_idle (by simpa using quiet)] at run
        exact tried_at_end run (ends _ _ rfl (offerStands_countHold _ _)) offerStands_beginPause_toHold
      · have listens : listening s = true := by simp [listening, runs, quiet, free, still, whole]
        exact tried_at_end (exec_truncated listens) (ends _ _ rfl (((offerStands_bump _).trans
          (offerStands_bumpIf _ _)).trans offerStands_toSpace)) offerStands_refl
      · exact tried_at_end (exec_malformedFrameEnd runs passed)
          (ends _ _ rfl ((offerStands_bumpIf _ _).trans offerStands_toSpace)) offerStands_refl
      · let g : RxFrame := frameToAll 0 .meter (.meter load total)
        have run : receiveGood g s = settle (deliver g (reportLoss g.winner (toSpace s))) := by
          have here : targeted s g.target = true := targeted_all s
          simp only [receiveGood, receives, here, if_true]
        refine tried_at_end (congrArg Host.Outcome.next run) (ends g.winner _ rfl offerStands_toSpace) ?_
        rw [deliver_taken g (by simpa [reportLoss_rxBuf, toSpace] using empty)]
        exact (offerStands_marked g).trans (offerStands_takeFrame (.inr (.inl ⟨_, _, rfl⟩)))
      · intro cells chars read f rid
        let u : State := reportLoss (fun x => winnerIn x f) (toSpace (bumpIf (cells.any cellNoisy) .noisy s))
        have run : exec (.frameReceived cells) s = .next (settle (handleFrame f u)) :=
          exec_frameReceived_reporting read receives
        have rest : u.lif.rxBuf = [] := by simpa [u, reportLoss_rxBuf, toSpace] using empty
        have reported : winnerIn r.rid f = none → OfferTried r e u ∧ EvaluationNotDue u := fun unnamed =>
          ends _ _ unnamed ((offerStands_bumpIf _ _).trans offerStands_toSpace)
        have noOffer : ∀ k, Kind.ofCode f.kindCode = some k → k ≠ .offer → winnerIn r.rid f = none := by
          intro k known other
          refine winnerIn_eq_none (fun ⟨_, offer, _⟩ => other ?_)
          rw [offer] at known
          exact (Option.some.inj known).symm
        refine ⟨fun bad => ?_, fun unknown => ?_, fun k known => ⟨fun away other => ?_, fun misfit => ?_,
          fun taken => ?_, fun offer apart others => ?_⟩⟩
        · refine tried_at_end run (reported (winnerIn_eq_none (by simp [bad]))) (offerStands_handleFrame ?_)
          intro k good
          rw [bad] at good
          cases good
        · have none := ofCode_eq_none unknown
          refine tried_at_end run (reported (winnerIn_eq_none fun ⟨_, offer, _⟩ => ?_)) (offerStands_handleFrame ?_)
          · rw [offer] at unknown
            exact absurd unknown (by decide)
          · intro k _ _ known
            rw [none] at known
            cases known
        · refine tried_at_end run (reported (noOffer k known other)) (offerStands_handleFrame ?_)
          intro _ _ here
          have same : targeted u f.target = targeted s f.target := targeted_congr (by simp [u]) _
          rw [same, away] at here
          cases here
        · refine tried_at_end run (reported (winnerIn_eq_none fun ⟨_, offer, size, _⟩ => ?_)) (offerStands_handleFrame ?_)
          · rw [offer] at known
            obtain rfl := Option.some.inj known
            simp [Kind.sizeFits, size] at misfit
          · intro k' _ _ known' fits
            obtain rfl := Option.some.inj (known.symm.trans known')
            rw [misfit] at fits
            cases fits
        · have other : k ≠ .offer := by rintro rfl; simp at taken
          refine tried_at_end run (reported (noOffer k known other)) (offerStands_handleFrame ?_)
          intro k' _ _ known' _
          obtain rfl := Option.some.inj (known.symm.trans known')
          rw [deliver_taken _ rest]
          refine (offerStands_marked _).trans (offerStands_takeFrame ?_)
          rcases taken with rfl | rfl | rfl | rfl | rfl | rfl <;> simp [message]
        · refine tried_at_end run (reported (winnerIn_eq_none fun ⟨_, _, _, same⟩ => apart same)) (offerStands_handleFrame ?_)
          intro k' _ _ known' _
          obtain rfl := Option.some.inj (known.symm.trans known')
          obtain rfl := offer
          rw [message, deliver_offer rest]
          split
          · exact offerStands_refl
          · refine offerStands_takeOffer (Ne.symm apart) (fun x found => others x ?_)
            rw [← found]
            have unnamed : winnerIn r.rid f = none := winnerIn_eq_none fun ⟨_, _, _, same⟩ => apart same
            exact ((reportLoss_entry?_other (by simpa [toSpace] using held) unnamed apart).trans
              (entry?_congr (by simp) rid)).symm

end Sys2Proof.Machine
end

section
/-! Proofs of the statements about the transmit queue, the end of an evaluation and foreign offers (O30, O33, O37). -/

namespace Sys2Proof.Machine

open Sys2Proof

/-! ### The transmit queue (O30) -/

theorem inTransmission_congr {tx : Option Transmission} {e e' : TxEntry} (h : e'.order = e.order) :
    inTransmission tx e' = inTransmission tx e := by
  unfold inTransmission
  rw [h]

theorem replaceDemand_order (tx : Option Transmission) (f : TxFrame) (e : TxEntry) :
    (replaceDemand tx f e).order = e.order := by
  unfold replaceDemand
  split
  · split <;> rfl
  · rfl

/-- A queued DEMAND takes the new figures, or keeps them beside its own while it is in transmission (R39). -/
theorem replaceDemand_figures {tx : Option Transmission} {f : TxFrame} {e : TxEntry}
    (demand : (replaceDemand tx f e).frame.kind = .demand) :
    (inTransmission tx e = false → (replaceDemand tx f e).frame = f) ∧
      (inTransmission tx e = true → (replaceDemand tx f e).kept = some f.data) := by
  by_cases kind : e.frame.kind = .demand
  · cases sent : inTransmission tx e <;> simp [replaceDemand, kind, sent]
  · simp [replaceDemand, kind] at demand

theorem enqueue_demand {f : TxFrame} {s : State} (kind : f.kind = .demand)
    (queued : ∃ e ∈ s.lif.queue, e.frame.kind = .demand) :
    enqueue f s = { s with lif.queue := s.lif.queue.map (replaceDemand s.lif.tx f) } :=
  if_pos ⟨kind, by simpa using queued⟩

theorem enqueue_room {f : TxFrame} {s : State} (new : ¬ (f.kind = .demand ∧ ∃ e ∈ s.lif.queue, e.frame.kind = .demand))
    (room : s.lif.queue.length < 4) : enqueue f s = pushFrame f s := by
  unfold enqueue
  rw [if_neg (fun h => new ⟨h.1, by simpa using h.2⟩), if_pos room]

section
variable {f : TxFrame} {s : State} (new : ¬ (f.kind = .demand ∧ ∃ e ∈ s.lif.queue, e.frame.kind = .demand))
  (full : 4 ≤ s.lif.queue.length)
include new full

/-- A CLOSE or a DECLINE displaces the newest STATUS (R39). -/
theorem enqueue_displaces {o : Nat} (urgent : f.kind = .close ∨ f.kind = .decline) (newest : newestStatus s.lif = some o) :
    enqueue f s = bump .transmitDropped
      (pushFrame f { s with lif.queue := s.lif.queue.filter (fun e => decide (e.order ≠ o)) }) := by
  unfold enqueue
  rw [if_neg (fun h => new ⟨h.1, by simpa using h.2⟩), if_neg (by omega), if_pos urgent, newest]

/-- What can displace nothing is dropped (R39). -/
theorem enqueue_drops (none : (f.kind = .close ∨ f.kind = .decline) → newestStatus s.lif = none) :
    enqueue f s = bump .transmitDropped s := by
  unfold enqueue
  rw [if_neg (fun h => new ⟨h.1, by simpa using h.2⟩), if_neg (by omega)]
  split
  · next urgent => rw [none urgent]
  · rfl

end

/-- Settles O30, by the cases of R39. -/
theorem enqueuePlacesByTheRule : Obligations.EnqueuePlacesByTheRule := by
  intro f s counters hasDemand displaced
  refine ⟨fun kind queued => ?_, fun new room => ?_, fun new full => ?_⟩
  · rw [enqueue_demand kind queued]
    refine ⟨by simp [replaceDemand_order], fun e mem demand => ?_, rfl⟩
    obtain ⟨x, -, rfl⟩ := List.mem_map.1 mem
    have sent := inTransmission_congr (tx := s.lif.tx) (replaceDemand_order s.lif.tx f x)
    rw [sent]
    exact replaceDemand_figures demand
  · rw [enqueue_room new room]
    exact ⟨insertTx_perm _ _, rfl⟩
  · refine ⟨?_, fun o urgent newest => ?_, fun urgent newest => ?_, fun noClose noDecline => ?_⟩
    · by_cases displaces : (f.kind = .close ∨ f.kind = .decline) ∧ ∃ o, newestStatus s.lif = some o
      · obtain ⟨urgent, o, newest⟩ := displaces
        rw [enqueue_displaces new full urgent newest]
        exact count_bump_same counters
      · rw [enqueue_drops new full fun urgent => Option.eq_none_iff_forall_ne_some.2 fun o newest =>
          displaces ⟨urgent, o, newest⟩]
        exact count_bump_same counters
    · rw [enqueue_displaces new full urgent newest]
      exact insertTx_perm _ _
    · rw [enqueue_drops new full fun _ => newest]
      rfl
    · rw [enqueue_drops new full fun urgent => urgent.elim (absurd · noClose) (absurd · noDecline)]
      rfl

/-! ### The end of an evaluation (O33) -/

theorem modEntry_modEntry {rid : ReqId} {f g : Entry → Entry} (keeps : ∀ e, (f e).rid = e.rid) (s : State) :
    modEntry rid g (modEntry rid f s) = modEntry rid (fun e => g (f e)) s := by
  have twice : (fun e : Entry => if (if e.rid = rid then f e else e).rid = rid then g (if e.rid = rid then f e else e)
      else if e.rid = rid then f e else e) = fun e => if e.rid = rid then g (f e) else e := by
    funext e
    by_cases h : e.rid = rid
    · simp [h, keeps]
    · simp [h]
  simp [modEntry, Function.comp_def, twice]

/-- The own offer of a candidate (R128). -/
def Entry.offering (c : Candidate) (e : Entry) : Entry := { e with offer := some ⟨c.slot, c.score, c.pack.id⟩ }

/-- What becomes of the entry and of the register when a candidate was found (R128). -/
theorem settleCandidate_eq (e : Entry) (c : Candidate) (s : State) : settleCandidate e c s =
    if e.winner.isSome then modEntry e.rid (fun x => (x.offering c).ended .beaten s.rhs.seconds) s
    else if s.lif.register.isSome then modEntry e.rid (fun x => (x.offering c).satOutFor .lost s.rhs.seconds) s
    else { modEntry e.rid (fun x => (x.offering c).contending) s with
      lif.register := some ⟨e.rid, offerFrame e.rid c⟩ } := by
  have twice : ∀ g : Entry → Entry, modEntry e.rid g (modEntry e.rid (Entry.offering c) s) =
      modEntry e.rid (fun x => g (x.offering c)) s :=
    fun g => modEntry_modEntry (f := Entry.offering c) (fun _ => rfl) s
  unfold settleCandidate
  split
  · exact twice _
  · simp only [modEntry_lif]
    split
    · exact twice _
    · exact congrArg (fun u : State => { u with lif.register := some ⟨e.rid, offerFrame e.rid c⟩ }) (twice Entry.contending)

theorem exec_evaluationEnd {s : State} {ev : Evaluation} (on : s.core = true) (running : s.ofe.evaluation = some ev) :
    exec .evaluationEnd s = .next (settle (endEvaluation ev.view { s with ofe.evaluation := none })) := by
  simp [exec, execEvaluationEnd, running, on]

theorem core_of_operates {s : State} (h : operates s = true) : s.core = true := by
  simp [operates] at h
  exact h.1

theorem closeStretch_register (rid : ReqId) (s : State) : (closeStretch rid s).lif.register = s.lif.register := rfl

section
variable {v : EvalView} {s : State} {e : Entry} (found : s.entry? v.rid = some e) (evaluating : e.state = .evaluating)
include found evaluating

theorem endEvaluation_of_none (none : evaluate s.sul.cfg v = none) : endEvaluation v s =
    closeStretch v.rid (modEntry v.rid (Entry.satOutFor .noCandidate s.rhs.seconds) s) := by
  simp [endEvaluation, found, evaluating, none]

theorem endEvaluation_of_some {c : Candidate} (some : evaluate s.sul.cfg v = some c) :
    endEvaluation v s = closeStretch v.rid (settleCandidate e c s) := by
  simp [endEvaluation, found, evaluating, some]

end

/-- Settles O33, by the result of the evaluation and what the entry and the register then hold. -/
theorem evaluationEndSettlesTheEntry : Obligations.EvaluationEndSettlesTheEntry := by
  refine ⟨?settles, ?discards⟩
  case settles =>
    intro s ev e works running entry evaluating
    let u : State := { s with ofe.evaluation := none }
    have found : u.entry? ev.view.rid = some e := entry
    have own : e.rid = ev.view.rid := (entry?_mem entry).2
    have run := exec_evaluationEnd (core_of_operates works) running
    refine ⟨_, run, fun none => ?_, fun c some lost => ?_, fun c some open_ free => ?_, fun c some open_ busy => ?_, ?_⟩
    · rw [endEvaluation_of_none found evaluating none]
      refine ⟨by simp [closeStretch_register, u], e.satOutFor .noCandidate s.rhs.seconds, ?_, rfl, rfl, rfl⟩
      exact settle_modEntry (rid_satOutFor _ _) (by simp [state_satOutFor]) found rfl rfl
    · rw [endEvaluation_of_some found evaluating some]
      simp only [settleCandidate_eq, lost, if_true, own]
      refine ⟨by simp [closeStretch_register, u], (e.offering c).ended .beaten s.rhs.seconds, ?_, rfl, rfl, rfl, rfl⟩
      exact settle_modEntry (f := fun x => (x.offering c).ended .beaten s.rhs.seconds) (fun _ => rfl)
        (by simp [Entry.ended]) found rfl rfl
    · rw [endEvaluation_of_some found evaluating some]
      have empty : u.lif.register = none := free
      simp only [settleCandidate_eq, open_, empty, own, Option.isSome_none, Bool.false_eq_true, if_false]
      refine ⟨?_, by simp [closeStretch_register]; rfl⟩
      refine (settle_modEntry (u := u) (f := fun x => (x.offering c).contending) (fun _ => rfl)
        (by simp [Entry.contending]) found ?_ rfl).trans (by simp [Entry.contending, Entry.offering, own, open_])
      rfl
    · rw [endEvaluation_of_some found evaluating some]
      have held : u.lif.register.isSome = true := busy
      simp only [settleCandidate_eq, open_, held, own, Option.isSome_none, Bool.false_eq_true, if_false, if_true]
      refine ⟨by simp [closeStretch_register, u], (e.offering c).satOutFor .lost s.rhs.seconds, ?_, rfl, rfl⟩
      exact settle_modEntry (f := fun x => (x.offering c).satOutFor .lost s.rhs.seconds) (fun _ => rfl)
        (by simp [state_satOutFor]) found rfl rfl
    · apply state_ext <;> simp
  case discards =>
    intro s ev on running other
    have nothing : endEvaluation ev.view { s with ofe.evaluation := none } = { s with ofe.evaluation := none } := by
      have same : ({ s with ofe.evaluation := none } : State).entry? ev.view.rid = s.entry? ev.view.rid := rfl
      unfold endEvaluation
      rw [same]
      split
      · rfl
      · next e entry => rw [if_pos (other e entry)]
    rw [exec_evaluationEnd on running, nothing]

/-! ### Foreign offers (O37) -/

/-- Entries rewritten without becoming HEARD make nothing due. -/
theorem nothingDue_modEntry {rid : ReqId} {f : Entry → Entry} {s : State} (h : NothingDue s)
    (keeps : ∀ e, e.state ≠ .heard → (f e).state ≠ .heard) : NothingDue (modEntry rid f s) := by
  intro runs
  obtain ⟨pass, -, focus⟩ := h runs
  exact ⟨pass, evaluationNotDue_modEntry (evaluationNotDue_of_nothingDue h) keeps runs, focus⟩

theorem nothingDue_toSpace {s : State} (h : NothingDue s) : NothingDue (toSpace s) := nothingDue_congr h id rfl rfl rfl

theorem nothingDue_bump {c : Counter} {s : State} (h : NothingDue s) : NothingDue (bump c s) :=
  nothingDue_congr h id rfl rfl rfl

theorem haltedConfig_of_operates {s : State} (h : operates s = true) : s.sul.state ≠ .haltedConfig := by
  intro halted
  simp [operates, halted, StationState.operating] at h

/-- The register cleared by a foreign OFFER, by an ASSIGN elsewhere or by a CANCEL while it is not in transmission (R40). -/
theorem clearRegister_of_idle {s : State} (quiet : s.lif.tx = none) :
    clearRegister s = { s with lif.register := none, lif.lossPending := false } := by
  simp [clearRegister, registerInTransmission, quiet]

/-- Settles O37, by the state of the entry. -/
theorem foreignOfferBeatsAContender : Obligations.ForeignOfferBeatsAContender := by
  intro s source contest rid slot score minutes soc packId works ends nothing
  have quiet := tx_of_listening (listening_of_receiving ends.1)
  have run : exec (.offer source contest rid slot score minutes soc packId) s =
      .next (settle (takeOffer source contest rid score (toSpace s))) := by
    refine (congrArg Host.Outcome.next (receiveGood_taken ends (targeted_all s))).trans ?_
    rw [marked_of_noRequest rfl, takeFrame_offer, if_neg (haltedConfig_of_operates (s := toSpace s) works)]
  have still := settle_of_nothingDue (nothingDue_toSpace nothing)
  rw [run]
  refine ⟨fun malformed => ?_, fun whole same unknown => ?_, fun e whole same entry => ⟨fun contends => ?_,
    fun promised => ?_, fun h1 h2 h3 h4 => ?_⟩⟩
  · have bad : takeOffer source contest rid score (toSpace s) = bump .malformed (toSpace s) := if_pos malformed
    rw [bad, settle_of_nothingDue (nothingDue_bump (nothingDue_toSpace nothing))]
    rfl
  all_goals have good : ¬ (score = 255 ∨ score ≠ contest) := fun h => h.elim whole (fun k => k same)
  · have missing : (toSpace s).entry? rid = none := unknown
    simp only [takeOffer, good, if_false, missing, still]
    rfl
  all_goals have found : (toSpace s).entry? rid = some e := entry
  · let w : Winner := ⟨source, some score.toNat⟩
    have taken : takeOffer source contest rid score (toSpace s) = { modEntry rid (Entry.beatenBy w s.rhs.seconds) (toSpace s) with
        lif.register := none, lif.lossPending := false } := by
      simp only [takeOffer, good, if_false, found, contends]
      rw [clearRegister_of_idle (by simpa [toSpace] using quiet)]
      rfl
    have due : NothingDue (takeOffer source contest rid score (toSpace s)) := by
      rw [taken]
      exact nothingDue_congr (nothingDue_modEntry (rid := rid) (f := Entry.beatenBy w s.rhs.seconds)
        (nothingDue_toSpace nothing) (by simp [Entry.beatenBy, Entry.ended])) id rfl rfl rfl
    rw [settle_of_nothingDue due, taken]
    refine ⟨_, Entry.beatenBy w s.rhs.seconds e, rfl, ?_, ?_, rfl, rfl, ?_⟩
    · simp [toSpace, ends.2.1]
    · exact (entry?_reportLoss_beaten (s := toSpace s) (w := w) found rfl).1
    · apply state_ext <;> rfl
  · have taken : takeOffer source contest rid score (toSpace s) = toSpace s := by
      rcases promised with h | h | h <;> simp only [takeOffer, good, if_false, found, h]
    rw [taken, still]
    rfl
  · let w : Winner := ⟨source, some score.toNat⟩
    have taken : takeOffer source contest rid score (toSpace s) = modEntry rid (Entry.noteWinner w) (toSpace s) := by
      simp only [takeOffer, good, if_false, found]
      cases st : e.state
      case contending => exact absurd st h1
      case offered => exact absurd st h2
      case held => exact absurd st h3
      case serving => exact absurd st h4
      all_goals rfl
    have due : NothingDue (modEntry rid (Entry.noteWinner w) (toSpace s)) :=
      nothingDue_modEntry (nothingDue_toSpace nothing) (fun _ h => h)
    rw [taken, settle_of_nothingDue due]
    refine ⟨_, rfl, ?_, fun r apart => ?_, ?_⟩
    · rw [entry?_modEntry_same (f := Entry.noteWinner w) (fun _ => rfl), found]
      cases named : e.winner <;> simp [Entry.noteWinner, named, w]
    · exact entry?_modEntry_other (f := Entry.noteWinner w) (fun _ => rfl) apart _
    · apply state_ext <;> rfl

end Sys2Proof.Machine
end

section
/-! Proof of the statement about the candidate of an evaluation (O34). -/

namespace Sys2Proof.Machine

open Sys2Proof

/-! ### The least of a list that rises by number -/

section
variable {α : Type} {better : Option α → α → Option α} {score number : α → Nat}

/-- Of two elements, the one of the lower score, and of equal scores the one of the lower number. -/
def Precedes (score number : α → Nat) (c d : α) : Prop :=
  score c ≤ score d ∧ (score d = score c → number c ≤ number d)

/-- A fold that takes an element over the best so far only for a lower score finds the first of the lowest score. -/
theorem foldl_better_some (later : ∀ b x, better (some b) x = if score x < score b then some x else some b)
    (l : List α) (b : α) (rises : (b :: l).Pairwise (fun x y => number x < number y)) :
    ∃ c ∈ b :: l, l.foldl better (some b) = some c ∧ ∀ d ∈ b :: l, Precedes score number c d := by
  induction l generalizing b with
  | nil => exact ⟨b, by simp, rfl, by simp [Precedes]⟩
  | cons x l ih =>
    simp only [List.pairwise_cons, List.mem_cons, forall_eq_or_imp] at rises
    obtain ⟨⟨before, behind⟩, first, rest⟩ := rises
    rw [List.foldl_cons, later]
    by_cases lower : score x < score b
    · obtain ⟨c, mem, found, least⟩ := ih x (List.pairwise_cons.2 ⟨first, rest⟩)
      refine ⟨c, List.mem_cons_of_mem b mem, by rw [if_pos lower, found], fun d hd => ?_⟩
      rcases List.mem_cons.1 hd with rfl | hd
      · have := (least x (by simp)).1
        exact ⟨by omega, fun same => by omega⟩
      · exact least d hd
    · obtain ⟨c, mem, found, least⟩ := ih b (List.pairwise_cons.2 ⟨behind, rest⟩)
      refine ⟨c, ?_, by rw [if_neg lower, found], fun d hd => ?_⟩
      · rcases List.mem_cons.1 mem with rfl | mem
        · simp
        · simp [mem]
      · rcases List.mem_cons.1 hd with rfl | hd
        · exact least d (by simp)
        · rcases List.mem_cons.1 hd with rfl | hd
          · obtain ⟨low, tie⟩ := least b (by simp)
            exact ⟨by omega, fun same => by have := tie (by omega); omega⟩
          · exact least d (by simp [hd])

theorem foldl_better (first : ∀ x, better none x = some x)
    (later : ∀ b x, better (some b) x = if score x < score b then some x else some b)
    (l : List α) (rises : l.Pairwise (fun x y => number x < number y)) :
    (l = [] ∧ l.foldl better none = none) ∨
      ∃ c ∈ l, l.foldl better none = some c ∧ ∀ d ∈ l, Precedes score number c d := by
  cases l with
  | nil => exact .inl ⟨rfl, rfl⟩
  | cons x l =>
    rw [List.foldl_cons, first]
    exact .inr (foldl_better_some later l x rises)

/-- What is kept of the places of a list rises by number. -/
theorem filterMap_zipIdx_rises {β : Type} (f : β × Nat → Option α) (l : List β)
    (numbers : ∀ x a, f x = some a → number a = x.2) :
    (l.zipIdx.filterMap f).Pairwise (fun x y => number x < number y) := by
  have places : l.zipIdx.Pairwise (fun x y => x.2 < y.2) := by
    have rises : (l.zipIdx.map Prod.snd).Pairwise (· < ·) := by
      simp only [List.zipIdx_map_snd]
      exact List.pairwise_lt_range'
    exact List.pairwise_map.1 rises
  refine places.filterMap f (fun x y lt a ha b hb => ?_)
  rw [numbers x a ha, numbers y b hb]
  exact lt

end

/-! ### The eligible slots (O34) -/

theorem readyInTime_iff (cfg : Cfg) (minutes eta : Nat) (rider : RiderClass) :
    ReadyInTime cfg minutes eta rider ↔ minutes ≤ 1022 ∧ waitTerm minutes eta ≤ cfg.maxWait rider := by
  cases rider <;> simp [ReadyInTime, waitTerm, Cfg.maxWait]

theorem judgeSlot_isSome_iff {cfg : Cfg} {v : EvalView} {n : Nat} {sv : SlotView} :
    (judgeSlot cfg v n sv).isSome = true ↔ Eligible cfg v n sv := by
  rw [Option.isSome_iff_exists]
  constructor
  · rintro ⟨c, h⟩
    obtain ⟨p, pack, ⟨cond, ok, cut, role, cls, soh, minutes, wait⟩, -⟩ := judgeSlot_eq_some_iff.1 h
    exact ⟨p, pack, cond, ok, cut, role, cls, cls ▸ soh, (readyInTime_iff ..).2 ⟨minutes, wait⟩⟩
  · rintro ⟨p, pack, cond, ok, cut, role, cls, soh, time⟩
    obtain ⟨minutes, wait⟩ := (readyInTime_iff ..).1 time
    exact ⟨_, judgeSlot_eq_some_iff.2 ⟨p, pack, ⟨cond, ok, cut, role, cls, cls.symm ▸ soh, minutes, wait⟩, rfl⟩⟩

theorem mem_judged {cfg : Cfg} {v : EvalView} {c : Candidate} :
    c ∈ v.slots.zipIdx.filterMap (fun x => judgeSlot cfg v x.2 x.1) ↔
      ∃ n sv, v.slots[n]? = some sv ∧ judgeSlot cfg v n sv = some c := by
  simp only [List.mem_filterMap, Prod.exists, List.mem_zipIdx_iff_getElem?]
  exact ⟨fun ⟨sv, n, h⟩ => ⟨n, sv, h⟩, fun ⟨n, sv, h⟩ => ⟨sv, n, h⟩⟩

theorem slot_of_judgeSlot {cfg : Cfg} {v : EvalView} {n : Nat} {sv : SlotView} {c : Candidate}
    (h : judgeSlot cfg v n sv = some c) : c.slot = n ∧ sv.pack = some c.pack ∧
      c.minutes = prospectiveReady cfg v.grant v.slots n c.pack := by
  obtain ⟨p, pack, -, rfl⟩ := judgeSlot_eq_some_iff.1 h
  exact ⟨rfl, pack, rfl⟩

/-- The candidate is the first of the lowest score among the slots that are given one (R108). -/
theorem bestCandidate_spec (cfg : Cfg) (v : EvalView) :
    let judged := v.slots.zipIdx.filterMap (fun x => judgeSlot cfg v x.2 x.1)
    (judged = [] ∧ bestCandidate judged = none) ∨ ∃ c ∈ judged, bestCandidate judged = some c ∧
      ∀ d ∈ judged, Precedes Candidate.score Candidate.slot c d :=
  foldl_better (better := betterCandidate) (fun _ => rfl) (fun _ _ => rfl) _
    (filterMap_zipIdx_rises _ _ (fun _ _ h => (slot_of_judgeSlot h).1))

/-- Settles O34. -/
theorem candidateIsTheBestEligible : Obligations.CandidateIsTheBestEligible := by
  refine ⟨fun cfg v n sv => ⟨judgeSlot_isSome_iff, fun c => slot_of_judgeSlot⟩, fun v => ?_, fun e s => ?_,
    fun cfg v => ⟨fun c found => ?_, fun none active docks n sv place => ?_⟩⟩
  · simp [dockCount, List.countP_eq_length_filter]
  · refine ⟨?_, ?_, rfl, rfl, rfl, rfl, rfl⟩
    · simp [takeView, List.countP_eq_length_filter]
    · simp [takeView, List.countP_eq_length_filter]
  · unfold evaluate at found
    split at found
    · next open_ =>
      rcases bestCandidate_spec cfg v with ⟨-, nothing⟩ | ⟨c', mem, best, least⟩
      · rw [nothing] at found
        cases found
      · obtain rfl := Option.some.inj (best.symm.trans found)
        obtain ⟨n, sv, place, judged⟩ := mem_judged.1 mem
        obtain ⟨slot, -, -⟩ := slot_of_judgeSlot judged
        obtain ⟨p, pack, score⟩ := score_of_judgeSlot judged
        obtain ⟨q, -, cond, -, cut, role, -⟩ := judgeSlot_isSome_iff.1 (Option.isSome_iff_exists.2 ⟨_, judged⟩)
        refine ⟨open_.1, open_.2, by omega, ⟨sv, slot ▸ place, slot ▸ judged, cond, role, cut⟩,
          fun m sv' d place' judged' => ?_⟩
        have low := least d (mem_judged.2 ⟨m, sv', place', judged'⟩)
        rw [Precedes, (slot_of_judgeSlot judged').1] at low
        exact low
    · cases found
  · rw [evaluate, if_pos ⟨active, docks⟩] at none
    rcases bestCandidate_spec cfg v with ⟨nothing, -⟩ | ⟨c, -, best, -⟩
    · by_contra some
      obtain ⟨c, judged⟩ := Option.ne_none_iff_exists'.1 some
      have mem := mem_judged.2 ⟨n, sv, place, judged⟩
      rw [nothing] at mem
      cases mem
    · rw [best] at none
      cases none

end Sys2Proof.Machine
end

section
/-! Proofs of the statements about a REQUEST (O31, O32). -/

namespace Sys2Proof.Machine

open Sys2Proof

/-! ### A REQUEST's row -/

/-- LIF at the end of a REQUEST, whose contest point is marked (R30, R41). -/
def requestEnd (rid : ReqId) (s : State) : State :=
  { s with lif := { atFrameEnd s.lif with mark := some ⟨rid, false, false⟩ } }

theorem exec_request {s : State} (works : operates s = true) (ends : FrameMayEnd s) (source : BitVec 4) (rid : ReqId)
    (kr pc rc eta attempt : Byte) : exec (.request source rid kr pc rc eta attempt) s =
      .next (settle (takeRequest source rid kr pc rc eta attempt (requestEnd rid s))) := by
  refine (congrArg Host.Outcome.next (receiveGood_taken ends (targeted_all s))).trans ?_
  show Host.Outcome.next (settle (if s.sul.state = .haltedConfig then _ else _)) = _
  rw [if_neg (haltedConfig_of_operates works)]
  rfl

theorem packClass?_of_lt {b : Byte} (h : b.toNat < 4) : packClass? b = some ⟨b.toNat, h⟩ := dif_pos h

theorem packClass?_of_ge {b : Byte} (h : 4 ≤ b.toNat) : packClass? b = none := dif_neg (by omega)

/-- A REQUEST that passes its checks (R113). -/
theorem takeRequest_checked {source : BitVec 4} {rid : ReqId} {pc rc : Byte} (own : rid.term = source) (p : pc.toNat < 4)
    (r : rc.toNat < 4) (kr eta attempt : Byte) (s : State) : takeRequest source rid kr pc rc eta attempt s =
      enterOrRenew (newEntry rid kr ⟨pc.toNat, p⟩ ⟨rc.toNat, r⟩ eta attempt) s := by
  simp [takeRequest, packClass?_of_lt p, packClass?_of_lt r, own]

theorem takeRequest_malformed {source : BitVec 4} {rid : ReqId} {pc rc : Byte}
    (h : rid.term ≠ source ∨ 4 ≤ pc.toNat ∨ 4 ≤ rc.toNat) (kr eta attempt : Byte) (s : State) :
    takeRequest source rid kr pc rc eta attempt s = barRequest rid (bump .malformed s) := by
  unfold takeRequest
  split
  · next pc' rc' hp hr =>
    have other : rid.term ≠ source := by
      rcases h with h | h | h
      · exact h
      · rw [packClass?_of_ge h] at hp
        cases hp
      · rw [packClass?_of_ge h] at hr
        cases hr
    rw [if_neg other]
  · rfl

/-! ### A REQUEST that is not entered (O32) -/

theorem stretch_of_receiving {s : State} (h : receiving s = true) : s.lif.stretch = none :=
  (lifRuns_of_listening (listening_of_receiving h)).2.2

/-- A marked request's point is closed for the stretch (R42, R114). -/
theorem closeStretch_requestEnd {rid : ReqId} {c : Counter} {s : State} (still : s.lif.stretch = none) :
    closeStretch rid (bump c (requestEnd rid s)) =
      { bump c s with lif := { atFrameEnd s.lif with mark := some ⟨rid, true, false⟩ } } := by
  apply state_ext <;> simp [closeStretch, requestEnd, still]
  rfl

theorem barRequest_requestEnd {rid : ReqId} {c : Counter} {s : State} (still : s.lif.stretch = none) :
    barRequest rid (bump c (requestEnd rid s)) =
      { bump c s with lif := { atFrameEnd s.lif with mark := some ⟨rid, true, true⟩ } } := by
  rw [barRequest, closeStretch_requestEnd still]
  simp

/-- Settles O32, by the check the REQUEST fails. -/
theorem requestNotEntered : Obligations.RequestNotEntered := by
  intro s source rid kr pc rc eta attempt works ends nothing notEntered
  have still := stretch_of_receiving ends.1
  have run := exec_request works ends source rid kr pc rc eta attempt
  have quiet : ∀ k m, settle { bump k s with lif := { atFrameEnd s.lif with mark := m } } =
      { bump k s with lif := { atFrameEnd s.lif with mark := m } } := fun k m =>
    settle_of_nothingDue (nothingDue_congr nothing id rfl rfl rfl)
  refine ⟨fun bad => ?_, fun own p r => ⟨fun e entry stale => ?_, fun new full live => ?_⟩⟩
  · show _ = _
    rw [run, takeRequest_malformed bad, barRequest_requestEnd still, quiet]
  · have found : (requestEnd rid s).entry? rid = some e := entry
    have kept : ¬ (e.state.renewable = true ∧ e.attempt < attempt) := by
      rintro ⟨renewable, later⟩
      rcases stale with live | done | above
      · revert renewable live
        cases e.state <;> simp [EntryState.renewable, EntryState.live]
      · rw [done] at renewable
        cases renewable
      · exact absurd later (BitVec.not_lt.2 above)
    have duplicate : enterOrRenew (newEntry rid kr ⟨pc.toNat, p⟩ ⟨rc.toNat, r⟩ eta attempt) (requestEnd rid s) =
        closeStretch rid (bump .duplicate (requestEnd rid s)) := by
      unfold enterOrRenew
      rw [show (newEntry rid kr ⟨pc.toNat, p⟩ ⟨rc.toNat, r⟩ eta attempt).rid = rid from rfl, found]
      exact if_neg kept
    show _ = _
    rw [run, takeRequest_checked own p r, duplicate, closeStretch_requestEnd still, quiet]
  · have missing : (requestEnd rid s).entry? rid = none := new
    have refused : enterOrRenew (newEntry rid kr ⟨pc.toNat, p⟩ ⟨rc.toNat, r⟩ eta attempt) (requestEnd rid s) =
        closeStretch rid (bump .bookFull (requestEnd rid s)) := by
      unfold enterOrRenew
      rw [show (newEntry rid kr ⟨pc.toNat, p⟩ ⟨rc.toNat, r⟩ eta attempt).rid = rid from rfl, missing]
      have noRoom : ¬ (requestEnd rid s).ofe.book.length < 16 := by simpa [requestEnd] using full
      have noTerminal : ¬ (requestEnd rid s).ofe.book.any (fun x => !x.state.live) = true := by
        simpa [requestEnd] using live
      simp only [enterRequest, noRoom, noTerminal, if_false]
      rfl
    show _ = _
    rw [run, takeRequest_checked own p r, refused, closeStretch_requestEnd still, quiet]

/-! ### A REQUEST that is entered (O31) -/

theorem removeFirst_append {α : Type} {p : α → Bool} {front back : List α} {x : α} (before : ∀ y ∈ front, p y = false)
    (first : p x = true) : removeFirst p (front ++ x :: back) = front ++ back := by
  induction front with
  | nil => simp [removeFirst, first]
  | cons y front ih =>
    have none : p y = false := before y (by simp)
    simp [removeFirst, none, ih (fun z hz => before z (by simp [hz]))]

theorem entry?_eq_none {rid : ReqId} {s : State} : s.entry? rid = none ↔ ∀ x ∈ s.ofe.book, x.rid ≠ rid := by
  simp [State.entry?]

/-- The book with the new entry at its tail: `rest` is what stays of the old one (R113). -/
theorem enterOrRenew_book {e : Entry} {s : State} {rest : List Entry}
    (h : (s.entry? e.rid = none ∧ s.ofe.book.length < 16 ∧ rest = s.ofe.book) ∨
      (s.entry? e.rid = none ∧ 16 ≤ s.ofe.book.length ∧ ∃ front x back,
        s.ofe.book = front ++ x :: back ∧ (∀ y ∈ front, y.state.live = true) ∧ x.state.live = false ∧
        rest = front ++ back) ∨
      (∃ old, s.entry? e.rid = some old ∧ old.attempt < e.attempt ∧ old.state.renewable = true ∧
        rest = s.ofe.book.filter (fun x => decide (x.rid ≠ e.rid)))) :
    enterOrRenew e s = { s with ofe.book := rest ++ [e] } ∧ ∀ x ∈ rest, x.rid ≠ e.rid := by
  obtain ⟨new, room, rfl⟩ | ⟨new, full, front, x, back, book, live, terminal, rfl⟩ |
    ⟨old, found, later, renewable, rfl⟩ := h
  · refine ⟨?_, entry?_eq_none.1 new⟩
    unfold enterOrRenew
    rw [new]
    exact if_pos room
  · refine ⟨?_, fun y hy => entry?_eq_none.1 new y ?_⟩
    · unfold enterOrRenew
      rw [new]
      have evicted : removeFirst (fun x => !x.state.live) s.ofe.book = front ++ back := by
        rw [book]
        exact removeFirst_append (by simpa using live) (by simpa using terminal)
      have some : s.ofe.book.any (fun x => !x.state.live) = true := by simp [book, terminal]
      have noRoom : ¬ s.ofe.book.length < 16 := by omega
      simp only [enterRequest, noRoom, some, if_false, if_true, evicted]
    · rw [book]
      rcases List.mem_append.1 hy with hy | hy
      · simp [hy]
      · simp [hy]
  · refine ⟨?_, fun y hy => by simpa using (List.mem_filter.1 hy).2⟩
    unfold enterOrRenew
    rw [found]
    exact if_pos ⟨renewable, later⟩

/-- Settles O31: the book by `enterOrRenew_book`, the evaluation by what begins at the end of the event. -/
theorem requestEntersTheBook : Obligations.RequestEntersTheBook := by
  intro s source serial kr pc rc eta attempt rest works ends p r place
  let rid : ReqId := ⟨source, serial⟩
  let new : Entry := newEntry rid kr ⟨pc.toNat, p⟩ ⟨rc.toNat, r⟩ eta attempt
  let u : State := { requestEnd rid s with ofe.book := rest ++ [new] }
  have taken : enterOrRenew new (requestEnd rid s) = u ∧ ∀ x ∈ rest, x.rid ≠ rid := by
    refine enterOrRenew_book (e := new) (s := requestEnd rid s) ?_
    obtain h | h | ⟨old, found, later, state, same⟩ := place
    · exact .inl h
    · exact .inr (.inl h)
    · refine .inr (.inr ⟨old, found, later, ?_, same⟩)
      rcases state with h | h | h | h | h | h | h <;> rw [h] <;> rfl
  obtain ⟨entered, apart⟩ := taken
  have run : exec (.request source rid kr pc rc eta attempt) s = .next (settle u) := by
    rw [exec_request works ends, takeRequest_checked (rid := rid) (source := source) rfl p r, entered]
  have frame : settle u =
      { s with lif := (settle u).lif, pln := (settle u).pln, ofe := (settle u).ofe, svy := (settle u).svy } := by
    apply state_ext <;> simp [u, requestEnd]
  have lif : (settle u).lif = { atFrameEnd s.lif with mark := some ⟨rid, false, false⟩ } := by simp [u, requestEnd]
  by_cases begins : s.ofe.evaluation = none ∧ ∀ x ∈ rest, x.state ≠ .heard
  · obtain ⟨idle, quiet⟩ := begins
    have first : (rest ++ [new]).find? (fun e => decide (e.state = .heard)) = some new := by
      have noneBefore : rest.find? (fun e => decide (e.state = .heard)) = none := by simpa using quiet
      simp [List.find?_append, noneBefore, new, newEntry]
    have ofe := beginEvaluation_ofe_of_heard (s := u) (e := new) works idle first
    have book : (beginEvaluation u).ofe.book = rest ++ [{ new with state := .evaluating }] := by
      rw [ofe]
      show (rest ++ [new]).map (fun x => if x.rid = new.rid then { x with state := .evaluating } else x) = _
      have untouched : rest.map (fun x => if x.rid = new.rid then { x with state := .evaluating } else x) = rest :=
        (List.map_congr_left (g := id) fun x hx => if_neg (apart x hx)).trans rest.map_id
      rw [List.map_append, untouched]
      simp
    refine ⟨_, { new with state := .evaluating }, run, lif, rfl, rfl, rfl, rfl, rfl, rfl, rfl, rfl, rfl,
      fun busy => ?_, fun _ _ => ⟨?_, rfl, ?_⟩, frame⟩
    · rw [idle] at busy
      cases busy
    · rw [settle_ofe, book]
    · rw [settle_ofe, ofe]
      exact ⟨_, rfl, rfl, rfl⟩
  · refine ⟨_, new, run, lif, rfl, rfl, rfl, rfl, rfl, rfl, rfl, rfl, rfl, fun busy => ⟨?_, rfl⟩,
      fun idle quiet => absurd ⟨idle, quiet⟩ begins, frame⟩
    rw [settle_ofe, beginEvaluation_of_nothing (s := u) (.inr (.inl busy))]

end Sys2Proof.Machine
end

section
/-! Proofs of the statements about a pledge and its end: the ASSIGN that makes the hold, the ASSIGN elsewhere, the pledge
timer, and the UPDATE (O38, O39, O40, O42). -/

namespace Sys2Proof.Machine

open Sys2Proof

/-! ### A frame that is no REQUEST -/

/-- A frame for all stations with nothing left of an earlier one, that marks no contest point (R28, R30, R36, R37). -/
theorem receiveGood_plain {f : RxFrame} {s : State} (ends : FrameMayEnd s) (here : targeted s f.target = true)
    (noRequest : ∀ m, markOf f m = m) : receiveGood f s = settle (takeFrame f (toSpace s)) := by
  rw [receiveGood_taken ends here, marked_of_noRequest (noRequest _)]

theorem exec_assign (rid : ReqId) (chosen slot : Byte) {s : State} (works : operates s = true) (ends : FrameMayEnd s) :
    exec (.assign rid chosen slot) s = .next (settle (takeAssign rid chosen (toSpace s))) := by
  refine (congrArg Host.Outcome.next (receiveGood_plain ends (targeted_all s) (fun _ => rfl))).trans ?_
  exact congrArg (fun t => Host.Outcome.next (settle t)) (if_neg (haltedConfig_of_operates (s := toSpace s) works))

theorem exec_assignOther (rid : ReqId) (chosen slot : Byte) {s : State} (works : operates s = true)
    (ends : FrameMayEnd s) :
    exec (.assignOther rid chosen slot) s = .next (settle (takeAssign rid chosen (toSpace s))) :=
  exec_assign rid chosen slot works ends

theorem exec_update (rid : ReqId) (eta : Byte) {s : State} (works : operates s = true) (ends : FrameMayEnd s) :
    exec (.update rid eta) s = .next (settle (takeUpdate rid eta (toSpace s))) := by
  refine (congrArg Host.Outcome.next (receiveGood_plain ends (targeted_all s) (fun _ => rfl))).trans ?_
  exact congrArg (fun t => Host.Outcome.next (settle t)) (if_neg (haltedConfig_of_operates (s := toSpace s) works))

/-! ### Roles that are given back (R135, R137, R140) -/

theorem freeRole_of_owned {n : Nat} {r : Role} {rid : ReqId} {s : State} {sl : Slot} (place : s.slots[n]? = some sl)
    (role : sl.role = r) (own : sl.rid = some rid) : freeRole n r rid s = setRole n .free none s := by
  have found : s.slot? n = some sl := place
  simp [freeRole, found, role, own]

theorem freeRole_of_not_owned {n : Nat} {r : Role} {rid : ReqId} {s : State} {sl : Slot} (place : s.slots[n]? = some sl)
    (other : ¬ (sl.role = r ∧ sl.rid = some rid)) : freeRole n r rid s = s := by
  have found : s.slot? n = some sl := place
  simp [freeRole, found, other]

theorem freePledge_of_offer {e : Entry} {o : OwnOffer} (offer : e.offer = some o) (s : State) :
    freePledge e s = freeRole o.slot .pledged e.rid s := by
  simp [freePledge, offer]

/-- A pledge that still stands is FREE (R135, R137, R140). -/
theorem freePledge_of_pledged {e : Entry} {o : OwnOffer} {sl : Slot} {s : State} (offer : e.offer = some o)
    (place : s.slots[o.slot]? = some sl) (role : sl.role = .pledged) (own : sl.rid = some e.rid) :
    freePledge e s = setRole o.slot .free none s := by
  rw [freePledge_of_offer offer, freeRole_of_owned place role own]

theorem setRole_free_slots (n : Nat) (s : State) :
    (setRole n .free none s).slots = s.slots.modify n (fun sl => { sl with role := .free, rid := none }) :=
  setRole_slots (by simp) none s

/-- A slot that becomes FREE asks for a planning pass, which begins at the end of the event (R76, R77). -/
theorem settle_setRole_pass {n : Nat} {r : Role} {rid : Option ReqId} {s : State} (works : operates s = true) :
    (settle (setRole n r rid s)).pln.pass.isSome = true :=
  settle_pass_isSome (s := setRole n r rid s) works (.inl rfl)

/-- Where the survey has nothing due, none of its steps begins at the end of the event (R7). -/
theorem settle_svy_of_notDue {s t : State} (works : operates s = true) (nothing : NothingDue s) (svy : t.svy = s.svy) :
    (settle t).svy = s.svy := by
  obtain ⟨-, -, focus⟩ := nothing works
  rw [settle_svy, beginGapFocus_of_nothing, svy]
  rw [svy]
  cases step : s.svy.step with
  | some st => exact .inr (.inl rfl)
  | none =>
    cases set : s.svy.focus with
    | none => exact .inr (.inr (.inl rfl))
    | some f =>
      cases gap : s.svy.gap with
      | inPass => exact .inr (.inr (.inr (.inl rfl)))
      | due => exact .inr (.inr (.inr (.inr rfl)))
      | running ms => exact absurd gap (focus step (by simp [set]) ms)

/-! ### The pledge timer (O40) -/

/-- Settles O40. -/
theorem pledgeExpiryFreesTheSlot : Obligations.PledgeExpiryFreesTheSlot := by
  intro s rid e o sl works entry offered timer offer place role own
  have same : e.rid = rid := (entry?_mem entry).2
  let u : State := modEntry rid (Entry.ended .unassigned s.rhs.seconds) s
  have run : exec (.pledgeTimerExpiry rid) s = .next (settle (setRole o.slot .free none u)) := by
    rw [← freePledge_of_pledged (e := e) (s := u) offer place role (same ▸ own)]
    simp [exec, execPledgeTimerExpiry, entry, core_of_operates works, offered, timer, u]
  refine ⟨_, e.ended .unassigned s.rhs.seconds, run, ?_, rfl, rfl, rfl, ?_, settle_setRole_pass works, ?_⟩
  · exact settle_modEntry (rid_ended _ _) (by simp [Entry.ended]) entry rfl rfl
  · simp [setRole_free_slots, u]
  · apply state_ext <;> simp [u]

/-! ### An ASSIGN elsewhere (O39) -/

theorem chosen_station {chosen : Byte} (h : chosen.toNat ≤ 15) :
    (chosen.extractLsb' 0 4 : BitVec 4).toNat = chosen.toNat := by
  rw [BitVec.extractLsb'_toNat]
  simpa using Nat.lt_succ_of_le h

/-- The entry names the chosen station as winner, with the score of an earlier winner that was the same station (R140). -/
theorem chosen_winner {chosen : Byte} (h : chosen.toNat ≤ 15) (e : Entry) :
    ∃ w, (Entry.chosen (chosen.extractLsb' 0 4) e).winner = some w ∧ w.station.toNat = chosen.toNat ∧
      (∀ v, e.winner = some v → v.station.toNat = chosen.toNat → w.score = v.score) ∧
      ((∀ v, e.winner = some v → v.station.toNat ≠ chosen.toNat) → w.score = none) := by
  refine ⟨_, rfl, chosen_station h, fun v earlier same => ?_, fun none => ?_⟩
  · have station : v.station = chosen.extractLsb' 0 4 := BitVec.eq_of_toNat_eq (same.trans (chosen_station h).symm)
    simp [earlier, station]
  · cases earlier : e.winner with
    | none => rfl
    | some v =>
      have other : v.station ≠ chosen.extractLsb' 0 4 := fun station =>
        none v earlier ((congrArg BitVec.toNat station).trans (chosen_station h))
      simp [other]

@[simp] theorem rid_liveElsewhere (n : BitVec 4) (now : Word) (e : Entry) : (e.liveElsewhere n now).rid = e.rid := rfl
@[simp] theorem rid_terminalElsewhere (n : BitVec 4) (e : Entry) : (e.terminalElsewhere n).rid = e.rid := rfl

theorem closeStretch_of_quiet {rid : ReqId} {s : State} (quiet : s.lif.stretch = none) : closeStretch rid s =
    { s with lif.mark := s.lif.mark.map (fun m => if m.rid = rid then { m with closed := true } else m) } := by
  simp [closeStretch, quiet]

/-- Settles O39, by the state of the entry. -/
theorem assignElsewhereEndsInterest : Obligations.AssignElsewhereEndsInterest := by
  intro s rid chosen slot works ends nothing low other
  let n : BitVec 4 := chosen.extractLsb' 0 4
  have quiet := tx_of_listening (listening_of_receiving ends.1)
  have run : exec (.assignOther rid chosen slot) s = .next (settle (takeAssignElsewhere rid n (toSpace s))) := by
    have elsewhere : takeAssign rid chosen (toSpace s) = takeAssignElsewhere rid n (toSpace s) :=
      (if_neg (Nat.not_lt.2 low)).trans (if_neg other)
    rw [exec_assignOther rid chosen slot works ends, elsewhere]
  have still : settle (toSpace s) = toSpace s := settle_of_nothingDue (nothingDue_toSpace nothing)
  -- a rewritten entry that is not HEARD makes nothing due
  have rewritten {f : Entry → Entry} (unheard : ∀ e, (f e).state ≠ .heard) : NothingDue (modEntry rid f (toSpace s)) :=
    nothingDue_modEntry (nothingDue_toSpace nothing) (fun e _ => unheard e)
  have unheard : ∀ e : Entry, (e.liveElsewhere n s.rhs.seconds).state ≠ .heard := fun e => by
    simp [Entry.liveElsewhere, Entry.ended]
  rw [run]
  refine ⟨fun unknown => ?_, fun e entry => ?_⟩
  · have missing : (toSpace s).entry? rid = none := unknown
    simp only [takeAssignElsewhere, missing, still]
    rfl
  have found : (toSpace s).entry? rid = some e := entry
  have written {f : Entry → Entry} (keeps : ∀ e, (f e).rid = e.rid) :
      (modEntry rid f (toSpace s)).entry? rid = some (f e) := by
    rw [entry?_modEntry_same keeps, found]
    rfl
  have untouched {f : Entry → Entry} (keeps : ∀ e, (f e).rid = e.rid) (r : ReqId) (apart : r ≠ rid) :
      (modEntry rid f (toSpace s)).entry? r = s.entry? r := entry?_modEntry_other keeps apart _
  refine ⟨fun promised => ?_, fun waits => ?_, fun contends => ?_, fun o sl offered offer place role own => ?_,
    fun sat => ?_, fun closed => ?_⟩
  · have taken : takeAssignElsewhere rid n (toSpace s) = bump .assignConflict (toSpace s) := by
      rcases promised with h | h <;> simp only [takeAssignElsewhere, found, h]
    rw [taken, settle_of_nothingDue (nothingDue_bump (nothingDue_toSpace nothing))]
    rfl
  · let u : State := { modEntry rid (Entry.liveElsewhere n s.rhs.seconds) (toSpace s) with
      lif.mark := s.lif.mark.map (fun m => if m.rid = rid then { m with closed := true } else m) }
    have unstretched : s.lif.stretch = none := stretch_of_receiving ends.1
    have taken : takeAssignElsewhere rid n (toSpace s) = u := by
      refine Eq.trans ?_
        (closeStretch_of_quiet (s := modEntry rid (Entry.liveElsewhere n s.rhs.seconds) (toSpace s)) unstretched)
      rcases waits with h | h <;> simp only [takeAssignElsewhere, found, h] <;> rfl
    have due : NothingDue u := nothingDue_congr (rewritten unheard) id rfl rfl rfl
    rw [taken, settle_of_nothingDue due]
    exact ⟨_, _, rfl, written (rid_liveElsewhere _ _), rfl, chosen_winner low e, rfl, untouched (rid_liveElsewhere _ _),
      rfl⟩
  · let u : State := { modEntry rid (Entry.liveElsewhere n s.rhs.seconds) (toSpace s) with
      lif.register := none, lif.lossPending := false }
    have taken : takeAssignElsewhere rid n (toSpace s) = u := by
      refine Eq.trans ?_ (clearRegister_of_idle (s := modEntry rid (Entry.liveElsewhere n s.rhs.seconds) (toSpace s)) quiet)
      simp only [takeAssignElsewhere, found, contends]
      rfl
    have due : NothingDue u := nothingDue_congr (rewritten unheard) id rfl rfl rfl
    rw [taken, settle_of_nothingDue due]
    refine ⟨_, _, rfl, written (rid_liveElsewhere _ _), rfl, chosen_winner low e, rfl, rfl,
      untouched (rid_liveElsewhere _ _), ?_⟩
    apply state_ext
    case lif => simp [u, toSpace, ends.2.1]
    all_goals rfl
  · have same : e.rid = rid := (entry?_mem entry).2
    let u : State := modEntry rid (Entry.liveElsewhere n s.rhs.seconds) (toSpace s)
    have taken : takeAssignElsewhere rid n (toSpace s) = setRole o.slot .free none u := by
      rw [← freePledge_of_pledged (e := e) (s := u) offer place role (same ▸ own)]
      simp only [takeAssignElsewhere, found, offered]
      rfl
    rw [taken]
    refine ⟨_, e.liveElsewhere n s.rhs.seconds, rfl, ?_, rfl, chosen_winner low e, rfl, ?_, settle_setRole_pass works,
      by simp [u, toSpace], ?_⟩
    · exact settle_modEntry (u := toSpace s) (rid_liveElsewhere _ _) unheard entry rfl rfl
    · simp [setRole_free_slots, u, toSpace]
    · have svy : (settle (setRole o.slot .free none u)).svy = s.svy := settle_svy_of_notDue works nothing (by simp [u, toSpace])
      apply state_ext
      case svy => exact svy
      all_goals simp [u, toSpace]
  · have taken : takeAssignElsewhere rid n (toSpace s) = modEntry rid (Entry.terminalElsewhere n) (toSpace s) := by
      rcases sat with h | h <;> simp only [takeAssignElsewhere, found, h]
    rw [taken, settle_of_nothingDue (rewritten (fun e => by simp [Entry.terminalElsewhere]))]
    exact ⟨_, _, rfl, written (rid_terminalElsewhere _), rfl, chosen_winner low e, rfl,
      untouched (rid_terminalElsewhere _), rfl⟩
  · have taken : takeAssignElsewhere rid n (toSpace s) = toSpace s := by
      rcases closed with h | h | h | h | h | h <;> simp only [takeAssignElsewhere, found, h]
    rw [taken, still]
    rfl

/-! ### The ASSIGN that makes the hold (O38) -/

theorem recheckPower_iff {e : Entry} {n : Nat} {p : Pack} {s : State} : recheckPower e n p s = true ↔
    ((s.sul.state = .active ∨ s.sul.state = .withdrawn) →
      ReadyInTime s.sul.cfg (prospectiveReady s.sul.cfg s.alw.grant s.views n p) e.eta e.rider) := by
  rw [readyInTime_iff]
  unfold recheckPower
  split
  · next offering => simp [offering]
  · next silent => simp [silent]

theorem recheck_iff {e : Entry} {o : OwnOffer} {s : State} : recheck e o s = true ↔ PassesRecheck e o s := by
  unfold recheck PassesRecheck State.slot?
  cases slot : s.slots[o.slot]? with
  | none => simp
  | some sl =>
    dsimp only
    cases pack : sl.pack with
    | none => simp [pack]
    | some p =>
      simp only [Bool.and_eq_true, decide_eq_true_eq, Bool.not_eq_true', recheckPower_iff]
      constructor
      · rintro ⟨⟨⟨⟨⟨⟨⟨⟨cond, ok⟩, cut⟩, role⟩, own⟩, id⟩, cls⟩, soh⟩, power⟩
        exact ⟨sl, p, rfl, pack, cond, ok, cut, role, own, id, cls, cls ▸ soh, power⟩
      · rintro ⟨_, _, ⟨⟩, same, cond, ok, cut, role, own, id, cls, soh, power⟩
        cases pack.symm.trans same
        exact ⟨⟨⟨⟨⟨⟨⟨⟨cond, ok⟩, cut⟩, role⟩, own⟩, id⟩, cls⟩, cls.symm ▸ soh⟩, power⟩

/-- A record takes the lowest-numbered empty place (R169). -/
theorem placeHold_append {r : HoldRecord} {before after : List (Option HoldRecord)} (full : none ∉ before) :
    placeHold r (before ++ none :: after) = before ++ some r :: after := by
  induction before with
  | nil => rfl
  | cons x before ih =>
    obtain ⟨h, rfl⟩ := Option.ne_none_iff_exists'.1 (fun k => full (k ▸ List.mem_cons_self))
    exact congrArg (some h :: ·) (ih (fun k => full (List.mem_cons_of_mem _ k)))

theorem putHold_of_absent {r : HoldRecord} {l : List (Option HoldRecord)} (absent : ∀ h, some h ∈ l → h.rid ≠ r.rid) :
    putHold r l = placeHold r l := by
  refine if_neg fun held => ?_
  obtain ⟨x, mem, holds⟩ := List.any_eq_true.1 held
  obtain ⟨h, rfl, same⟩ := holdsFor_iff.1 holds
  exact absent h mem same

theorem syncRecord_of_record {rid : ReqId} {s : State} {e : Entry} {r : HoldRecord} (entry : s.entry? rid = some e)
    (record : e.record = some r) : syncRecord rid s = { s with rhs.holds := putHold r s.rhs.holds } := by
  simp [syncRecord, entry, record]

@[simp] theorem rid_held (n : Nat) (d : Word) (e : Entry) : (e.held n d).rid = e.rid := rfl

/-! #### Frames offered to the queue -/

theorem enqueue_lif_congr {s t : State} (lif : t.lif = s.lif) (f : TxFrame) :
    (enqueue f t).lif = (enqueue f s).lif := by
  simp only [enqueue, lif]
  split
  · rfl
  · split
    · simp [pushFrame, lif]
    · split
      · split <;> simp [pushFrame, lif]
      · exact lif

theorem enqueue_counters_congr {s t : State} (lif : t.lif = s.lif) (counters : t.counters = s.counters) (f : TxFrame) :
    (enqueue f t).counters = (enqueue f s).counters := by
  simp only [enqueue, lif]
  split
  · exact counters
  · split
    · exact counters
    · split
      · split <;> simp [pushFrame, bump, counters]
      · simp [bump, counters]

theorem decline_lif_congr {s t : State} (lif : t.lif = s.lif) (rid : ReqId) (r : DeclineReason) :
    (decline rid r t).lif = (decline rid r s).lif := enqueue_lif_congr (s := bump r.counter s) (t := bump r.counter t) lif _

theorem decline_counters_congr {s t : State} (lif : t.lif = s.lif) (counters : t.counters = s.counters) (rid : ReqId)
    (r : DeclineReason) : (decline rid r t).counters = (decline rid r s).counters :=
  enqueue_counters_congr (s := bump r.counter s) (t := bump r.counter t) lif (by simp [bump, counters]) _

/-- Settles O38: by `recheck_iff`, and by the slot that passes or fails. -/
theorem assignMakesTheHold : Obligations.AssignMakesTheHold := by
  refine ⟨fun _ _ _ => recheck_iff, ?_⟩
  intro s rid chosen slot e o works ends here entry offered offer
  have same : e.rid = rid := (entry?_mem entry).2
  have run : exec (.assign rid chosen slot) s = .next (settle (takeAssignHere rid (toSpace s))) := by
    have station : takeAssign rid chosen (toSpace s) = takeAssignHere rid (toSpace s) :=
      (if_neg (by have := s.sul.station.isLt; omega)).trans (if_pos here)
    rw [exec_assign rid chosen slot works ends, station]
  have found : (toSpace s).entry? rid = some e := entry
  refine ⟨fun passes absent => ?_, fun sl fails place => ?_⟩
  · let d : Word := inMinutes s.rhs.seconds (e.eta + s.sul.cfg.holdGrace)
    let r : HoldRecord := ⟨rid, o.slot, d, e.packClass, e.returnClass, e.rider, e.eta⟩
    let u : State := modEntry rid (Entry.held o.slot d) (setRole o.slot .held (some rid) (toSpace s))
    have again : recheck e o (toSpace s) = true := passes
    have held : u.entry? rid = some (e.held o.slot d) := by
      have mapped := entry?_modEntry_same (rid_held o.slot d) rid (setRole o.slot .held (some rid) (toSpace s))
      rw [show (setRole o.slot .held (some rid) (toSpace s)).entry? rid = some e from found] at mapped
      exact mapped
    have record : (e.held o.slot d).record = some r := by simp [Entry.record, Entry.held, same, r]
    have taken : takeAssignHere rid (toSpace s) = { u with rhs.holds := putHold r s.rhs.holds } := by
      refine Eq.trans ?_ (syncRecord_of_record (s := u) held record)
      simp only [takeAssignHere, found, offered, offer, again, ne_eq, not_true_eq_false, if_false, if_true]
      rfl
    rw [run, taken]
    refine ⟨_, rfl, ?_, ?_, fun before after holds full => ?_, ?_, by simp [u, toSpace], ?_⟩
    · exact settle_modEntry (rid_held o.slot d) (by simp [Entry.held]) entry rfl rfl
    · simp [u, setRole_slots, toSpace]
    · have put : putHold r s.rhs.holds = before ++ some r :: after := by
        rw [putHold_of_absent absent, holds, placeHold_append full]
      exact (congrArg Rhs.holds (settle_frame _).2.2.2.2.2.1).trans put
    · exact settle_pass_isSome (s := { u with rhs.holds := _ }) works (.inl rfl)
    · apply state_ext <;> simp [u, toSpace]
  · let u : State := modEntry rid (Entry.ended .unassigned s.rhs.seconds) (toSpace s)
    have again : recheck e o (toSpace s) = false := fails
    have taken : takeAssignHere rid (toSpace s) = decline rid .notEligible (freePledge e u) := by
      simp only [takeAssignHere, found, offered, offer, again, ne_eq, not_true_eq_false, if_false]
      rfl
    rw [run, taken]
    refine ⟨_, e.ended .unassigned s.rhs.seconds, rfl, ?_, rfl, rfl, rfl, fun role own => ?_, fun other => ?_, ?_, ?_, ?_⟩
    · exact settle_modEntry (u := toSpace s) (rid_ended _ _) (by simp [Entry.ended]) entry (by simp [u]) rfl
    · rw [freePledge_of_pledged (e := e) (s := u) offer place role (same ▸ own)]
      simp [setRole_free_slots, u, toSpace]
    · rw [freePledge_of_offer offer, freeRole_of_not_owned (s := u) place (same ▸ other)]
      simp [u, toSpace]
    · rw [(settle_frame _).2.1]
      exact decline_lif_congr (s := toSpace s) (by simp [u]) rid .notEligible
    · rw [(settle_frame _).2.2.2.2.2.2.2.1]
      exact decline_counters_congr (s := toSpace s) (by simp [u]) (by simp [u]) rid .notEligible
    · apply state_ext <;> simp [u, toSpace]

/-! ### The UPDATE (O42) -/

/-- An entry whose ETA an UPDATE replaces (R121). -/
def Entry.withEta (eta : Nat) (e : Entry) : Entry := { e with eta := eta }

/-- A HELD entry whose ETA an UPDATE replaces: the deadline and the hold timer follow (R120, R121). -/
def Entry.heldUntil (eta : Nat) (d : Word) (e : Entry) : Entry :=
  { e with eta := eta, deadline := some d, holdTimer := some d }

@[simp] theorem rid_heldUntil (eta : Nat) (d : Word) (e : Entry) : (e.heldUntil eta d).rid = e.rid := rfl

/-- With distinct request ids the entry of a request is its only one. -/
theorem notHeard_of_unique {s : State} {e : Entry} (unique : RequestIdsUnique s) (entry : s.entry? e.rid = some e)
    (h : e.state ≠ .heard) : NotHeard e.rid s := by
  intro x mem same
  have own : x = e := List.inj_on_of_nodup_map unique.1 mem (entry?_mem entry).1 same
  exact own ▸ h

theorem putHold_of_present {r h : HoldRecord} {l : List (Option HoldRecord)} (held : some h ∈ l) (own : h.rid = r.rid) :
    putHold r l = l.map (fun x => x.map (fun y => if y.rid = r.rid then r else y)) := by
  have holds : l.any (holdsFor r.rid) = true := List.any_eq_true.2 ⟨_, held, holdsFor_iff.2 ⟨h, rfl, own⟩⟩
  refine (if_pos holds).trans (List.map_congr_left fun x _ => ?_)
  cases x with
  | none => rfl
  | some y => by_cases same : y.rid = r.rid <;> simp [holdsFor, same]

/-- Settles O42, by the state of the entry. -/
theorem updateMovesTheDeadline : Obligations.UpdateMovesTheDeadline := by
  intro s rid eta works ends
  rw [exec_update rid eta works ends]
  have still (nothing : NothingDue s) : settle (toSpace s) = toSpace s := settle_of_nothingDue (nothingDue_toSpace nothing)
  refine ⟨fun unknown nothing => ?_, fun e entry closed nothing => ?_, fun e entry nothing waits => ?_,
    fun e n h entry held slot mem own => ?_⟩
  · have missing : (toSpace s).entry? rid = none := unknown
    simp only [takeUpdate, missing, still nothing]
    rfl
  all_goals have found : (toSpace s).entry? rid = some e := entry
  · have taken : takeUpdate rid eta (toSpace s) = toSpace s := by
      simp only [takeUpdate, found]
      cases state : e.state <;> simp [state, EntryState.live] at closed <;> rfl
    rw [taken, still nothing]
    rfl
  · have taken : takeUpdate rid eta (toSpace s) = modEntry rid (Entry.withEta (etaOf eta)) (toSpace s) := by
      rcases waits with h | h | h | h <;> simp only [takeUpdate, found, h] <;> rfl
    have due : NothingDue (modEntry rid (Entry.withEta (etaOf eta)) (toSpace s)) :=
      nothingDue_modEntry (nothingDue_toSpace nothing) (fun _ h => h)
    rw [taken, settle_of_nothingDue due]
    refine ⟨_, rfl, ?_, rfl⟩
    rw [entry?_modEntry_same (f := Entry.withEta (etaOf eta)) (fun _ => rfl), found]
    rfl
  · intro d
    have same : e.rid = rid := (entry?_mem entry).2
    let f : Entry → Entry := Entry.heldUntil (etaOf eta) d
    let r : HoldRecord := ⟨rid, n, d, e.packClass, e.returnClass, e.rider, etaOf eta⟩
    let u : State := modEntry rid f (toSpace s)
    have written : u.entry? rid = some (f e) := by
      rw [entry?_modEntry_same (rid_heldUntil (etaOf eta) d), found]
      rfl
    have record : (f e).record = some r := by simp [f, Entry.heldUntil, Entry.record, slot, same, r]
    have taken : takeUpdate rid eta (toSpace s) = setReplan { u with rhs.holds := putHold r s.rhs.holds } := by
      refine Eq.trans ?_ (congrArg setReplan (syncRecord_of_record (s := u) written record))
      simp only [takeUpdate, found, held]
      rfl
    rw [taken]
    refine ⟨_, rfl, fun unique => ?_, ?_, settle_pass_isSome works (.inl rfl), by simp [u, toSpace],
      by simp [u, toSpace], by simp [u, toSpace], by simp [u, toSpace], by simp [u, toSpace], by simp [u, toSpace]⟩
    · have silent : NotHeard rid u := by
        intro x mem own'
        obtain ⟨y, hy, rfl⟩ := List.mem_map.1 mem
        by_cases isOwn : y.rid = rid
        · have quiet : NotHeard e.rid s := notHeard_of_unique unique (same ▸ entry) (by simp [held])
          rw [if_pos isOwn]
          exact quiet y hy (isOwn.trans same.symm)
        · rw [if_neg isOwn] at own'
          exact absurd own' isOwn
      exact (entry?_settle (s := setReplan { u with rhs.holds := putHold r s.rhs.holds }) silent).trans written
    · exact (congrArg Rhs.holds (settle_frame _).2.2.2.2.2.1).trans (putHold_of_present mem own)

end Sys2Proof.Machine
end

section
/-! Proofs of the statement about a BEGIN or an ASSIGN that starts nothing (O45), and what the serve queue's numbering
does to the book (R145). -/

namespace Sys2Proof.Machine

open Sys2Proof

/-! ### What makes nothing due -/

theorem nothingDue_enqueue {f : TxFrame} {s : State} (h : NothingDue s) : NothingDue (enqueue f s) :=
  nothingDue_congr h (by simp [operates]) (by simp) (by simp) (by simp)

theorem nothingDue_decline {rid : ReqId} {r : DeclineReason} {s : State} (h : NothingDue s) :
    NothingDue (decline rid r s) := nothingDue_enqueue (nothingDue_bump h)

/-! ### Serve positions (R145) -/

/-- An entry with its place in the serve queue `q` (R145). -/
def Entry.numbered (q : List ReqId) (e : Entry) : Entry :=
  if q[0]? = some e.rid then { e with servePos := some .queued1 }
  else if q[1]? = some e.rid then { e with servePos := some .queued2 }
  else e

theorem renumberQueue_eq (s : State) :
    renumberQueue s = { s with ofe.book := s.ofe.book.map (Entry.numbered s.seq.queue) } := rfl

@[simp] theorem rid_numbered (q : List ReqId) (e : Entry) : (e.numbered q).rid = e.rid := by
  unfold Entry.numbered
  split
  · rfl
  · split <;> rfl

@[simp] theorem state_numbered (q : List ReqId) (e : Entry) : (e.numbered q).state = e.state := by
  unfold Entry.numbered
  split
  · rfl
  · split <;> rfl

theorem numbered_of_not_mem {q : List ReqId} {e : Entry} (h : e.rid ∉ q) : e.numbered q = e := by
  have none (i : Nat) : q[i]? ≠ some e.rid := fun at_ => h (List.mem_of_getElem? at_)
  simp [Entry.numbered, none]

theorem entry?_renumberQueue (rid : ReqId) (s : State) :
    (renumberQueue s).entry? rid = (s.entry? rid).map (Entry.numbered s.seq.queue) := by
  have place : ((fun e : Entry => decide (e.rid = rid)) ∘ Entry.numbered s.seq.queue) = fun e => decide (e.rid = rid) := by
    funext e
    simp
  rw [renumberQueue_eq, State.entry?, List.find?_map, place]
  rfl

theorem nothingDue_renumberQueue {s : State} (h : NothingDue s) : NothingDue (renumberQueue s) := by
  intro works
  obtain ⟨pass, heard, focus⟩ := h works
  refine ⟨pass, fun idle e mem => ?_, focus⟩
  obtain ⟨x, hx, rfl⟩ := List.mem_map.1 mem
  exact (state_numbered s.seq.queue x).symm ▸ heard idle x hx

/-! ### The BEGIN (O45) -/

theorem targeted_own {s : State} {target : Byte} (h : target.toNat = s.sul.station.toNat) :
    targeted s target = true := by
  simp [targeted, h]

theorem exec_beginSwap {target : Byte} (rid : ReqId) {s : State} (works : operates s = true) (ends : FrameMayEnd s)
    (here : targeted s target = true) :
    exec (.beginSwap target rid) s = .next (settle (takeBeginFrame target rid (toSpace s))) := by
  refine (congrArg Host.Outcome.next (receiveGood_plain ends here (fun _ => rfl))).trans ?_
  exact congrArg (fun t => Host.Outcome.next (settle t)) (if_neg (haltedConfig_of_operates (s := toSpace s) works))

theorem exec_beginSwap_own {target : Byte} (rid : ReqId) {s : State} (works : operates s = true) (ends : FrameMayEnd s)
    (here : target.toNat = s.sul.station.toNat) :
    exec (.beginSwap target rid) s = .next (settle (takeBegin rid (toSpace s))) := by
  rw [exec_beginSwap rid works ends (targeted_own here)]
  exact congrArg (fun t => Host.Outcome.next (settle t)) (if_pos here)

/-- Settles O45, by the cases of R146 and of R138. -/
theorem beginQueuedOrDeclined : Obligations.BeginQueuedOrDeclined := by
  intro s target rid works ends nothing u
  have rest : NothingDue u := nothingDue_toSpace nothing
  have refused (r : DeclineReason) : settle (decline rid r u) = decline rid r u :=
    settle_of_nothingDue (nothingDue_decline rest)
  have malformed : settle (bump .malformed u) = bump .malformed u := settle_of_nothingDue (nothingDue_bump rest)
  refine ⟨fun other here => ?_, fun own => ?_, fun chosen slot high => ?_, fun chosen slot own => ?_⟩
  · rw [exec_beginSwap rid works ends here, ← malformed]
    exact congrArg (fun t => Host.Outcome.next (settle t)) (if_neg other)
  · rw [exec_beginSwap_own rid works ends own]
    refine ⟨fun unknown => ?_, fun e entry other => ?_, fun e entry held => ?_⟩
    · have missing : u.entry? rid = none := unknown
      have taken : takeBegin rid u = decline rid .unknown u := by simp [takeBegin, missing]
      exact congrArg Host.Outcome.next ((congrArg settle taken).trans (refused _))
    all_goals have found : u.entry? rid = some e := entry
    · have taken : takeBegin rid u = decline rid .unknown u := by simp [takeBegin, found, other]
      exact congrArg Host.Outcome.next ((congrArg settle taken).trans (refused _))
    · refine ⟨fun withdrawn => ?_, fun holdup => ?_, fun state busy => ⟨fun full => ?_, fun room new => ?_⟩⟩
      · have taken : takeBegin rid u = decline rid .service u := by simp [takeBegin, found, held, u, withdrawn]
        exact congrArg Host.Outcome.next ((congrArg settle taken).trans (refused _))
      · have taken : takeBegin rid u = decline rid .supply u := by simp [takeBegin, found, held, u, holdup]
        exact congrArg Host.Outcome.next ((congrArg settle taken).trans (refused _))
      all_goals
        have active : s.seq.active.isNone = false := by rw [Option.isNone_eq_false_iff]; exact busy
        have offers : s.sul.state ≠ .withdrawn ∧ s.sul.state ≠ .holdup := by rcases state with h | h <;> simp [h]
      · have taken : takeBegin rid u = decline rid .busy u := by
          simp [takeBegin, found, held, u, offers, active, Nat.not_lt.2 full]
        exact congrArg Host.Outcome.next ((congrArg settle taken).trans (refused _))
      · let v : State := modEntry rid (Entry.serving .queued1) { u with seq.queue := s.seq.queue ++ [rid] }
        have taken : takeBegin rid u = renumberQueue v := by
          simp [takeBegin, found, held, u, offers, active, room, v]
        have due : NothingDue (renumberQueue v) := nothingDue_renumberQueue
          (nothingDue_modEntry (nothingDue_congr rest id rfl rfl rfl) (by simp [Entry.serving]))
        have same : e.rid = rid := (entry?_mem entry).2
        have served : v.entry? rid = some (e.serving .queued1) := by
          rw [entry?_modEntry_same (f := Entry.serving .queued1) (fun _ => rfl)]
          exact congrArg (Option.map (Entry.serving .queued1)) found
        refine ⟨_, congrArg Host.Outcome.next ((congrArg settle taken).trans (settle_of_nothingDue due)), rfl, ?_, rfl⟩
        rw [entry?_renumberQueue, served]
        have place : (e.serving .queued1).numbered (s.seq.queue ++ [rid]) =
            { e with state := .serving, servePos := some (if s.seq.queue = [] then .queued1 else .queued2),
                     holdTimer := none } := by
          match queue : s.seq.queue, room with
          | [], _ => simp [Entry.numbered, Entry.serving, same]
          | [r], _ =>
            have apart : r ≠ rid := fun h => new (by simp [queue, h])
            simp [Entry.numbered, Entry.serving, same, apart]
        exact congrArg some place
  · have taken : takeAssign rid chosen u = bump .malformed u := if_pos high
    rw [exec_assign rid chosen slot works ends, exec_assignOther rid chosen slot works ends, ← malformed]
    exact ⟨congrArg (fun t => Host.Outcome.next (settle t)) taken, congrArg (fun t => Host.Outcome.next (settle t)) taken⟩
  · have station : takeAssign rid chosen u = takeAssignHere rid u :=
      (if_neg (by have := s.sul.station.isLt; omega)).trans (if_pos own)
    have run : exec (.assign rid chosen slot) s = .next (settle (takeAssignHere rid u)) := by
      rw [exec_assign rid chosen slot works ends, ← station]
      rfl
    rw [run]
    refine ⟨fun unknown => ?_, fun e entry late => ?_, fun e entry notLate notOffered => ?_⟩
    · have missing : u.entry? rid = none := unknown
      have taken : takeAssignHere rid u = decline rid .unknown u := by simp [takeAssignHere, missing]
      exact congrArg Host.Outcome.next ((congrArg settle taken).trans (refused _))
    all_goals have found : u.entry? rid = some e := entry
    · have taken : takeAssignHere rid u = decline rid .late u := by
        simp [takeAssignHere, found, late, assignRefusal]
      exact congrArg Host.Outcome.next ((congrArg settle taken).trans (refused _))
    · have reason : assignRefusal e.state = .notEligible := by
        cases state : e.state
        case unassigned => exact absurd state notLate
        all_goals rfl
      have taken : takeAssignHere rid u = decline rid .notEligible u := by
        simp [takeAssignHere, found, notOffered, reason]
      exact congrArg Host.Outcome.next ((congrArg settle taken).trans (refused _))

end Sys2Proof.Machine
end

section
/-! Swaps that start: RETURN_OPEN, the hand-back, and what a look at the serve queue does (R143 to R147). -/

namespace Sys2Proof.Machine

open Sys2Proof

/-! ### The dock -/

theorem dockSlot_congr {s t : State} (h : t.slots = s.slots) : dockSlot t = dockSlot s := by
  simp [dockSlot, State.findSlot, h]

theorem dockSlot_eq_some_iff {s : State} {d : Nat} : dockSlot s = some d ↔ IsDock s.slots d := by
  rw [dockSlot, State.findSlot, List.findIdx?_eq_some_iff_getElem]
  constructor
  · rintro ⟨inside, isDock, lower⟩
    refine ⟨⟨s.slots[d], List.getElem?_eq_getElem inside, by simpa using isDock⟩, fun m y below place => ?_⟩
    obtain ⟨_, rfl⟩ := List.getElem?_eq_some_iff.1 place
    simpa using lower m below
  · rintro ⟨⟨x, place, isDock⟩, lower⟩
    obtain ⟨inside, rfl⟩ := List.getElem?_eq_some_iff.1 place
    exact ⟨inside, by simpa using isDock, fun m below => by
      simpa using lower m _ below (List.getElem?_eq_getElem (below.trans inside))⟩

theorem dockSlot_eq_none_iff {s : State} : dockSlot s = none ↔ ∀ x ∈ s.slots, ¬ (x.cond = .empty ∧ x.role = .free) := by
  simp [dockSlot, State.findSlot, List.findIdx?_eq_none_iff]

theorem dockSlot_isSome {s : State} (h : ∃ x ∈ s.slots, x.cond = .empty ∧ x.role = .free) :
    ∃ d, dockSlot s = some d := by
  obtain ⟨x, mem, isDock⟩ := h
  exact Option.ne_none_iff_exists'.1 fun none => dockSlot_eq_none_iff.1 none x mem isDock

/-! ### RETURN_OPEN and the hand-back (R147) -/

theorem openReturnAt_eq {s : State} {w : Swap} (d : Nat) (active : s.seq.active = some w) : openReturnAt d s = { s with
    slots := s.slots.modify d (fun x => { x with unlocked := true })
    svy.focus := some d
    seq := { s.seq with active := some { w with step := .returnOpen, dock := some d, resume := none },
                        timer := some (.ret, s.sul.cfg.returnTimer * 1000) }
    rhs.progress := some ⟨w.rid, .returnOpen, d, w.release, w.returned⟩ } := by
  simp [openReturnAt, writeProgress, modSwap, startTimer, setFocus, setLatch, modSlot, active, progressOf, progressStep]

theorem openReturn_of_dock {s : State} {w : Swap} {d : Nat} (dock : dockSlot s = some d) (active : s.seq.active = some w)
    (rid : ReqId) : openReturn rid s = { s with
    slots := s.slots.modify d (fun x => { x with role := .dock, rid := some rid, unlocked := true })
    svy.focus := some d
    pln.replan := true
    seq := { s.seq with active := some { w with step := .returnOpen, dock := some d, resume := none },
                        timer := some (.ret, s.sul.cfg.returnTimer * 1000) }
    rhs.progress := some ⟨w.rid, .returnOpen, d, w.release, w.returned⟩ } := by
  have opened := openReturnAt_eq (s := setRole d .dock (some rid) s) d active
  simp only [openReturn, dock, opened, setRole_slots (r := .dock) (by simp), List.modify_modify_eq]
  rfl

theorem openReturn_of_none {s : State} (none : dockSlot s = none) (rid : ReqId) :
    openReturn rid s = handBack rid s := by
  simp [openReturn, none]

@[simp] theorem rid_heldAgain (d : Word) (e : Entry) : (e.heldAgain d).rid = e.rid := rfl

/-- A request handed back: HELD with a fresh deadline, its record rewritten (R147). -/
theorem holdAgain_eq {rid : ReqId} {s : State} {e : Entry} {n : Nat} (entry : s.entry? rid = some e)
    (slot : e.heldSlot = some n) : let d := inMinutes s.rhs.seconds s.sul.cfg.holdGrace
    holdAgain rid s = setReplan { modEntry rid (Entry.heldAgain d) s with
      rhs.holds := putHold ⟨rid, n, d, e.packClass, e.returnClass, e.rider, e.eta⟩ s.rhs.holds } := by
  intro d
  have same : e.rid = rid := (entry?_mem entry).2
  have written : (modEntry rid (Entry.heldAgain d) s).entry? rid = some (e.heldAgain d) := by
    rw [entry?_modEntry_same (rid_heldAgain d), entry]
    rfl
  exact congrArg setReplan (syncRecord_of_record written (by simp [Entry.record, Entry.heldAgain, slot, same]))

theorem holdAgain_book (rid : ReqId) (s : State) : (holdAgain rid s).ofe.book =
    (modEntry rid (Entry.heldAgain (inMinutes s.rhs.seconds s.sul.cfg.holdGrace)) s).ofe.book := by
  simp [holdAgain]

theorem holdAgain_progress (rid : ReqId) (s : State) : (holdAgain rid s).rhs.progress = s.rhs.progress := by
  simp only [holdAgain, syncRecord]
  split <;> rfl

theorem holdAgain_seconds (rid : ReqId) (s : State) : (holdAgain rid s).rhs.seconds = s.rhs.seconds := by
  simp only [holdAgain, syncRecord]
  split <;> rfl

/-! ### A request becomes the active swap (R143, R146) -/

/-- A swap that has not begun at the slots (R146). -/
def freshSwap (rid : ReqId) (n : Nat) : Swap := ⟨rid, .startingWait, none, n, none, none, none, none⟩

/-- A request stands in STARTING_WAIT (R143, R146). -/
def standing (rid : ReqId) (n : Nat) (s : State) : State :=
  modEntry rid (fun e => { e with servePos := some .active }) { s with seq.active := some (freshSwap rid n) }

theorem startSwap_eq {rid : ReqId} {s : State} {n : Nat}
    (release : ((s.entry? rid).bind (fun e => e.heldSlot)).getD 0 = n) :
    startSwap rid s = if s.seq.firstPassSeen then openReturn rid (standing rid n s) else standing rid n s := by
  subst release
  rfl

theorem startSwap_of_waiting {rid : ReqId} {s : State} {n : Nat} (release : (s.entry? rid).bind (fun e => e.heldSlot) = some n)
    (early : s.seq.firstPassSeen = false) : startSwap rid s = standing rid n s := by
  rw [startSwap_eq (n := n) (by simp [release]), early]
  rfl

theorem startSwap_of_dock {rid : ReqId} {s : State} {n d : Nat}
    (release : (s.entry? rid).bind (fun e => e.heldSlot) = some n) (seen : s.seq.firstPassSeen = true)
    (dock : dockSlot s = some d) : startSwap rid s = { standing rid n s with
      slots := s.slots.modify d (fun x => { x with role := .dock, rid := some rid, unlocked := true })
      svy.focus := some d
      pln.replan := true
      seq := { s.seq with active := some { freshSwap rid n with step := .returnOpen, dock := some d, resume := none },
                          timer := some (.ret, s.sul.cfg.returnTimer * 1000) }
      rhs.progress := some ⟨rid, .returnOpen, d, n, none⟩ } := by
  rw [startSwap_eq (n := n) (by simp [release]), seen, if_pos rfl,
    openReturn_of_dock (s := standing rid n s) (dock : dockSlot (standing rid n s) = some d) rfl]
  rfl

theorem startSwap_of_none {rid : ReqId} {s : State} (seen : s.seq.firstPassSeen = true) (none : dockSlot s = none) :
    startSwap rid s = handBack rid (standing rid (((s.entry? rid).bind (fun e => e.heldSlot)).getD 0) s) := by
  rw [startSwap_eq rfl, seen, if_pos rfl, openReturn_of_none (s := standing rid _ s) none]

/-! ### A look at the serve queue (R145) -/

theorem lookAtQueue_of_rest {s : State} (h : s.seq.queue = [] ∨ s.seq.active.isSome = true ∨ s.sul.state ≠ .active) :
    lookAtQueue s = s := by
  unfold lookAtQueue
  cases queue : s.seq.queue with
  | nil => rfl
  | cons rid rest =>
    have closed : ¬ (s.seq.active.isNone = true ∧ s.sul.state = .active) := by
      rintro ⟨idle, state⟩
      rcases h with h | h | h
      · simp [queue] at h
      · simp_all
      · exact h state
    rw [List.length_cons]
    unfold runQueue
    rw [queue]
    exact if_neg closed

theorem runQueue_cons {s : State} {rid : ReqId} {rest : List ReqId} (queue : s.seq.queue = rid :: rest)
    (idle : s.seq.active = none) (state : s.sul.state = .active) (n : Nat) :
    runQueue (n + 1) s = runQueue n (startSwap rid (renumberQueue { s with seq.queue := rest })) := by
  simp [runQueue, queue, idle, state]

theorem runQueue_of_busy {s : State} (h : s.seq.active.isSome = true) (n : Nat) : runQueue n s = s := by
  cases n with
  | zero => rfl
  | succ n =>
    unfold runQueue
    split
    · rfl
    · exact if_neg fun k => by simp_all

/-- The oldest queued request becomes the active swap, and no other starts (R145). -/
theorem lookAtQueue_starts {s : State} {rid : ReqId} {rest : List ReqId} (queue : s.seq.queue = rid :: rest)
    (idle : s.seq.active = none) (state : s.sul.state = .active)
    (starts : (startSwap rid (renumberQueue { s with seq.queue := rest })).seq.active.isSome = true) :
    lookAtQueue s = startSwap rid (renumberQueue { s with seq.queue := rest }) := by
  rw [lookAtQueue, queue, List.length_cons, runQueue_cons queue idle state, runQueue_of_busy starts]

/-! #### Entries that are not HEARD -/

theorem notHeard_map {g : Entry → Entry} (keeps : ∀ e, (g e).rid = e.rid)
    (quiet : ∀ e, e.state ≠ .heard → (g e).state ≠ .heard) {r : ReqId} {s t : State}
    (book : t.ofe.book = s.ofe.book.map g) (h : NotHeard r s) : NotHeard r t := by
  intro e mem own
  rw [book] at mem
  obtain ⟨x, hx, rfl⟩ := List.mem_map.1 mem
  exact quiet x (h x hx ((keeps x).symm.trans own))

theorem notHeard_modEntry_of {f : Entry → Entry} (keeps : ∀ e, (f e).rid = e.rid)
    (quiet : ∀ e, e.state ≠ .heard → (f e).state ≠ .heard) {r rid : ReqId} {s : State} (h : NotHeard r s) :
    NotHeard r (modEntry rid f s) := by
  refine notHeard_map (g := fun e => if e.rid = rid then f e else e) (fun e => ?_) (fun e k => ?_) rfl h
  · split
    · exact keeps e
    · rfl
  · split
    · exact quiet e k
    · exact k

theorem notHeard_renumberQueue {r : ReqId} {s : State} (h : NotHeard r s) : NotHeard r (renumberQueue s) :=
  notHeard_map (g := Entry.numbered s.seq.queue) (rid_numbered _) (fun e k => by simpa using k) rfl h

/-! #### A queue that finds no dock (R147) -/

/-- The entry `e'` of a request is `e` handed back: HELD again in its slot with the deadline `d` (R147). -/
def BackInHold (d : Word) (e e' : Entry) : Prop :=
  e'.state = .held ∧ e'.heldSlot = e.heldSlot ∧ e'.servePos = none ∧ e'.deadline = some d

/-- What the requests of `q` have come to from `u` to `f`, with the deadline `d` for those handed back; no other entry
changes (R147). -/
def AllBack (d : Word) (q : List ReqId) (u f : State) : Prop :=
  (∀ r ∈ q, NotHeard r f ∧ ∀ e, u.entry? r = some e → ∃ e', f.entry? r = some e' ∧ BackInHold d e e') ∧
    ∀ r ∉ q, f.entry? r = u.entry? r ∧ (NotHeard r u → NotHeard r f)

@[simp] theorem heldSlot_numbered (q : List ReqId) (e : Entry) : (e.numbered q).heldSlot = e.heldSlot := by
  unfold Entry.numbered
  split
  · rfl
  · split <;> rfl

/-- The entry of a queued request that was taken up and handed back (R145, R147). -/
def Entry.handedBack (d : Word) (e : Entry) : Entry := Entry.heldAgain d { e with servePos := some .active }

@[simp] theorem rid_handedBack (d : Word) (e : Entry) : (e.handedBack d).rid = e.rid := rfl

theorem state_handedBack (d : Word) (e : Entry) : (e.handedBack d).state ≠ .heard := by
  simp [Entry.handedBack, Entry.heldAgain]

/-- The oldest request of the queue is handed back (R145, R147). -/
def backFirst (rid : ReqId) (rest : List ReqId) (u : State) : State :=
  startSwap rid (renumberQueue { u with seq.queue := rest })

section
variable {u : State} {rid : ReqId} {rest : List ReqId} (none : dockSlot u = none) (seen : u.seq.firstPassSeen = true)
include none seen

theorem backFirst_eq : ∃ n, backFirst rid rest u =
    handBack rid (standing rid n (renumberQueue { u with seq.queue := rest })) :=
  ⟨_, startSwap_of_none (s := renumberQueue { u with seq.queue := rest }) seen none⟩

theorem backFirst_seq :
    (backFirst rid rest u).seq = { u.seq with queue := rest, active := Option.none, timer := Option.none } := by
  obtain ⟨n, back⟩ := backFirst_eq (rid := rid) (rest := rest) none seen
  rw [back]
  simp [handBack, standing, renumberQueue]

theorem backFirst_slots : (backFirst rid rest u).slots = u.slots := by
  obtain ⟨n, back⟩ := backFirst_eq (rid := rid) (rest := rest) none seen
  rw [back]
  simp [handBack, standing, renumberQueue]

theorem backFirst_progress : (backFirst rid rest u).rhs.progress = Option.none := by
  obtain ⟨n, back⟩ := backFirst_eq (rid := rid) (rest := rest) none seen
  rw [back]
  simp [handBack, holdAgain_progress]

theorem backFirst_seconds : (backFirst rid rest u).rhs.seconds = u.rhs.seconds := by
  obtain ⟨n, back⟩ := backFirst_eq (rid := rid) (rest := rest) none seen
  rw [back]
  simp [handBack, holdAgain_seconds, standing, renumberQueue]

theorem backFirst_book : (backFirst rid rest u).ofe.book =
    (modEntry rid (Entry.handedBack (inMinutes u.rhs.seconds u.sul.cfg.holdGrace)) (renumberQueue { u with seq.queue := rest })).ofe.book := by
  obtain ⟨n, back⟩ := backFirst_eq (rid := rid) (rest := rest) none seen
  have twice := modEntry_modEntry (rid := rid) (f := fun e => { e with servePos := some .active })
    (g := Entry.heldAgain (inMinutes u.rhs.seconds u.sul.cfg.holdGrace)) (fun _ => rfl)
    (renumberQueue { u with seq.queue := rest })
  rw [back]
  simp only [handBack, (decline_frame _ _ _).2.2.2.2.2.1, holdAgain_book]
  have books := congrArg (fun t : State => t.ofe.book) twice
  exact books

/-- The request handed back is HELD again with a fresh deadline (R147). -/
theorem backFirst_first : NotHeard rid (backFirst rid rest u) ∧ ∀ e, u.entry? rid = some e →
    ∃ e', (backFirst rid rest u).entry? rid = some e' ∧
      BackInHold (inMinutes u.rhs.seconds u.sul.cfg.holdGrace) e e' := by
  have book := backFirst_book (rid := rid) (rest := rest) none seen
  refine ⟨notHeard_congr book (notHeard_modEntry (state_handedBack _)), fun e entry => ?_⟩
  have found : (renumberQueue { u with seq.queue := rest }).entry? rid = some (e.numbered rest) :=
    (entry?_renumberQueue rid { u with seq.queue := rest }).trans (congrArg (Option.map (Entry.numbered rest)) entry)
  refine ⟨_, (entry?_congr book rid).trans ((entry?_modEntry_same (rid_handedBack _) rid _).trans
    (congrArg (Option.map _) found)), rfl, ?_, rfl, rfl⟩
  exact heldSlot_numbered rest e

/-- Another request moves up at most (R145). -/
theorem backFirst_other {r : ReqId} (apart : r ≠ rid) :
    (backFirst rid rest u).entry? r = (u.entry? r).map (Entry.numbered rest) ∧
      (NotHeard r u → NotHeard r (backFirst rid rest u)) := by
  have book := backFirst_book (rid := rid) (rest := rest) none seen
  refine ⟨?_, fun h => notHeard_congr book (notHeard_modEntry_of (rid_handedBack _) (fun e _ => state_handedBack _ e)
    (notHeard_renumberQueue (s := { u with seq.queue := rest }) h))⟩
  exact (entry?_congr book r).trans ((entry?_modEntry_other (rid_handedBack _) apart _).trans (entry?_renumberQueue r { u with seq.queue := rest }))

end

theorem backInHold_of_slot {d : Word} {e e₁ e' : Entry} (slot : e₁.heldSlot = e.heldSlot) (h : BackInHold d e₁ e') :
    BackInHold d e e' := ⟨h.1, h.2.1.trans slot, h.2.2⟩

/-- Without a dock each queued request is handed back in its turn, and the queue is empty (R145, R147). -/
theorem runQueue_drains {q : List ReqId} {u : State} (queue : u.seq.queue = q) (waiting : q ≠ [])
    (none : dockSlot u = none) (seen : u.seq.firstPassSeen = true) (idle : u.seq.active = Option.none)
    (state : u.sul.state = .active) :
    (runQueue q.length u).seq = { u.seq with queue := [], timer := Option.none } ∧
      (runQueue q.length u).slots = u.slots ∧ (runQueue q.length u).rhs.progress = Option.none ∧
      AllBack (inMinutes u.rhs.seconds u.sul.cfg.holdGrace) q u (runQueue q.length u) := by
  induction q generalizing u with
  | nil => exact absurd rfl waiting
  | cons rid rest ih =>
    let v : State := backFirst rid rest u
    have step : runQueue (rid :: rest).length u = runQueue rest.length v := runQueue_cons queue idle state rest.length
    have seq : v.seq = { u.seq with queue := rest, active := Option.none, timer := Option.none } := backFirst_seq none seen
    have slots : v.slots = u.slots := backFirst_slots none seen
    have deadline : inMinutes v.rhs.seconds v.sul.cfg.holdGrace = inMinutes u.rhs.seconds u.sul.cfg.holdGrace := by
      rw [show v.rhs.seconds = u.rhs.seconds from backFirst_seconds none seen,
        show v.sul = u.sul by simp [v, backFirst, renumberQueue]]
    obtain ⟨firstQuiet, firstBack⟩ := backFirst_first (rid := rid) (rest := rest) none seen
    -- an entry keeps its slot over the step
    have kept {r : ReqId} {e : Entry} (entry : u.entry? r = some e) :
        ∃ e₁, v.entry? r = some e₁ ∧ e₁.heldSlot = e.heldSlot := by
      by_cases own : r = rid
      · subst own
        obtain ⟨e', found, back⟩ := firstBack e entry
        exact ⟨e', found, back.2.1⟩
      · refine ⟨e.numbered rest, ?_, heldSlot_numbered rest e⟩
        exact (backFirst_other none seen own).1.trans (congrArg (Option.map (Entry.numbered rest)) entry)
    have unmoved {r : ReqId} (apart : r ≠ rid) (new : r ∉ rest) : v.entry? r = u.entry? r := by
      refine (backFirst_other none seen apart).1.trans ?_
      cases entry : u.entry? r with
      | none => rfl
      | some e => exact congrArg some (numbered_of_not_mem (by rwa [(entry?_mem entry).2]))
    by_cases last : rest = []
    · subst last
      have done : runQueue [rid].length u = v := step
      rw [done]
      refine ⟨by simp [seq, idle], slots, backFirst_progress none seen, fun r mem => ?_, fun r other => ?_⟩
      · obtain rfl : r = rid := by simpa using mem
        exact ⟨firstQuiet, firstBack⟩
      · have apart : r ≠ rid := by simpa using other
        exact ⟨unmoved apart (by simp), (backFirst_other none seen apart).2⟩
    · have queue' : v.seq.queue = rest := by rw [seq]
      obtain ⟨seq', slots', progress, back, others⟩ := ih queue' last ((dockSlot_congr slots).trans none) (by rw [seq]; exact seen)
        (by rw [seq]) (by simpa [v, backFirst, renumberQueue] using state)
      rw [deadline] at back
      rw [step]
      refine ⟨by simp [seq', seq, idle], slots'.trans slots, progress, fun r mem => ?_, fun r other => ?_⟩
      · by_cases later : r ∈ rest
        · obtain ⟨quiet, held⟩ := back r later
          refine ⟨quiet, fun e entry => ?_⟩
          obtain ⟨e₁, found, slot⟩ := kept entry
          obtain ⟨e', found', h⟩ := held e₁ found
          exact ⟨e', found', backInHold_of_slot slot h⟩
        · obtain rfl : r = rid := (List.mem_cons.1 mem).resolve_right later
          obtain ⟨same, quiet⟩ := others r later
          exact ⟨quiet firstQuiet, fun e entry => by rw [same]; exact firstBack e entry⟩
      · obtain ⟨apart, new⟩ : r ≠ rid ∧ r ∉ rest := by simpa using other
        obtain ⟨same, quiet⟩ := others r new
        exact ⟨same.trans (unmoved apart new), fun h => quiet ((backFirst_other none seen apart).2 h)⟩

end Sys2Proof.Machine
end

section
/-! What a look at the serve queue comes to at the end of its event (R143, R145 to R147), and the statements about the
BEGIN that opens a return, the CANCEL, and the holds that lapse (O41, O43, O44). -/

namespace Sys2Proof.Machine

open Sys2Proof

theorem settle_focus (s : State) : (settle s).svy.focus = s.svy.focus := by
  rw [settle_svy]
  unfold beginGapFocus
  split
  · split
    · rfl
    · rfl
  · rfl

/-! ### The look at the queue -/

theorem numbered_servePos (q : List ReqId) (p : Option ServePos) (e : Entry) :
    { e.numbered q with servePos := p } = { e with servePos := p } := by
  unfold Entry.numbered
  split
  · rfl
  · split <;> rfl

theorem numbered_of_head {q : List ReqId} {e : Entry} (h : q.head? = some e.rid) :
    e.numbered q = { e with servePos := some .queued1 } := by
  have first : q[0]? = some e.rid := by rw [← h, List.head?_eq_getElem?]
  simp [Entry.numbered, first]

/-- The serve queue with its oldest request taken out (R145). -/
def takenUp (rest : List ReqId) (u : State) : State := renumberQueue { u with seq.queue := rest }

section
variable {u : State} {rid : ReqId} {rest : List ReqId} {e : Entry} {n : Nat} (queue : u.seq.queue = rid :: rest)
  (idle : u.seq.active = none) (state : u.sul.state = .active) (entry : u.entry? rid = some e)
  (slot : e.heldSlot = some n)

theorem entry?_takenUp (r : ReqId) : (takenUp rest u).entry? r = (u.entry? r).map (Entry.numbered rest) :=
  entry?_renumberQueue r { u with seq.queue := rest }

include entry slot in
theorem release_takenUp : ((takenUp rest u).entry? rid).bind (fun e => e.heldSlot) = some n := by
  rw [entry?_takenUp, entry]
  exact (heldSlot_numbered rest e).trans slot

include queue idle state entry slot

/-- The oldest request stands in STARTING_WAIT until the first pass has ended (R143). -/
theorem lookAtQueue_stands (early : u.seq.firstPassSeen = false) :
    lookAtQueue u = standing rid n (takenUp rest u) := by
  have stands : startSwap rid (takenUp rest u) = standing rid n (takenUp rest u) :=
    startSwap_of_waiting (release_takenUp entry slot) early
  exact (lookAtQueue_starts queue idle state (by rw [← takenUp, stands]; rfl)).trans stands

/-- The oldest request is in RETURN_OPEN on the dock (R147). -/
theorem lookAtQueue_opens {d : Nat} (seen : u.seq.firstPassSeen = true) (dock : dockSlot u = some d) :
    lookAtQueue u = { standing rid n (takenUp rest u) with
      slots := u.slots.modify d (fun x => { x with role := .dock, rid := some rid, unlocked := true })
      svy.focus := some d
      pln.replan := true
      seq := { u.seq with active := some { freshSwap rid n with step := .returnOpen, dock := some d, resume := none },
                          queue := rest, timer := some (.ret, u.sul.cfg.returnTimer * 1000) }
      rhs.progress := some ⟨rid, .returnOpen, d, n, none⟩ } := by
  have opens := startSwap_of_dock (s := takenUp rest u) (release_takenUp entry slot) seen
    (dock : dockSlot (takenUp rest u) = some d)
  exact (lookAtQueue_starts queue idle state (by rw [← takenUp, opens]; rfl)).trans opens

/-- In both cases the request is the active one, and the next one moves up (R145). -/
theorem lookAtQueue_book (found : u.seq.firstPassSeen = false ∨ ∃ d, dockSlot u = some d) :
    (lookAtQueue u).ofe.book = (standing rid n (takenUp rest u)).ofe.book := by
  cases seen : u.seq.firstPassSeen with
  | false => rw [lookAtQueue_stands queue idle state entry slot seen]
  | true =>
    obtain ⟨d, dock⟩ := found.resolve_left (by simp [seen])
    rw [lookAtQueue_opens queue idle state entry slot seen dock]

end

theorem entry?_standing_same {rid : ReqId} {n : Nat} {s : State} {e : Entry} (entry : s.entry? rid = some e) :
    (standing rid n s).entry? rid = some { e with servePos := some .active } :=
  (entry?_modEntry_same (f := fun e => { e with servePos := some .active }) (fun _ => rfl) rid
    { s with seq.active := some (freshSwap rid n) }).trans (congrArg (Option.map _) entry)

theorem entry?_standing_other {rid r : ReqId} {n : Nat} {s : State} (apart : r ≠ rid) :
    (standing rid n s).entry? r = s.entry? r :=
  entry?_modEntry_other (f := fun e => { e with servePos := some .active }) (fun _ => rfl) apart
    { s with seq.active := some (freshSwap rid n) }

theorem notHeard_standing {rid r : ReqId} {n : Nat} {s : State} (h : NotHeard r s) : NotHeard r (standing rid n s) :=
  notHeard_modEntry_of (f := fun e => { e with servePos := some .active })
    (s := { s with seq.active := some (freshSwap rid n) }) (fun _ => rfl) (fun _ k => k) h

theorem notHeard_takenUp {r : ReqId} {rest : List ReqId} {s : State} (h : NotHeard r s) : NotHeard r (takenUp rest s) :=
  notHeard_renumberQueue (s := { s with seq.queue := rest }) h

/-- SEQ, idle, has looked at the serve queue: `u` is the state it looked from. -/
theorem queueLookedAt_settle {s u : State} {q : Seq} {slots : List Slot} (seq : u.seq = q) (idle : q.active = none)
    (place : u.slots = slots) (seconds : u.rhs.seconds = s.rhs.seconds) (cfg : u.sul.cfg = s.sul.cfg)
    (entries : ∀ r ∈ q.queue, u.entry? r = s.entry? r)
    (quiet : ∀ r ∈ q.queue, ∀ e, s.entry? r = some e → e.state = .serving → NotHeard r u) :
    QueueLookedAt s (settle (lookAtQueue u)) q slots := by
  subst seq place
  have station : (settle (lookAtQueue u)).sul = u.sul := by simp
  refine ⟨fun rest => ?_, fun rid rest e n state queue entry serving slot => ?_, fun state waiting seen noDock => ?_⟩
  · rw [station] at rest
    have still : lookAtQueue u = u := lookAtQueue_of_rest (rest.elim (fun h => .inr (.inr h)) .inl)
    simp [still]
  · rw [station] at state
    have own : rid ∈ u.seq.queue := by simp [queue]
    have found : u.entry? rid = some e := (entries rid own).trans entry
    refine ⟨fun early => ?_, fun d seen isDock => ?_, fun starts => ⟨?_, fun next e₂ head apart entry₂ serving₂ => ?_⟩⟩
    · have stands := lookAtQueue_stands queue idle state found slot early
      simp [stands, standing, takenUp, renumberQueue, freshSwap]
    · have opens := lookAtQueue_opens queue idle state found slot seen (dockSlot_eq_some_iff.2 isDock)
      refine ⟨⟨?_, ?_, ?_, ?_, ?_⟩, ?_⟩ <;> simp [opens, freshSwap, settle_focus, cfg]
    all_goals
      have dock : u.seq.firstPassSeen = false ∨ ∃ d, dockSlot u = some d :=
        starts.imp_right fun h => dockSlot_isSome h
      have book := lookAtQueue_book queue idle state found slot dock
    · have silent : NotHeard rid (lookAtQueue u) :=
        notHeard_congr book (notHeard_standing (notHeard_takenUp (quiet rid own e entry serving)))
      rw [entry?_settle silent, entry?_congr book, entry?_standing_same (e := e.numbered rest), numbered_servePos]
      exact (entry?_takenUp rid).trans (congrArg (Option.map _) found)
    · have own₂ : next ∈ u.seq.queue := by rw [queue]; exact List.mem_cons_of_mem _ (List.mem_of_head? head)
      have silent : NotHeard next (lookAtQueue u) :=
        notHeard_congr book (notHeard_standing (notHeard_takenUp (quiet next own₂ e₂ entry₂ serving₂)))
      have same : e₂.rid = next := (entry?_mem entry₂).2
      rw [entry?_settle silent, entry?_congr book, entry?_standing_other apart, entry?_takenUp,
        (entries next own₂).trans entry₂]
      exact congrArg some (numbered_of_head (by rw [same]; exact head))
  · rw [station] at state
    obtain ⟨seq', slots', progress, back, -⟩ :=
      runQueue_drains rfl waiting (dockSlot_eq_none_iff.2 noDock) seen idle state
    refine ⟨?_, ?_, ?_, fun rid mem e entry => ?_⟩
    · simpa [lookAtQueue, idle] using seq'
    · simpa [lookAtQueue] using slots'
    · simpa [lookAtQueue] using progress
    · obtain ⟨silent, held⟩ := back rid mem
      obtain ⟨e', found, state', slot, pos, deadline⟩ := held e ((entries rid mem).trans entry)
      obtain rfl : e.rid = rid := (entry?_mem entry).2
      rw [seconds, cfg] at deadline
      exact ⟨e', (entry?_settle (s := lookAtQueue u) silent).trans found, state', slot, pos, deadline⟩

/-! ### The BEGIN that opens a return (O44) -/

theorem takeBegin_starts {rid : ReqId} {s : State} {e : Entry} (entry : s.entry? rid = some e) (held : e.state = .held)
    (state : s.sul.state = .active ∨ s.sul.state = .joining) (idle : s.seq.active = none) :
    takeBegin rid s = lookAtQueue (startSwap rid (modEntry rid (Entry.serving .active) s)) := by
  have offers : s.sul.state ≠ .withdrawn ∧ s.sul.state ≠ .holdup := by rcases state with h | h <;> simp [h]
  simp [takeBegin, entry, held, offers, idle]

/-- Settles O44, by the dock. -/
theorem beginOpensTheReturn : Obligations.BeginOpensTheReturn := by
  intro s target rid e n works ends own entry held slot state idle
  let v : State := modEntry rid (Entry.serving .active) (toSpace s)
  have run : exec (.beginSwap target rid) s = .next (settle (lookAtQueue (startSwap rid v))) := by
    rw [exec_beginSwap_own rid works ends own,
      takeBegin_starts (s := toSpace s) entry held state idle]
  have served : v.entry? rid = some (e.serving .active) :=
    (entry?_modEntry_same (f := Entry.serving .active) (fun _ => rfl) rid (toSpace s)).trans
      (congrArg (Option.map _) entry)
  have release : (v.entry? rid).bind (fun e => e.heldSlot) = some n := by
    rw [served]
    exact slot
  have silent : NotHeard rid v := notHeard_modEntry fun e => by simp [Entry.serving]
  have stands : (standing rid n v).entry? rid = some (e.serving .active) := entry?_standing_same served
  rw [run]
  refine ⟨fun d sl seen place empty free lower => ?_, fun seen noDock rests => ?_, fun early => ?_⟩
  · have dock : dockSlot v = some d := dockSlot_eq_some_iff.2 ⟨⟨sl, place, empty, free⟩, lower⟩
    have opens := startSwap_of_dock (s := v) release seen dock
    have still : lookAtQueue (startSwap rid v) = startSwap rid v :=
      lookAtQueue_of_rest (.inr (.inl (by rw [opens]; rfl)))
    rw [still, opens]
    refine ⟨_, rfl, ?_, ?_, ?_, ?_, ?_, settle_pass_isSome works (.inl rfl), ?_, ?_, ?_, ?_⟩
    · refine (entry?_settle ?_).trans stands
      exact notHeard_congr rfl (notHeard_standing silent)
    all_goals simp [settle_focus, standing, v, toSpace, freshSwap]
  · let d : Word := inMinutes s.rhs.seconds s.sul.cfg.holdGrace
    let w : State := { standing rid n v with seq.active := none, seq.timer := none, rhs.progress := none }
    let back : State := setReplan { modEntry rid (Entry.heldAgain d) w with
      rhs.holds := putHold ⟨rid, n, d, e.packClass, e.returnClass, e.rider, e.eta⟩ s.rhs.holds }
    have starts : startSwap rid v = decline rid .noDock back := by
      rw [startSwap_of_none (s := v) seen (dockSlot_eq_none_iff.2 noDock), release]
      exact congrArg (decline rid .noDock) (holdAgain_eq (s := w) (e := e.serving .active) stands slot)
    have still : lookAtQueue (startSwap rid v) = startSwap rid v := by
      refine lookAtQueue_of_rest ?_
      rw [starts]
      refine rests.imp (fun h => ?_) (fun h => .inr ?_)
      · simpa [back, w, standing, v, toSpace] using h
      · simp [back, w, standing, v, toSpace, h]
    rw [still, starts]
    refine ⟨_, (e.serving .active).heldAgain d, rfl, ?_, rfl, rfl, rfl, rfl, slot, ?_, ?_, ?_, ?_, ?_, ?_, ?_, ?_, ?_⟩
    · exact settle_modEntry (u := w) (s := standing rid n v) (f := Entry.heldAgain d) (rid_heldAgain d)
        (by simp [Entry.heldAgain]) stands (by simp [back]) rfl
    · simp [back, w, standing, v, toSpace, idle]
    · simp [back, w, standing, v, toSpace]
    · simp [back, w]
    · simp [back, d, inMinutes]
    · rw [(settle_frame _).2.1]
      exact decline_lif_congr (s := toSpace s) (t := back) rfl rid .noDock
    · rw [(settle_frame _).2.2.2.2.2.2.2.1]
      exact decline_counters_congr (s := toSpace s) (t := back) rfl rfl rid .noDock
    · exact settle_pass_isSome (by simpa [operates, back, w, standing, v, toSpace] using works) (.inl (by simp [back]))
    · simp [back, w, standing, v, toSpace]
    · simp [back, w, standing, v, toSpace]
  · have starts := startSwap_of_waiting (s := v) release early
    have still : lookAtQueue (startSwap rid v) = startSwap rid v :=
      lookAtQueue_of_rest (.inr (.inl (by rw [starts]; rfl)))
    rw [still, starts]
    refine ⟨_, rfl, fun _ => ?_, ?_, ?_, ?_, ?_, ?_, ?_, ?_⟩
    · exact (entry?_settle (notHeard_standing silent)).trans stands
    all_goals simp [standing, v, toSpace, freshSwap]

end Sys2Proof.Machine
end

section
/-! Swaps that end, and what a look at the serve queue leaves of requests that do not wait there (R145, R159). -/

namespace Sys2Proof.Machine

open Sys2Proof

/-! ### Hold records (R169) -/

theorem mem_dropHold {rid : ReqId} {l : List (Option HoldRecord)} {h : HoldRecord} :
    some h ∈ dropHold rid l ↔ some h ∈ l ∧ h.rid ≠ rid := by
  simp only [dropHold, List.mem_map]
  constructor
  · rintro ⟨x, mem, same⟩
    split at same
    · cases same
    · next other =>
      subst same
      exact ⟨mem, fun own => other (holdsFor_iff.2 ⟨h, rfl, own⟩)⟩
  · rintro ⟨mem, other⟩
    refine ⟨some h, mem, if_neg fun own => ?_⟩
    obtain ⟨x, same, h'⟩ := holdsFor_iff.1 own
    cases same
    exact other h'

theorem rid_of_mem_dropHold {rid : ReqId} {l : List (Option HoldRecord)} {h : HoldRecord}
    (mem : some h ∈ dropHold rid l) : h.rid ≠ rid := (mem_dropHold.1 mem).2

theorem mem_placeHold {r h : HoldRecord} {l : List (Option HoldRecord)} (mem : some h ∈ placeHold r l) :
    some h ∈ l ∨ h = r := by
  induction l with
  | nil => cases mem
  | cons x l ih =>
    cases x with
    | none =>
      rcases List.mem_cons.1 mem with h' | h'
      · exact .inr (Option.some.inj h')
      · exact .inl (List.mem_cons_of_mem _ h')
    | some y =>
      rcases List.mem_cons.1 mem with h' | h'
      · exact .inl (h' ▸ List.mem_cons_self)
      · exact (ih h').imp_left (List.mem_cons_of_mem _)

theorem mem_putHold {r h : HoldRecord} {l : List (Option HoldRecord)} (mem : some h ∈ putHold r l) :
    some h ∈ l ∨ h = r := by
  unfold putHold at mem
  split at mem
  · obtain ⟨x, hx, same⟩ := List.mem_map.1 mem
    split at same
    · exact .inr (Option.some.inj same).symm
    · exact .inl (same ▸ hx)
  · exact mem_placeHold mem

theorem rid_of_record {e : Entry} {r : HoldRecord} (h : e.record = some r) : r.rid = e.rid := by
  unfold Entry.record at h
  split at h
  · exact (Option.some.inj h) ▸ rfl
  · cases h

theorem mem_syncRecord {rid : ReqId} {s : State} {h : HoldRecord} (mem : some h ∈ (syncRecord rid s).rhs.holds) :
    some h ∈ s.rhs.holds ∨ h.rid = rid := by
  unfold syncRecord at mem
  split at mem
  · next r found =>
    obtain ⟨e, entry, record⟩ := Option.bind_eq_some_iff.1 found
    refine (mem_putHold mem).imp_right fun same => ?_
    rw [same, rid_of_record record, (entry?_mem entry).2]
  · exact .inl mem

theorem mem_holdAgain {rid : ReqId} {s : State} {h : HoldRecord} (mem : some h ∈ (holdAgain rid s).rhs.holds) :
    some h ∈ s.rhs.holds ∨ h.rid = rid :=
  mem_syncRecord (s := modEntry rid (Entry.heldAgain (inMinutes s.rhs.seconds s.sul.cfg.holdGrace)) s) mem

/-! ### What a start leaves -/

theorem openReturn_book (rid : ReqId) (s : State) : (openReturn rid s).ofe.book = s.ofe.book ∨
    (openReturn rid s).ofe.book =
      (modEntry rid (Entry.heldAgain (inMinutes s.rhs.seconds s.sul.cfg.holdGrace)) s).ofe.book := by
  unfold openReturn
  split
  · exact .inl (by simp)
  · exact .inr (by simp only [handBack, (decline_frame _ _ _).2.2.2.2.2.1, holdAgain_book]; rfl)

theorem mem_openReturn {rid : ReqId} {s : State} {h : HoldRecord} (mem : some h ∈ (openReturn rid s).rhs.holds) :
    some h ∈ s.rhs.holds ∨ h.rid = rid := by
  unfold openReturn at mem
  split at mem
  · simp only [openReturnAt, writeProgress] at mem
    split at mem <;> exact .inl mem
  · simp only [handBack, (decline_frame _ _ _).2.2.2.2.2.2.2.1] at mem
    exact mem_holdAgain (s := { s with seq.active := none, seq.timer := none, rhs.progress := none }) mem

theorem openReturn_replan (rid : ReqId) (s : State) : (openReturn rid s).pln.replan = true := by
  unfold openReturn
  split <;> simp [handBack, holdAgain]

section
variable {u : State} {rid r : ReqId} {h : HoldRecord}

theorem startSwap_other (apart : r ≠ rid) : (startSwap rid u).entry? r = u.entry? r ∧
    (NotHeard r u → NotHeard r (startSwap rid u)) := by
  let n := ((u.entry? rid).bind (fun e => e.heldSlot)).getD 0
  have standingSame : (standing rid n u).entry? r = u.entry? r := entry?_standing_other apart
  rw [startSwap_eq rfl]
  split
  · rcases openReturn_book rid (standing rid n u) with book | book
    · exact ⟨(entry?_congr book r).trans standingSame, fun k => notHeard_congr book (notHeard_standing k)⟩
    · refine ⟨(entry?_congr book r).trans ((entry?_modEntry_other (rid_heldAgain _) apart _).trans standingSame),
        fun k => notHeard_congr book (notHeard_modEntry_of (rid_heldAgain _) (fun e _ => ?_) (notHeard_standing k))⟩
      simp [Entry.heldAgain]
  · exact ⟨standingSame, notHeard_standing⟩

theorem mem_startSwap (mem : some h ∈ (startSwap rid u).rhs.holds) : some h ∈ u.rhs.holds ∨ h.rid = rid := by
  rw [startSwap_eq rfl] at mem
  split at mem
  · exact mem_openReturn (s := standing rid _ u) mem
  · exact .inl mem

theorem startSwap_replan (asked : u.pln.replan = true) : (startSwap rid u).pln.replan = true := by
  rw [startSwap_eq rfl]
  split
  · exact openReturn_replan _ _
  · exact asked

theorem openReturn_queue (s : State) : (openReturn rid s).seq.queue = s.seq.queue := by
  unfold openReturn
  split
  · simp only [openReturnAt, writeProgress]
    split <;> rfl
  · simp [handBack]

theorem startSwap_queue : (startSwap rid u).seq.queue = u.seq.queue := by
  rw [startSwap_eq rfl]
  split
  · exact openReturn_queue _
  · rfl

end

/-- A request that does not wait in the queue keeps its entry; only records of requests that wait are written; a planning
pass that is asked for stays asked for. -/
structure QueueLeaves (u t : State) : Prop where
  entry : ∀ r ∉ u.seq.queue, t.entry? r = u.entry? r
  quiet : ∀ r ∉ u.seq.queue, NotHeard r u → NotHeard r t
  holds : ∀ h, some h ∈ t.rhs.holds → some h ∈ u.rhs.holds ∨ h.rid ∈ u.seq.queue
  replan : u.pln.replan = true → t.pln.replan = true

theorem queueLeaves_refl (u : State) : QueueLeaves u u := ⟨fun _ _ => rfl, fun _ _ => id, fun _ => .inl, id⟩

theorem queueLeaves_takeUp {u t : State} {rid : ReqId} {rest : List ReqId} (queue : u.seq.queue = rid :: rest)
    (h : QueueLeaves (startSwap rid (takenUp rest u)) t) : QueueLeaves u t := by
  have queue' : (startSwap rid (takenUp rest u)).seq.queue = rest := startSwap_queue
  obtain ⟨entry, quiet, holds, replan⟩ := h
  rw [queue'] at entry quiet holds
  rw [← List.singleton_append] at queue
  refine ⟨fun r other => ?_, fun r other k => ?_, fun x mem => ?_, fun asked => replan (startSwap_replan asked)⟩
  · obtain ⟨apart, new⟩ : r ≠ rid ∧ r ∉ rest := by simpa [queue] using other
    rw [entry r new, (startSwap_other apart).1, entry?_takenUp]
    cases found : u.entry? r with
    | none => rfl
    | some e => exact congrArg some (numbered_of_not_mem (by rwa [(entry?_mem found).2]))
  · obtain ⟨apart, new⟩ : r ≠ rid ∧ r ∉ rest := by simpa [queue] using other
    exact quiet r new ((startSwap_other apart).2 (notHeard_takenUp k))
  · rw [queue]
    rcases holds x mem with h | h
    · exact (mem_startSwap h).imp_right fun own => by simp [own]
    · exact .inr (by simp [h])

theorem queueLeaves_runQueue (n : Nat) (u : State) : QueueLeaves u (runQueue n u) := by
  induction n generalizing u with
  | zero => exact queueLeaves_refl u
  | succ n ih =>
    unfold runQueue
    split
    · exact queueLeaves_refl u
    · next rid rest queue =>
      split
      · exact queueLeaves_takeUp queue (ih _)
      · exact queueLeaves_refl u

theorem queueLeaves_lookAtQueue (u : State) : QueueLeaves u (lookAtQueue u) := queueLeaves_runQueue _ u

/-- Before the first pass has ended no request is handed back, so that nothing is sent (R143). -/
theorem runQueue_line_of_early (n : Nat) {u : State} (early : u.seq.firstPassSeen = false) :
    (runQueue n u).lif = u.lif ∧ (runQueue n u).counters = u.counters := by
  induction n generalizing u with
  | zero => exact ⟨rfl, rfl⟩
  | succ n ih =>
    unfold runQueue
    split
    · exact ⟨rfl, rfl⟩
    · next rid rest queue =>
      split
      · have stands : startSwap rid (renumberQueue { u with seq.queue := rest }) =
            standing rid _ (takenUp rest u) := (startSwap_eq rfl).trans (by rw [if_neg]; rfl; simp [renumberQueue, early])
        rw [stands]
        exact ih (u := standing rid _ (takenUp rest u)) early
      · exact ⟨rfl, rfl⟩

/-! ### The end of a swap (R159) -/

/-- What a swap's end makes of the entry (R159, step 1). -/
def EntryAfter.rewrite (a : EntryAfter) (now deadline : Word) : Entry → Entry :=
  match a with
  | .done => Entry.ended .done now
  | .aborted => Entry.ended .aborted now
  | .held => Entry.heldAgain deadline

/-- The state of the entry after its swap (R159). -/
def EntryAfter.state : EntryAfter → EntryState
  | .done => .done
  | .aborted => .aborted
  | .held => .held

theorem rid_rewrite (a : EntryAfter) (now d : Word) (e : Entry) : (a.rewrite now d e).rid = e.rid := by cases a <;> rfl

theorem state_rewrite (a : EntryAfter) (now d : Word) (e : Entry) : (a.rewrite now d e).state = a.state := by
  cases a <;> rfl

/-- A swap's end before the look at the serve queue (R159). -/
def swapEnding (o : Outcome) (abort : Option AbortReason) (after : EntryAfter) (w : Swap) (s : State) : State :=
  clearSwap (close w.rid o abort w.released w.returned (endServing w.rid after s))

section
variable (o : Outcome) (abort : Option AbortReason) (after : EntryAfter) (w : Swap) (s : State)

theorem endSwap_eq : endSwap o abort after w s = lookAtQueue (swapEnding o abort after w s) := rfl

theorem endServing_book : (endServing w.rid after s).ofe.book = (modEntry w.rid
    (after.rewrite s.rhs.seconds (inMinutes s.rhs.seconds s.sul.cfg.holdGrace)) s).ofe.book := by
  cases after
  case held => exact holdAgain_book w.rid s
  all_goals rfl

theorem swapEnding_book : (swapEnding o abort after w s).ofe.book = (modEntry w.rid
    (after.rewrite s.rhs.seconds (inMinutes s.rhs.seconds s.sul.cfg.holdGrace)) s).ofe.book := by
  rw [← endServing_book]
  simp [swapEnding, clearSwap]

theorem entry?_swapEnding : (swapEnding o abort after w s).entry? w.rid =
    (s.entry? w.rid).map (after.rewrite s.rhs.seconds (inMinutes s.rhs.seconds s.sul.cfg.holdGrace)) := by
  rw [entry?_congr (swapEnding_book o abort after w s), entry?_modEntry_same (rid_rewrite after _ _)]

theorem entry?_swapEnding_other {r : ReqId} (apart : r ≠ w.rid) :
    (swapEnding o abort after w s).entry? r = s.entry? r := by
  rw [entry?_congr (swapEnding_book o abort after w s), entry?_modEntry_other (rid_rewrite after _ _) apart]

theorem notHeard_swapEnding : NotHeard w.rid (swapEnding o abort after w s) :=
  notHeard_congr (swapEnding_book o abort after w s) (notHeard_modEntry fun e => by
    rw [state_rewrite]
    cases after <;> simp [EntryAfter.state])

theorem notHeard_swapEnding_other {r : ReqId} (h : NotHeard r s) : NotHeard r (swapEnding o abort after w s) :=
  notHeard_congr (swapEnding_book o abort after w s) (notHeard_modEntry_of (rid_rewrite after _ _) (fun e _ => by
    rw [state_rewrite]
    cases after <;> simp [EntryAfter.state]) h)

@[simp] theorem swapEnding_seq : (swapEnding o abort after w s).seq = { s.seq with active := none, timer := none } := by
  simp [swapEnding, clearSwap]

@[simp] theorem swapEnding_frame : (swapEnding o abort after w s).core = s.core ∧
    (swapEnding o abort after w s).slots = s.slots ∧ (swapEnding o abort after w s).alw = s.alw ∧
    (swapEnding o abort after w s).sul = s.sul ∧ (swapEnding o abort after w s).draw = s.draw ∧
    (swapEnding o abort after w s).pending = s.pending := by
  simp [swapEnding, clearSwap]

@[simp] theorem swapEnding_svy : (swapEnding o abort after w s).svy = { s.svy with focus := none } := by
  simp [swapEnding, clearSwap]

@[simp] theorem swapEnding_progress : (swapEnding o abort after w s).rhs.progress = none := rfl

@[simp] theorem swapEnding_seconds : (swapEnding o abort after w s).rhs.seconds = s.rhs.seconds := by
  cases after <;> simp [swapEnding, clearSwap, endServing, holdAgain_seconds, removeRecord]

theorem swapEnding_lif : (swapEnding o abort after w s).lif =
    (enqueue (closeFrame w.rid o abort w.released w.returned) s).lif :=
  enqueue_lif_congr (s := s) (t := bumpClose o abort (endServing w.rid after s)) (by simp) _

theorem bumpClose_counters_congr {s t : State} (o : Outcome) (abort : Option AbortReason) (h : t.counters = s.counters) :
    (bumpClose o abort t).counters = (bumpClose o abort s).counters := by
  cases abort <;> simp [bumpClose, bump, h]

theorem swapEnding_counters : (swapEnding o abort after w s).counters =
    (enqueue (closeFrame w.rid o abort w.released w.returned) (bumpClose o abort s)).counters :=
  enqueue_counters_congr (s := bumpClose o abort s) (t := bumpClose o abort (endServing w.rid after s)) (by simp)
    (bumpClose_counters_congr o abort (by simp)) _

/-- A request that is not HELD again has no record (R159, step 1). -/
theorem swapEnding_holds (gone : after ≠ .held) :
    (swapEnding o abort after w s).rhs.holds = dropHold w.rid s.rhs.holds := by
  cases after
  case held => exact absurd rfl gone
  all_goals simp [swapEnding, clearSwap, endServing, removeRecord]

end

/-! ### The dock and the release slot at a swap's end (R148, R154) -/

theorem setRole_modify {n : Nat} {s : State} : (setRole n .free none (setLatch n false s)).slots =
    s.slots.modify n (fun x => { x with role := .free, rid := none, unlocked := false }) := by
  rw [setRole_free_slots, setLatch, modSlot, List.modify_modify_eq]
  rfl

theorem closeDock_eq {w : Swap} {d : Nat} {s : State} (dock : w.dock = some d) : closeDock w s = { s with
    slots := s.slots.modify d (fun x => { x with role := .free, rid := none, unlocked := false })
    pln.replan := true } := by
  simp only [closeDock, dock]
  apply state_ext
  case slots => exact setRole_modify
  all_goals rfl

theorem freeRelease_of_held {w : Swap} {s : State} {x : Slot} (place : s.slots[w.release]? = some x)
    (role : x.role = .held) (own : x.rid = some w.rid) : freeRelease w s = { s with
      slots := s.slots.modify w.release (fun x => { x with role := .free, rid := none })
      pln.replan := true } := by
  rw [freeRelease, freeRole_of_owned place role own]
  apply state_ext
  case slots => exact setRole_free_slots w.release s
  all_goals rfl

end Sys2Proof.Machine
end

section
/-! Proof of the statement about the CANCEL, by the state of its request (O43). -/

namespace Sys2Proof.Machine

open Sys2Proof

theorem exec_cancel (rid : ReqId) {s : State} (works : operates s = true) (ends : FrameMayEnd s) :
    exec (.cancel rid) s = .next (settle (takeCancel rid (toSpace s))) := by
  refine (congrArg Host.Outcome.next (receiveGood_plain ends (targeted_all s) (fun _ => rfl))).trans ?_
  exact congrArg (fun t => Host.Outcome.next (settle t)) (if_neg (haltedConfig_of_operates (s := toSpace s) works))

/-! ### A hold that is cancelled (R122, R160) -/

/-- A hold that a CANCEL ends: the entry CANCELLED, the slot FREE, the record removed, a planning pass asked for (R122). -/
def holdCancelled (rid : ReqId) (n : Nat) (s : State) : State :=
  { modEntry rid (Entry.ended .cancelled s.rhs.seconds) s with
    slots := s.slots.modify n (fun x => { x with role := .free, rid := none })
    pln.replan := true
    rhs.holds := dropHold rid s.rhs.holds }

section
variable {rid : ReqId} {n : Nat} {s : State} {e : Entry} {sl : Slot} (entry : s.entry? rid = some e)
  (slot : e.heldSlot = some n) (place : s.slots[n]? = some sl) (role : sl.role = .held) (own : sl.rid = some rid)
include entry slot place role own

theorem cancelHeld_eq (held : e.state = .held) : takeCancel rid s = holdCancelled rid n s := by
  simp only [takeCancel, entry, held, slot, freeRole_of_owned place role own]
  apply state_ext
  case slots => exact setRole_free_slots n s
  all_goals rfl

theorem cancelServing_eq : cancelServing rid s = holdCancelled rid n s := by
  simp only [cancelServing, entry, slot, freeRole_of_owned place role own]
  apply state_ext
  case slots => exact setRole_free_slots n s
  all_goals rfl

end

theorem entry?_holdCancelled {rid : ReqId} {n : Nat} {s : State} {e : Entry} (entry : s.entry? rid = some e) :
    (holdCancelled rid n s).entry? rid = some (e.ended .cancelled s.rhs.seconds) := by
  have written := entry?_modEntry_same (rid_ended .cancelled s.rhs.seconds) rid s
  rw [entry] at written
  exact written

theorem entry?_holdCancelled_other {rid r : ReqId} {n : Nat} {s : State} (apart : r ≠ rid) :
    (holdCancelled rid n s).entry? r = s.entry? r :=
  entry?_modEntry_other (rid_ended .cancelled s.rhs.seconds) apart s

theorem notHeard_holdCancelled {rid : ReqId} {n : Nat} {s : State} : NotHeard rid (holdCancelled rid n s) :=
  notHeard_modEntry (s := s) fun e => by simp [Entry.ended]

theorem notHeard_holdCancelled_other {rid r : ReqId} {n : Nat} {s : State} (h : NotHeard r s) :
    NotHeard r (holdCancelled rid n s) :=
  notHeard_modEntry_of (rid_ended .cancelled s.rhs.seconds) (fun e _ => by simp [Entry.ended]) h

/-! ### The swap that a CANCEL ends before a pack is in the dock (R160, R175) -/

/-- The dock `d` locked and FREE, the release slot FREE, the step timer stopped: what a swap that ends in RETURN_OPEN
makes of the slots (R148, R160). -/
def slotsLeft (d release : Nat) (s : State) : State := { s with
  seq.timer := none
  slots := (s.slots.modify d (fun x => { x with role := .free, rid := none, unlocked := false })).modify release
    (fun x => { x with role := .free, rid := none })
  pln.replan := true }

theorem freeRelease_closeDock {w : Swap} {d : Nat} {s : State} {rs : Slot} (dock : w.dock = some d)
    (apart : d ≠ w.release) (place : s.slots[w.release]? = some rs) (role : rs.role = .held) (own : rs.rid = some w.rid) :
    freeRelease w (closeDock w { s with seq.timer := none }) = slotsLeft d w.release s := by
  let u : State := { s with
    seq.timer := none
    slots := s.slots.modify d (fun x => { x with role := .free, rid := none, unlocked := false })
    pln.replan := true }
  have closed : closeDock w { s with seq.timer := none } = u := closeDock_eq dock
  have kept : u.slots[w.release]? = some rs := (List.getElem?_modify_ne _ _ apart).trans place
  rw [closed, freeRelease_of_held kept role own]
  rfl

theorem endCancelled_eq {w : Swap} {d : Nat} {s : State} {rs : Slot} (dock : w.dock = some d) (apart : d ≠ w.release)
    (place : s.slots[w.release]? = some rs) (role : rs.role = .held) (own : rs.rid = some w.rid)
    (alone : s.seq.queue = []) :
    endCancelled w s = swapEnding .aborted (some .cancelled) .aborted w (slotsLeft d w.release s) := by
  rw [endCancelled, freeRelease_closeDock dock apart place role own, endSwap_eq, lookAtQueue_of_rest]
  exact .inl (by simpa [slotsLeft] using alone)

/-- The request ids of the book and of the queue behind an active request (R110). -/
theorem serving_notHeard {s : State} {e : Entry} {rid : ReqId} (unique : RequestIdsUnique s) (entry : s.entry? rid = some e)
    (serving : e.state = .serving) : NotHeard rid s := by
  obtain rfl : e.rid = rid := (entry?_mem entry).2
  exact notHeard_of_unique unique entry (by simp [serving])

/-! ### The CANCEL (O43) -/

/-- Settles O43, by the state of the entry and, while it is SERVING, by the place of its swap. -/
theorem cancelReleasesTheHold : Obligations.CancelReleasesTheHold := by
  intro s rid works ends freed
  have quiet := tx_of_listening (listening_of_receiving ends.1)
  have unstretched : s.lif.stretch = none := stretch_of_receiving ends.1
  rw [exec_cancel rid works ends]
  have still (nothing : NothingDue s) : settle (toSpace s) = toSpace s := settle_of_nothingDue (nothingDue_toSpace nothing)
  have unheard : ∀ e : Entry, (e.ended .cancelled s.rhs.seconds).state ≠ .heard := fun e => by simp [Entry.ended]
  have works' : operates (toSpace s) = true := works
  refine ⟨?unknown, ?terminal, ?waiting, ?contending, ?offered, ?fresh, ?held, ?queued, ?returnOpen, ?later⟩
  case unknown =>
    intro unknown nothing
    have missing : (toSpace s).entry? rid = none := unknown
    simp only [takeCancel, missing, still nothing]
    rfl
  case terminal =>
    intro e entry closed nothing
    have found : (toSpace s).entry? rid = some e := entry
    have taken : takeCancel rid (toSpace s) = toSpace s := by
      simp only [takeCancel, found]
      cases state : e.state <;> simp [state, EntryState.live] at closed <;> rfl
    rw [taken, still nothing]
    rfl
  case waiting =>
    intro e entry waits
    have found : (toSpace s).entry? rid = some e := entry
    let u : State := { modEntry rid (Entry.ended .cancelled s.rhs.seconds) (toSpace s) with
      lif.mark := s.lif.mark.map (fun m => if m.rid = rid then { m with closed := true } else m) }
    have taken : takeCancel rid (toSpace s) = u := by
      refine Eq.trans ?_
        (closeStretch_of_quiet (s := modEntry rid (Entry.ended .cancelled s.rhs.seconds) (toSpace s)) unstretched)
      rcases waits with h | h <;> simp only [takeCancel, found, h] <;> rfl
    rw [taken]
    refine ⟨_, e.ended .cancelled s.rhs.seconds, rfl, ?_, rfl, rfl, fun ev running => ?_, by simp [u, toSpace], ?_⟩
    · exact settle_modEntry (u := toSpace s) (rid_ended _ _) unheard entry rfl rfl
    · have busy : u.ofe.evaluation = some ev := running
      rw [settle_ofe, beginEvaluation_of_nothing (.inr (.inl (by rw [busy]; rfl))), busy]
    · apply state_ext <;> simp [u, toSpace]
  case contending =>
    intro e entry contends
    have found : (toSpace s).entry? rid = some e := entry
    let u : State := { modEntry rid (Entry.ended .cancelled s.rhs.seconds) (toSpace s) with
      lif.register := none, lif.lossPending := false }
    have taken : takeCancel rid (toSpace s) = u := by
      refine Eq.trans ?_ (clearRegister_of_idle (s := modEntry rid (Entry.ended .cancelled s.rhs.seconds) (toSpace s)) quiet)
      simp only [takeCancel, found, contends]
      rfl
    rw [taken]
    refine ⟨_, e.ended .cancelled s.rhs.seconds, rfl, ?_, rfl, rfl, rfl, by simp [u, toSpace, ends.2.1], ?_⟩
    · exact settle_modEntry (u := toSpace s) (rid_ended _ _) unheard entry rfl rfl
    · apply state_ext <;> simp [u, toSpace]
  case offered =>
    intro e o sl entry offered offer place role own
    have found : (toSpace s).entry? rid = some e := entry
    have same : e.rid = rid := (entry?_mem entry).2
    let u : State := modEntry rid (Entry.ended .cancelled s.rhs.seconds) (toSpace s)
    have taken : takeCancel rid (toSpace s) = setReplan (setRole o.slot .free none u) := by
      rw [← freePledge_of_pledged (e := e) (s := u) offer place role (same ▸ own)]
      simp only [takeCancel, found, offered]
      rfl
    rw [taken]
    refine ⟨_, e.ended .cancelled s.rhs.seconds, rfl, ?_, rfl, rfl, rfl, ?_, settle_pass_isSome works (.inl rfl),
      by simp [u, toSpace], ?_⟩
    · exact settle_modEntry (u := toSpace s) (rid_ended _ _) unheard entry rfl rfl
    · simp [setRole_free_slots, u, toSpace, freed]
    · apply state_ext <;> simp [u, toSpace]
  case fresh =>
    intro e w n sl unique entry serving active ownSwap step fresh new slot place role own
    have found : (toSpace s).entry? rid = some e := entry
    let u : State := { toSpace s with seq.active := none }
    let v : State := holdCancelled rid n u
    have taken : takeCancel rid (toSpace s) = lookAtQueue v := by
      have cancelled : cancelServing rid u = v := cancelServing_eq (s := u) entry slot place role own
      rw [← cancelled]
      have current : (toSpace s).seq.active = some w := active
      simp only [takeCancel, found, serving, cancelSwap, current, ownSwap, step, fresh, if_true]
      rfl
    obtain ⟨others, quiet', records, asked⟩ := queueLeaves_lookAtQueue v
    have outside : rid ∉ v.seq.queue := new
    rw [taken]
    refine ⟨_, e.ended .cancelled s.rhs.seconds, rfl, ?_, rfl, ?_, fun h mem => ?_, ?_, by simp [v, u, holdCancelled, toSpace],
      by simp [v, u, holdCancelled, toSpace], fun rests => ?_⟩
    · rw [entry?_settle (quiet' rid outside notHeard_holdCancelled), others rid outside]
      exact entry?_holdCancelled (s := u) entry
    · refine queueLookedAt_settle rfl rfl rfl rfl rfl (fun r mem => ?_) (fun r mem e₁ entry₁ serving₁ => ?_)
      · exact entry?_holdCancelled_other (s := u) (fun same => new (same ▸ mem))
      · exact notHeard_holdCancelled_other (s := u) (serving_notHeard unique entry₁ serving₁)
    · have kept : some h ∈ (lookAtQueue v).rhs.holds := by simpa using mem
      rcases records h kept with old | waits
      · exact (mem_dropHold.1 old).2
      · exact fun same => new (same ▸ waits)
    · exact settle_pass_isSome (by simpa [operates, v, u, holdCancelled, toSpace] using works) (.inl (asked rfl))
    · rcases rests with alone | early
      · have idle : lookAtQueue v = v := lookAtQueue_of_rest (.inl alone)
        rw [idle]
        simp [v, u, holdCancelled, toSpace]
      · obtain ⟨lif, counters⟩ := runQueue_line_of_early v.seq.queue.length (u := v) early
        rw [(settle_frame _).2.1, (settle_frame _).2.2.2.2.2.2.2.1]
        exact ⟨lif, counters⟩
  case held =>
    intro e n sl entry held slot place role own
    have taken : takeCancel rid (toSpace s) = holdCancelled rid n (toSpace s) :=
      cancelHeld_eq (s := toSpace s) entry slot place role own held
    rw [taken]
    refine ⟨_, e.ended .cancelled s.rhs.seconds, rfl, ?_, rfl, rfl, rfl, rfl, by simp [holdCancelled, toSpace, freed],
      fun h mem => ?_, settle_pass_isSome works (.inl rfl), ?_⟩
    · exact (entry?_settle notHeard_holdCancelled).trans (entry?_holdCancelled (s := toSpace s) entry)
    · exact rid_of_mem_dropHold (l := s.rhs.holds) (by simpa [holdCancelled, toSpace] using mem)
    · simp [holdCancelled, toSpace]
  case queued =>
    intro e n sl entry serving slot place role own waits other
    have found : (toSpace s).entry? rid = some e := entry
    let q : List ReqId := s.seq.queue.filter (fun r => decide (r ≠ rid))
    let u : State := { toSpace s with seq.queue := q }
    let v : State := holdCancelled rid n u
    have cancelled : cancelServing rid u = v := cancelServing_eq (s := u) entry slot place role own
    have taken : takeCancel rid (toSpace s) = renumberQueue v := by
      rw [← cancelled]
      have mem : rid ∈ (toSpace s).seq.queue := waits
      simp only [takeCancel, found, serving, cancelSwap]
      split
      · next w active => simp only [other w active, mem, if_false, if_true]; rfl
      · simp only [mem, if_true]; rfl
    rw [taken]
    refine ⟨_, e.ended .cancelled s.rhs.seconds, rfl, ?_, rfl, by simp [renumberQueue, v, u, holdCancelled, toSpace, freed],
      fun h mem => ?_, by simp [renumberQueue, v, u, holdCancelled, toSpace, q], settle_pass_isSome works (.inl rfl), ?_⟩
    · rw [entry?_settle (notHeard_renumberQueue notHeard_holdCancelled), entry?_renumberQueue,
        entry?_holdCancelled (s := u) entry]
      have gone : e.rid ∉ q := by simp [q, (entry?_mem entry).2]
      exact congrArg some (numbered_of_not_mem (e := e.ended .cancelled s.rhs.seconds) gone)
    · exact rid_of_mem_dropHold (l := s.rhs.holds) (by simpa [renumberQueue, v, u, holdCancelled, toSpace] using mem)
    · simp [renumberQueue, v, u, holdCancelled, toSpace]
  case returnOpen =>
    intro e w d rs entry serving active ownSwap alone step dock apart place role own closed
    subst ownSwap
    have found : (toSpace s).entry? w.rid = some e := entry
    have ended := endCancelled_eq (s := toSpace s) dock apart place role own alone
    have taken : takeCancel w.rid (toSpace s) = endCancelled w (toSpace s) := by
      have current : (toSpace s).seq.active = some w := active
      rcases step with h | ⟨h, k⟩
      · simp only [takeCancel, found, serving, cancelSwap, current, h, if_true]
      · simp only [takeCancel, found, serving, cancelSwap, current, h, k, if_true]
    rw [taken, ended]
    refine ⟨_, e.ended .aborted s.rhs.seconds, rfl, ?_, rfl, by simp [slotsLeft, toSpace], by simp [slotsLeft, toSpace, freed],
      by simp [settle_focus], by simp, fun h mem => ?_, ?_, ?_, by simp [slotsLeft, toSpace], by simp [slotsLeft, toSpace]⟩
    · refine (entry?_settle (notHeard_swapEnding _ _ _ _ _)).trans ((entry?_swapEnding _ _ _ _ _).trans ?_)
      exact congrArg (Option.map (Entry.ended .aborted s.rhs.seconds)) entry
    · refine rid_of_mem_dropHold (l := s.rhs.holds) ?_
      rw [(settle_frame _).2.2.2.2.2.1, swapEnding_holds _ _ _ _ _ (by simp)] at mem
      exact mem
    · rw [(settle_frame _).2.1, swapEnding_lif]
      exact enqueue_lif_congr (s := bump .abortedCancelled (bump .aborted (toSpace s)))
        (t := slotsLeft d w.release (toSpace s)) rfl _
    · rw [(settle_frame _).2.2.2.2.2.2.2.1, swapEnding_counters]
      exact enqueue_counters_congr (s := bump .abortedCancelled (bump .aborted (toSpace s)))
        (t := bumpClose .aborted (some .cancelled) (slotsLeft d w.release (toSpace s))) rfl rfl _
  case later =>
    intro e w entry serving active ownSwap nothing later
    have found : (toSpace s).entry? rid = some e := entry
    have current : (toSpace s).seq.active = some w := active
    have taken : takeCancel rid (toSpace s) = toSpace s := by
      simp only [takeCancel, found, serving, cancelSwap, current, ownSwap, if_true]
      cases step : w.step
      case startingWait =>
        rw [if_pos step] at later
        obtain ⟨p, resume, beyond⟩ := later
        cases p
        case returnOpen => exact absurd rfl beyond
        all_goals simp only [resume]
      case returnOpen =>
        rw [if_neg (by simp [step])] at later
        exact absurd step later
      all_goals rfl
    rw [taken, still nothing]
    rfl

end Sys2Proof.Machine
end

section
/-! Proof of the statement about the holds that lapse (O41): one lapse, then a run of them over the holds that are due. -/

namespace Sys2Proof.Machine

open Sys2Proof

/-! ### One hold lapses -/

/-- The CLOSE of a hold that lapses: no pack id, a reason byte of 0 (R57, R141). -/
def lapsedFrame (rid : ReqId) : TxFrame :=
  ⟨0x0C#8, .close, 0x3F#8, ridBytes rid ++ [1, 0, 0, 0, 0, 0, 0, 0, 0, 0]⟩

/-- The slot of a hold that lapses is FREE if it is still HELD for the request (R141). -/
def unheld (n : Option Nat) (rid : ReqId) (m : Nat) (sl : Slot) : Slot :=
  if sl.role = .held ∧ n = some m ∧ sl.rid = some rid then { sl with role := .free, rid := none } else sl

theorem freeRole_getElem? (n : Nat) (rid : ReqId) (s : State) (m : Nat) :
    (freeRole n .held rid s).slots[m]? = s.slots[m]?.map (unheld (some n) rid m) := by
  cases place : s.slots[n]? with
  | none =>
    have still : freeRole n .held rid s = s := by simp [freeRole, State.slot?, place]
    rw [still]
    cases place' : s.slots[m]? with
    | none => rfl
    | some sl =>
      have apart : n ≠ m := fun same => by simp [same, place'] at place
      simp [unheld, apart]
  | some x =>
    by_cases owned : x.role = .held ∧ x.rid = some rid
    · rw [freeRole_of_owned place owned.1 owned.2, setRole_free_slots, List.getElem?_modify]
      by_cases same : n = m
      · subst same
        simp [place, unheld, owned]
      · cases s.slots[m]? <;> simp [unheld, same]
    · rw [freeRole_of_not_owned place owned]
      by_cases same : n = m
      · subst same
        have kept : ¬ (x.role = .held ∧ some n = some n ∧ x.rid = some rid) := fun h => owned ⟨h.1, h.2.2⟩
        rw [place, Option.map_some, unheld, if_neg kept]
      · cases s.slots[m]? <;> simp [unheld, same]

theorem dropHold_eq (rid : ReqId) (l : List (Option HoldRecord)) :
    dropHold rid l = l.map (fun h => h.filter (fun r => decide (r.rid ≠ rid))) := by
  refine List.map_congr_left fun x _ => ?_
  cases x with
  | none => rfl
  | some r => by_cases own : r.rid = rid <;> simp [holdsFor, Option.filter, own]

section
variable {rid : ReqId} {s : State} {e : Entry} (entry : s.entry? rid = some e)
include entry

theorem lapse_eq : ∃ u, lapse rid s = close rid .lapsed none none none u ∧
    u.ofe = (modEntry rid (Entry.ended .lapsed s.rhs.seconds) s).ofe ∧
    (∀ m, u.slots[m]? = s.slots[m]?.map (unheld e.heldSlot rid m)) ∧ u.pln.replan = true ∧
    u.rhs = { s.rhs with holds := dropHold rid s.rhs.holds } ∧ u.lif = s.lif ∧ u.counters = s.counters := by
  unfold lapse
  rw [entry]
  dsimp only
  cases slot : e.heldSlot with
  | none =>
    refine ⟨setReplan (modEntry rid (Entry.ended .lapsed s.rhs.seconds) (removeRecord rid s)), rfl, rfl, fun m => ?_, rfl,
      rfl, rfl, rfl⟩
    show s.slots[m]? = _
    cases s.slots[m]? <;> simp [unheld]
  | some n =>
    refine ⟨setReplan (modEntry rid (Entry.ended .lapsed (freeRole n .held rid s).rhs.seconds)
      (removeRecord rid (freeRole n .held rid s))), rfl, ?_, fun m => ?_, rfl, ?_, ?_, ?_⟩
    case refine_2 => exact freeRole_getElem? n rid s m
    all_goals simp [removeRecord, modEntry]

theorem lapse_book : (lapse rid s).ofe.book = (modEntry rid (Entry.ended .lapsed s.rhs.seconds) s).ofe.book := by
  obtain ⟨u, same, ofe, -⟩ := lapse_eq entry
  rw [same, (close_frame _ _ _ _ _ _).2.2.2.2.2.1, ofe]

theorem lapse_getElem? (m : Nat) : (lapse rid s).slots[m]? = s.slots[m]?.map (unheld e.heldSlot rid m) := by
  obtain ⟨u, same, -, slots, -⟩ := lapse_eq entry
  rw [same, (close_frame _ _ _ _ _ _).2.1, slots]

theorem lapse_replan : (lapse rid s).pln.replan = true := by
  obtain ⟨u, same, -, -, replan, -⟩ := lapse_eq entry
  rw [same, (close_frame _ _ _ _ _ _).2.2.2.2.1, replan]

theorem lapse_rhs : (lapse rid s).rhs =
    { s.rhs with holds := s.rhs.holds.map (fun h => h.filter (fun r => decide (r.rid ≠ rid))) } := by
  obtain ⟨u, same, -, -, -, rhs, -⟩ := lapse_eq entry
  rw [same, (close_frame _ _ _ _ _ _).2.2.2.2.2.2.2.1, rhs, dropHold_eq]

theorem lapse_lif : (lapse rid s).lif = (enqueue (lapsedFrame rid) s).lif := by
  obtain ⟨u, same, -, -, -, -, lif, counters⟩ := lapse_eq entry
  rw [same]
  exact enqueue_lif_congr (s := s) (t := bump .lapsed u) lif _

theorem lapse_counters : (lapse rid s).counters = (enqueue (lapsedFrame rid) (bump .lapsed s)).counters := by
  obtain ⟨u, same, -, -, -, -, lif, counters⟩ := lapse_eq entry
  rw [same]
  exact enqueue_counters_congr (s := bump .lapsed s) (t := bump .lapsed u) lif (by simp [bump, counters]) _

end

/-! ### The holds that are due lapse in their order -/

theorem enqueue_lif_foldl (l : List Entry) {s t : State} (lif : t.lif = s.lif) :
    (l.foldl (fun st e => enqueue (lapsedFrame e.rid) st) t).lif =
      (l.foldl (fun st e => enqueue (lapsedFrame e.rid) st) s).lif := by
  induction l generalizing s t with
  | nil => exact lif
  | cons e l ih => exact ih (enqueue_lif_congr lif _)

theorem enqueue_counters_foldl (l : List Entry) {s t : State} (lif : t.lif = s.lif) (counters : t.counters = s.counters) :
    (l.foldl (fun st e => enqueue (lapsedFrame e.rid) (bump .lapsed st)) t).counters =
      (l.foldl (fun st e => enqueue (lapsedFrame e.rid) (bump .lapsed st)) s).counters := by
  induction l generalizing s t with
  | nil => exact counters
  | cons e l ih =>
    exact ih (enqueue_lif_congr (s := bump .lapsed s) (t := bump .lapsed t) lif _)
      (enqueue_counters_congr (s := bump .lapsed s) (t := bump .lapsed t) lif (by simp [bump, counters]) _)

/-- The holds of these entries lapse one after another (R141). -/
def lapseAll (l : List Entry) (s : State) : State := (l.map (fun e => e.rid)).foldl (fun st rid => lapse rid st) s

/-- Slot `m`, which stands as `sl`, is held for one of the entries. -/
def HeldByOne (l : List Entry) (m : Nat) (sl : Slot) : Prop :=
  sl.role = .held ∧ ∃ e ∈ l, e.heldSlot = some m ∧ sl.rid = some e.rid

/-- What the lapse of the entries of `l` makes of `s`. -/
structure AllLapsed (l : List Entry) (s f : State) : Prop where
  entry : ∀ e ∈ l, f.entry? e.rid = some (e.ended .lapsed s.rhs.seconds) ∧ NotHeard e.rid f
  other : ∀ r, (∀ e ∈ l, r ≠ e.rid) → f.entry? r = s.entry? r ∧ (NotHeard r s → NotHeard r f)
  freed : ∀ m sl, s.slots[m]? = some sl → HeldByOne l m sl → f.slots[m]? = some { sl with role := .free, rid := none }
  kept : ∀ m sl, s.slots[m]? = some sl → ¬ HeldByOne l m sl → f.slots[m]? = some sl
  length : f.slots.length = s.slots.length
  rhs : f.rhs = { s.rhs with
    holds := s.rhs.holds.map (fun h => h.filter (fun r => l.all (fun e => decide (r.rid ≠ e.rid)))) }
  lif : f.lif = (l.foldl (fun st e => enqueue (lapsedFrame e.rid) st) s).lif
  counters : f.counters = (l.foldl (fun st e => enqueue (lapsedFrame e.rid) (bump .lapsed st)) s).counters
  replan : (l ≠ [] ∨ s.pln.replan = true) → f.pln.replan = true

theorem allLapsed_nil (s : State) : AllLapsed [] s s where
  entry := by simp
  other _ _ := ⟨rfl, id⟩
  freed _ _ _ h := by
    obtain ⟨-, e, mem, -⟩ := h
    cases mem
  kept _ _ place _ := place
  length := rfl
  rhs := by
    have same : s.rhs.holds.map (fun h => h.filter (fun _ => true)) = s.rhs.holds := by
      refine (List.map_congr_left (g := id) fun x _ => ?_).trans s.rhs.holds.map_id
      cases x <;> rfl
    simp [same]
  lif := rfl
  counters := rfl
  replan h := h.resolve_left (fun k => k rfl)

theorem allLapsed_cons {e : Entry} {l : List Entry} {s f : State} (entry : s.entry? e.rid = some e)
    (distinct : ∀ x ∈ l, x.rid ≠ e.rid) (h : AllLapsed l (lapse e.rid s) f) : AllLapsed (e :: l) s f := by
  have seconds : (lapse e.rid s).rhs.seconds = s.rhs.seconds := by rw [lapse_rhs entry]
  have first : (lapse e.rid s).entry? e.rid = some (e.ended .lapsed s.rhs.seconds) := by
    rw [entry?_congr (lapse_book entry), entry?_modEntry_same (rid_ended _ _), entry]
    rfl
  have firstQuiet : NotHeard e.rid (lapse e.rid s) :=
    notHeard_congr (lapse_book entry) (notHeard_modEntry fun x => by simp [Entry.ended])
  have apartSame {r : ReqId} (apart : r ≠ e.rid) : (lapse e.rid s).entry? r = s.entry? r ∧
      (NotHeard r s → NotHeard r (lapse e.rid s)) :=
    ⟨(entry?_congr (lapse_book entry) r).trans (entry?_modEntry_other (rid_ended _ _) apart s), fun k =>
      notHeard_congr (lapse_book entry) (notHeard_modEntry_of (rid_ended _ _) (fun x _ => by simp [Entry.ended]) k)⟩
  have place {m : Nat} {sl : Slot} (at_ : s.slots[m]? = some sl) :
      (lapse e.rid s).slots[m]? = some (unheld e.heldSlot e.rid m sl) := by rw [lapse_getElem? entry, at_]; rfl
  refine ⟨fun x mem => ?_, fun r other => ?_, fun m sl at_ held => ?_, fun m sl at_ other => ?_, ?_, ?_, ?_, ?_,
    fun _ => h.replan (.inr (lapse_replan entry))⟩
  · rcases List.mem_cons.1 mem with rfl | later
    · obtain ⟨same, quiet⟩ := h.other x.rid fun y hy => (distinct y hy).symm
      exact ⟨same.trans first, quiet firstQuiet⟩
    · exact seconds ▸ h.entry x later
  · obtain ⟨apart, new⟩ : r ≠ e.rid ∧ ∀ x ∈ l, r ≠ x.rid := by simpa using other
    obtain ⟨same, quiet⟩ := h.other r new
    exact ⟨same.trans (apartSame apart).1, fun k => quiet ((apartSame apart).2 k)⟩
  · obtain ⟨role, x, mem, slot, own⟩ := held
    by_cases now : e.heldSlot = some m ∧ sl.rid = some e.rid
    · have freed : unheld e.heldSlot e.rid m sl = { sl with role := .free, rid := none } := if_pos ⟨role, now⟩
      exact h.kept m _ ((place at_).trans (congrArg some freed)) fun k => by simpa using k.1
    · have same : unheld e.heldSlot e.rid m sl = sl := if_neg fun k => now k.2
      refine h.freed m sl ((place at_).trans (congrArg some same)) ⟨role, x, ?_, slot, own⟩
      rcases List.mem_cons.1 mem with rfl | later
      · exact absurd ⟨slot, own⟩ now
      · exact later
  · have same : unheld e.heldSlot e.rid m sl = sl :=
      if_neg fun k => other ⟨k.1, e, List.mem_cons_self, k.2.1, k.2.2⟩
    refine h.kept m sl ((place at_).trans (congrArg some same)) ?_
    rintro ⟨role, x, mem, slot, own⟩
    exact other ⟨role, x, List.mem_cons_of_mem _ mem, slot, own⟩
  · refine h.length.trans ?_
    have places : ∀ m, (lapse e.rid s).slots[m]? = none ↔ s.slots[m]? = none := fun m => by
      rw [lapse_getElem? entry, Option.map_eq_none_iff]
    have le₁ := List.getElem?_eq_none_iff.1 ((places _).2 (List.getElem?_eq_none_iff.2 (Nat.le_refl _)))
    have le₂ := List.getElem?_eq_none_iff.1 ((places _).1 (List.getElem?_eq_none_iff.2 (Nat.le_refl _)))
    omega
  · rw [h.rhs, lapse_rhs entry]
    simp only [List.map_map]
    congr 1
    refine List.map_congr_left fun x _ => ?_
    cases x with
    | none => rfl
    | some r => by_cases own : r.rid = e.rid <;> simp [Option.filter, own]
  · exact h.lif.trans (enqueue_lif_foldl l (lapse_lif entry))
  · have lif : (lapse e.rid s).lif = (enqueue (lapsedFrame e.rid) (bump .lapsed s)).lif :=
      (lapse_lif entry).trans (enqueue_lif_congr (s := bump .lapsed s) (t := s) rfl _)
    exact h.counters.trans (enqueue_counters_foldl l lif (lapse_counters entry))

/-- Holds of distinct requests, each entry the one of its request, lapse together (R141). -/
theorem allLapsed_lapseAll {l : List Entry} {s : State} (entries : ∀ e ∈ l, s.entry? e.rid = some e)
    (distinct : (l.map (fun e => e.rid)).Nodup) : AllLapsed l s (lapseAll l s) := by
  induction l generalizing s with
  | nil => exact allLapsed_nil s
  | cons e l ih =>
    obtain ⟨new, distinct'⟩ := List.nodup_cons.1 distinct
    have apart : ∀ x ∈ l, x.rid ≠ e.rid := fun x mem same => new (List.mem_map.2 ⟨x, mem, same⟩)
    have entry : s.entry? e.rid = some e := entries e List.mem_cons_self
    refine allLapsed_cons entry apart (ih (s := lapse e.rid s) (fun x mem => ?_) distinct')
    rw [entry?_congr (lapse_book entry), entry?_modEntry_other (rid_ended _ _) (apart x mem)]
    exact entries x (List.mem_cons_of_mem _ mem)

/-! ### The statement (O41) -/

theorem exec_holdTimerExpiry {s : State} (works : operates s = true)
    (due : s.ofe.book.filter (holdDue s.rhs.seconds) ≠ []) :
    exec .holdTimerExpiry s = .next (settle (lapseAll (s.ofe.book.filter (holdDue s.rhs.seconds)) s)) := by
  have some : s.ofe.book.any (holdDue s.rhs.seconds) = true := by
    obtain ⟨e, mem⟩ := List.exists_mem_of_ne_nil _ due
    obtain ⟨mem, h⟩ := List.mem_filter.1 mem
    exact List.any_eq_true.2 ⟨e, mem, h⟩
  have go : (s.core && s.ofe.book.any (holdDue s.rhs.seconds)) = true := by simp [core_of_operates works, some]
  exact congrArg Host.Outcome.next (if_pos go)

theorem lapseAll_frame (l : List Entry) (s : State) : (lapseAll l s).core = s.core ∧ (lapseAll l s).svy = s.svy ∧
    (lapseAll l s).alw = s.alw ∧ (lapseAll l s).seq = s.seq ∧ (lapseAll l s).sul = s.sul := by
  induction l generalizing s with
  | nil => simp [lapseAll]
  | cons e l ih =>
    obtain ⟨h1, h2, h3, h4, h5⟩ := ih (lapse e.rid s)
    exact ⟨h1.trans (by simp), h2.trans (by simp), h3.trans (by simp), h4.trans (by simp), h5.trans (by simp)⟩

theorem entry?_of_unique {s : State} {e : Entry} (unique : RequestIdsUnique s) (mem : e ∈ s.ofe.book) :
    s.entry? e.rid = some e := by
  cases found : s.entry? e.rid with
  | none => exact absurd rfl (entry?_eq_none.1 found e mem)
  | some x =>
    obtain ⟨mem', same⟩ := entry?_mem found
    exact congrArg some (List.inj_on_of_nodup_map unique.1 mem' mem same)

/-- Settles O41, from the lapse of the holds that are due in book order. -/
theorem holdLapsesAtItsDeadline : Obligations.HoldLapsesAtItsDeadline := by
  refine ⟨?one, ?several⟩
  case one =>
    intro s e n sl works due entry slot place role own
    have all : AllLapsed [e] s (lapseAll [e] s) := allLapsed_lapseAll (by simpa using entry) (by simp)
    obtain ⟨-, -, alw, seq, sul⟩ := lapseAll_frame [e] s
    have works' : operates (lapseAll [e] s) = true := by
      rw [operates_congr (s := s) (lapseAll_frame [e] s).1 (by rw [sul])]
      exact works
    have run := exec_holdTimerExpiry works (by simp [due])
    rw [due] at run
    obtain ⟨written, quiet⟩ := all.entry e (by simp)
    refine ⟨_, e.ended .lapsed s.rhs.seconds, run, (entry?_settle quiet).trans written, rfl, rfl, rfl, rfl, ?_, ?_, ?_, ?_,
      settle_pass_isSome works' (.inl (all.replan (.inl (by simp)))), by simp [alw], by simp [seq], by simp [sul]⟩
    · rw [(settle_frame _).2.2.1]
      refine List.ext_getElem? fun m => ?_
      rw [List.getElem?_modify]
      cases at_ : s.slots[m]? with
      | none =>
        have beyond : s.slots.length ≤ m := List.getElem?_eq_none_iff.1 at_
        exact List.getElem?_eq_none_iff.2 (all.length.trans_le beyond)
      | some x =>
        by_cases here : n = m
        · subst here
          obtain rfl : sl = x := Option.some.inj (place.symm.trans at_)
          rw [all.freed n sl place ⟨role, e, by simp, slot, own⟩]
          simp
        · have other : ¬ HeldByOne [e] m x := by
            rintro ⟨-, y, mem, slot', -⟩
            obtain rfl : y = e := by simpa using mem
            exact here (Option.some.inj (slot.symm.trans slot'))
          rw [all.kept m x at_ other]
          simp [here]
    · rw [(settle_frame _).2.2.2.2.2.1, all.rhs]
      simp
    · rw [(settle_frame _).2.1, all.lif]
      rfl
    · rw [(settle_frame _).2.2.2.2.2.2.2.1, all.counters]
      rfl
  case several =>
    intro s works unique due freed some
    have all : AllLapsed due s (lapseAll due s) :=
      allLapsed_lapseAll (fun e mem => entry?_of_unique unique (List.mem_filter.1 mem).1)
        ((List.filter_sublist.map _).nodup unique.1)
    obtain ⟨-, -, alw, seq, sul⟩ := lapseAll_frame due s
    have works' : operates (lapseAll due s) = true := by
      rw [operates_congr (s := s) (lapseAll_frame due s).1 (by rw [sul])]
      exact works
    refine ⟨_, exec_holdTimerExpiry works some, fun e mem => ?_, fun m sl at_ => ⟨fun h => ?_, fun h => ?_⟩, ?_, ?_, ?_,
      settle_pass_isSome works' (.inl (all.replan (.inl some))), (settle_frame _).2.2.2.1.trans alw,
      (settle_frame _).2.2.2.2.1.trans seq, (settle_frame _).2.2.2.2.2.2.1.trans sul⟩
    · obtain ⟨written, quiet⟩ := all.entry e mem
      exact ⟨e.ended .lapsed s.rhs.seconds, (entry?_settle quiet).trans written, rfl, rfl, rfl, rfl⟩
    · rw [(settle_frame _).2.2.1]
      exact all.freed m sl at_ h
    · rw [(settle_frame _).2.2.1]
      exact all.kept m sl at_ h
    · rw [(settle_frame _).2.2.2.2.2.1]
      exact all.rhs
    · rw [(settle_frame _).2.1]
      exact all.lif
    · rw [(settle_frame _).2.2.2.2.2.2.2.1]
      exact all.counters

end Sys2Proof.Machine
end

section
/-! Proofs of the statements about the announcements, the demand timers, the core stop and the tick (O51, O52, O58,
O59). -/

namespace Sys2Proof.Machine

open Sys2Proof

/-! ### The grant and the allowance (R66, R69) -/

/-- What G depends on (R67, R68). -/
theorem grantNow_congr {s t : State} (state : t.sul.state = s.sul.state) (allowance : t.alw.allowance = s.alw.allowance)
    (peers : t.alw.peers = s.alw.peers) (wanted : t.pln.wanted = s.pln.wanted) (urgent : t.pln.urgent = s.pln.urgent) :
    grantNow t = grantNow s := by
  simp only [grantNow, countedPeers, state, allowance, peers, wanted, urgent]

theorem grantNow_settle (s : State) : grantNow (settle s) = grantNow s :=
  grantNow_congr (by simp) (by simp) (by simp) (settle_figures s).1 (settle_figures s).2

theorem recomputeGrant_of_same {s : State} (h : grantNow s = s.alw.grant) : recomputeGrant s = s := if_pos h

theorem recomputeGrant_of_new {s : State} (h : grantNow s ≠ s.alw.grant) :
    recomputeGrant s = setReplan { s with alw.grant := grantNow s } := if_neg h

theorem recomputeGrant_alw (s : State) : (recomputeGrant s).alw = { s.alw with grant := grantNow s } := by
  by_cases same : grantNow s = s.alw.grant
  · rw [recomputeGrant_of_same same, same]
  · rw [recomputeGrant_of_new same]
    rfl

theorem recomputeGrant_wanted (s : State) : (recomputeGrant s).pln.wanted = s.pln.wanted ∧
    (recomputeGrant s).pln.urgent = s.pln.urgent := by
  unfold recomputeGrant
  split <;> exact ⟨rfl, rfl⟩

theorem grantNow_recomputeGrant (s : State) : grantNow (recomputeGrant s) = grantNow s :=
  grantNow_congr (by simp) (by rw [recomputeGrant_alw]) (by rw [recomputeGrant_alw]) (recomputeGrant_wanted s).1
    (recomputeGrant_wanted s).2

/-- A new G asks for a planning pass (R69). -/
theorem recomputeGrant_replan {s : State} (h : grantNow s ≠ s.alw.grant) : (recomputeGrant s).pln.replan = true := by
  rw [recomputeGrant_of_new h]
  rfl

theorem recomputeAllowance_alw (s : State) : ∃ g, (recomputeAllowance s).alw =
    { s.alw with allowance := allowanceOf s.sul.cfg s.alw.meter, grant := g } ∧
      (allowanceOf s.sul.cfg s.alw.meter ≠ s.alw.allowance → g = grantNow (recomputeAllowance s)) := by
  unfold recomputeAllowance
  dsimp only
  split
  · next same => exact ⟨s.alw.grant, by rw [same], fun other => absurd same other⟩
  · exact ⟨_, recomputeGrant_alw _, fun _ => (grantNow_recomputeGrant _).symm⟩

/-! ### The announcements (O51) -/

theorem exec_demand (source : BitVec 4) (w u g : Half) (r0 r1 r2 r3 em sc : Byte) {s : State} (works : operates s = true)
    (ends : FrameMayEnd s) : exec (.demand source w u g r0 r1 r2 r3 em sc) s =
      .next (settle (takeDemand source (peerOf w u r0 r1 r2 r3 em s.rhs.seconds) (toSpace s))) := by
  refine (congrArg Host.Outcome.next (receiveGood_plain ends (targeted_all s) (fun _ => rfl))).trans ?_
  exact congrArg (fun t => Host.Outcome.next (settle t)) (if_neg (haltedConfig_of_operates (s := toSpace s) works))

theorem exec_meter (load total : Half) {s : State} (works : operates s = true) (ends : FrameMayEnd s) :
    exec (.meter load total) s = .next (settle (takeMeter load total (toSpace s))) := by
  refine (congrArg Host.Outcome.next (receiveGood_plain ends (targeted_all s) (fun _ => rfl))).trans ?_
  exact congrArg (fun t => Host.Outcome.next (settle t)) (if_neg (haltedConfig_of_operates (s := toSpace s) works))

/-- Settles O51, by who sent the DEMAND and by the meter record. -/
theorem announcementsAreTaken : Obligations.AnnouncementsAreTaken := by
  refine ⟨?demand, ?meter, ?freshness⟩
  case demand =>
    intro s source w u g r0 r1 r2 r3 em sc works ends
    rw [exec_demand source w u g r0 r1 r2 r3 em sc works ends]
    refine ⟨fun other => ?_, fun own nothing => ?_⟩
    · let v : State := { toSpace s with
        alw.peers := s.alw.peers.set source.toNat (some (peerOf w u r0 r1 r2 r3 em s.rhs.seconds)) }
      have taken : takeDemand source (peerOf w u r0 r1 r2 r3 em s.rhs.seconds) (toSpace s) = recomputeGrant v :=
        if_neg other
      have alw : (settle (recomputeGrant v)).alw = { v.alw with grant := grantNow v } := by
        rw [(settle_frame _).2.2.2.1, recomputeGrant_alw]
      have now : grantNow (settle (recomputeGrant v)) = grantNow v :=
        (grantNow_settle _).trans (grantNow_recomputeGrant v)
      rw [taken]
      refine ⟨_, rfl, ?_, ?_, fun changed => ?_, ?_⟩
      · rw [alw]
        rfl
      · rw [now, alw]
      · rw [alw] at changed
        exact settle_pass_isSome (by simpa [operates, v, toSpace] using works)
          (.inl (recomputeGrant_replan (s := v) changed))
      · apply state_ext <;> simp [v, toSpace]
    · have taken : takeDemand source (peerOf w u r0 r1 r2 r3 em s.rhs.seconds) (toSpace s) = toSpace s := if_pos own
      rw [taken, settle_of_nothingDue (nothingDue_toSpace nothing)]
      rfl
  case meter =>
    intro s load total works ends
    let v : State := { toSpace s with
      alw.meter := ⟨load.toNat * 10, total.toNat * 10, s.rhs.seconds, true⟩, alw.freshTimer := some 3000 }
    obtain ⟨grant, alw, follows⟩ := recomputeAllowance_alw v
    have alw' : (settle (recomputeAllowance v)).alw =
        { v.alw with allowance := allowanceOf s.sul.cfg v.alw.meter, grant := grant } := by
      rw [(settle_frame _).2.2.2.1, alw]
      rfl
    have taken : takeMeter load total (toSpace s) = recomputeAllowance v := rfl
    rw [exec_meter load total works ends, taken]
    refine ⟨_, rfl, ?_, ?_, fun changed => ?_, ?_⟩
    · rw [alw']
      rfl
    · rw [alw']
      simp only [allowanceOf, v, if_true]
      omega
    · rw [alw'] at changed ⊢
      exact (follows changed).trans (grantNow_settle _).symm
    · apply state_ext <;> simp [v, toSpace]
  case freshness =>
    intro s on timer
    let v : State := { s with alw.freshTimer := none, alw.meter.fresh := false }
    have run : exec .freshnessTimerExpiry s = .next (settle (recomputeAllowance v)) :=
      congrArg Host.Outcome.next (if_pos (by simp [on, timer]))
    obtain ⟨grant, alw, follows⟩ := recomputeAllowance_alw v
    have alw' : (settle (recomputeAllowance v)).alw =
        { v.alw with allowance := min s.sul.cfg.fallback s.sul.cfg.contract, grant := grant } := by
      rw [(settle_frame _).2.2.2.1, alw]
      rfl
    refine ⟨_, run, ?_, fun changed => ?_, ?_⟩
    · rw [alw']
    · rw [alw'] at changed ⊢
      exact (follows changed).trans (grantNow_settle _).symm
    · apply state_ext <;> simp [v]

/-! ### The DEMAND of the moment (O52) -/

theorem bytes16_halfOf (n : Nat) : bytes16 (halfOf n) = twoBytes n := by
  have hi : hiByte (halfOf n) = BitVec.ofNat 8 (n / 256) := by
    apply BitVec.eq_of_toNat_eq
    simp only [hiByte, halfOf, BitVec.extractLsb'_toNat, BitVec.toNat_ofNat, Nat.shiftRight_eq_div_pow]
    omega
  have lo : loByte (halfOf n) = BitVec.ofNat 8 n := by
    apply BitVec.eq_of_toNat_eq
    simp only [loByte, halfOf, BitVec.extractLsb'_toNat, BitVec.toNat_ofNat, Nat.shiftRight_zero]
    omega
  simp [bytes16, hi, lo]

theorem demandReady_byte (s : State) (k : PackClass) : byteOf (demandReady s k) =
    if s.sul.state = .withdrawn then 0 else
      BitVec.ofNat 8 (s.views.filter (ReadyForRelease s.sul.cfg k)).length := by
  unfold demandReady
  split
  · rfl
  · rw [readyCount_eq_length_filter]
    rfl

theorem emptyFree_eq (s : State) :
    emptyFree s = (s.slots.filter (fun sl => decide (sl.cond = .empty ∧ sl.role = .free))).length := by
  simp [emptyFree, List.countP_eq_length_filter, Bool.decide_and]

theorem stateCode_eq (st : StationState) : byteOf st.code =
    codeIn [StationState.starting, .joining, .active, .withdrawn, .holdup, .haltedConfig] st := by
  cases st <;> rfl

theorem demandFrame_data (s : State) : (demandFrame s).data = demandBytes (demandWanted s) (demandUrgent s) s := by
  simp only [demandFrame, bytes16_halfOf, demandReady_byte, emptyFree_eq, stateCode_eq]
  rfl

/-- Settles O52. -/
theorem demandTimersAnnounce : Obligations.DemandTimersAnnounce := by
  intro s on announced urgent
  refine ⟨⟨rfl, rfl, rfl, rfl, demandFrame_data s⟩, fun timer => ?_, fun timer early => ?_, fun timer late => ?_⟩
  · have run : exec .demandTimerExpiry s = .next (produceDemand { s with alw.demandTimer := some 2000 }) :=
      congrArg Host.Outcome.next (if_pos (by simp [on, timer]))
    have lif := enqueue_lif_congr (s := s) (t := { s with alw.demandTimer := some 2000 }) rfl (demandFrame s)
    have counters :=
      enqueue_counters_congr (s := s) (t := { s with alw.demandTimer := some 2000 }) rfl rfl (demandFrame s)
    rw [run]
    refine congrArg Host.Outcome.next ?_
    apply state_ext
    case lif => exact lif
    case counters => exact counters
    all_goals simp [produceDemand, demandWanted, announced]
  · let u : State := { s with alw.spacingTimer := none }
    have run : exec .spacingTimerExpiry s = .next (produceDemand u) :=
      congrArg Host.Outcome.next ((if_pos (by simp [on, timer])).trans (if_pos early))
    rw [run]
    refine congrArg Host.Outcome.next ?_
    apply state_ext
    case lif => exact enqueue_lif_congr (s := s) (t := u) rfl (demandFrame s)
    case counters => exact enqueue_counters_congr (s := s) (t := u) rfl rfl (demandFrame s)
    all_goals simp [produceDemand, demandWanted, announced, u]
  · have quiet : ¬ s.alw.earlyPending = true := by simp [late]
    exact congrArg Host.Outcome.next ((if_pos (by simp [on, timer])).trans (if_neg quiet))

/-! ### The core stop (O58) -/

/-- Settles O58. -/
theorem coreStopKeepsTheStore : Obligations.CoreStopKeepsTheStore := by
  refine ⟨fun s on => ?_, fun s on => ?_, fun s off => ?_⟩
  · have run : exec .coreStop s = .next s.coreLost := congrArg Host.Outcome.next (if_pos on)
    exact ⟨_, run, rfl, fun n => ⟨rfl, rfl⟩, rfl, rfl⟩
  · exact congrArg Host.Outcome.next (if_pos on)
  · have run : exec .retainedCellFail s = .next (spoilRetained { s with rhs.valid := false }) :=
      congrArg Host.Outcome.next (if_neg (by simp [off]))
    exact ⟨_, run, rfl, by simp [spoilRetained], rfl⟩

end Sys2Proof.Machine
end

section
/-! Proof of the statement about the tick (O59). -/

namespace Sys2Proof.Machine

open Sys2Proof

/-! ### What begins at the end of a tick -/

theorem settle_pln_of_notDue {s t : State} (nothing : s.pln.replan = true → s.pln.pass.isSome = true)
    (pln : t.pln = s.pln) : (settle t).pln = s.pln := by
  rw [settle_pln, beginPass_pln, pln]
  refine if_neg ?_
  rintro ⟨-, asked, idle⟩
  simpa [idle] using nothing asked

/-- A pass that runs goes on; what is asked for waits for it (R77). -/
theorem settle_pln_of_running {s : State} (running : s.pln.pass.isSome = true) : (settle s).pln = s.pln := by
  rw [settle_pln, beginPass_pln]
  exact if_neg fun h => by simp [h.2.2] at running

theorem settle_ids (s : State) : (settle s).ofe.book.map (fun e => e.rid) = s.ofe.book.map (fun e => e.rid) := by
  rw [settle_ofe]
  by_cases begins : operates s = false ∨ s.ofe.evaluation.isSome = true ∨ ∀ e ∈ s.ofe.book, e.state ≠ .heard
  · rw [beginEvaluation_of_nothing begins]
  · simp only [not_or, Bool.not_eq_false, Bool.not_eq_true, Option.isSome_eq_false_iff, Option.isNone_iff_eq_none] at begins
    obtain ⟨runs, idle, heard⟩ := begins
    obtain ⟨e, found⟩ : ∃ e, s.ofe.book.find? (fun e => decide (e.state = .heard)) = some e := by
      simpa [← Option.isSome_iff_exists, List.find?_isSome] using heard
    rw [beginEvaluation_ofe_of_heard runs idle found]
    simp only [List.map_map]
    refine List.map_congr_left fun x _ => ?_
    simp only [Function.comp]
    split <;> rfl

/-! ### The aging of peers (R63) -/

/-- A peer of this age makes a transition at the tick of second `now` (R63). -/
def Ages (now : Word) (p : Peer) : Prop :=
  (p.state = .present ∧ 5 < since now p.lastHeard) ∨ (p.state = .stale ∧ 15 < since now p.lastHeard)

theorem agePeer_present {now : Word} {p : Peer} (h : p.state = .present) :
    agePeer now p = { p with state := if 5 < since now p.lastHeard then .stale else .present } := by
  simp only [agePeer, h]
  split
  · rfl
  · rw [← h]

theorem agePeer_stale_old {now : Word} {p : Peer} (h : p.state = .stale) (age : 15 < since now p.lastHeard) :
    agePeer now p = ⟨.absent, 0, 0, p.lastHeard, 0, 0, 0, 0, 0⟩ := by simp [agePeer, h, age]

theorem agePeer_of_not_ages {now : Word} {p : Peer} (h : ¬ Ages now p) : agePeer now p = p := by
  unfold agePeer
  split
  · next present => exact if_neg fun age => h (.inl ⟨present, age⟩)
  · next stale => exact if_neg fun age => h (.inr ⟨stale, age⟩)
  · rfl

theorem agePeer_of_ages {now : Word} {p : Peer} (h : Ages now p) : agePeer now p ≠ p := by
  intro same
  have state := congrArg Peer.state same
  rcases h with ⟨present, age⟩ | ⟨stale, age⟩
  · rw [agePeer_present present, if_pos age, present] at state
    cases state
  · rw [agePeer_stale_old stale age, stale] at state
    cases state

/-- The Peer Table a tick later (R63). -/
def agedPeers (s : State) : List (Option Peer) := s.alw.peers.map (Option.map (agePeer s.rhs.seconds))

theorem agedPeers_eq_iff {s : State} :
    agedPeers s = s.alw.peers ↔ ∀ p, some p ∈ s.alw.peers → ¬ Ages s.rhs.seconds p := by
  constructor
  · intro same p mem ages
    have fixed : ∀ x ∈ s.alw.peers, Option.map (agePeer s.rhs.seconds) x = x :=
      List.map_inj_left.1 (same.trans s.alw.peers.map_id.symm)
    exact agePeer_of_ages ages (Option.some.inj (fixed _ mem))
  · intro still
    refine (List.map_congr_left (g := id) fun x mem => ?_).trans s.alw.peers.map_id
    cases x with
    | none => rfl
    | some p => exact congrArg some (agePeer_of_not_ages (still p mem))

theorem agePeers_of_same {s : State} (h : agedPeers s = s.alw.peers) : agePeers s = s := if_pos h

theorem agePeers_of_aged {s : State} (h : agedPeers s ≠ s.alw.peers) :
    agePeers s = recomputeGrant { s with alw.peers := agedPeers s } := if_neg h

theorem agePeers_peers (s : State) : (agePeers s).alw.peers = agedPeers s := by
  by_cases same : agedPeers s = s.alw.peers
  · rw [agePeers_of_same same, same]
  · rw [agePeers_of_aged same, recomputeGrant_alw]

/-! ### The tick (O59) -/

/-- The counter a second on (R170). -/
def secondOn (s : State) : State := { s with rhs.seconds := s.rhs.seconds + 1 }

theorem exec_secondsTick_off {s : State} (off : s.core = false) : exec .secondsTick s = .next (secondOn s) :=
  congrArg Host.Outcome.next (if_neg (by simp [off]))

theorem exec_secondsTick_on {s : State} (on : s.core = true) : exec .secondsTick s = .next (settle (removeLingered
    (if s.sul.state.operating then agePeers (secondOn s) else secondOn s))) :=
  congrArg Host.Outcome.next (if_pos on)

theorem stays_iff (now : Word) (e : Entry) : (!lingered now e) = (e.state.live ||
    (e.linger.map (fun l => decide ((now - l).toNat < 60))).getD true) := by
  unfold lingered since
  cases e.linger with
  | none => simp
  | some l =>
    have young : decide ((now - l).toNat < 60) = !decide (60 ≤ (now - l).toNat) := by
      rw [← decide_not]
      exact decide_eq_decide.2 Nat.not_le.symm
    rw [Option.map_some, Option.getD_some, young]
    simp only [Bool.not_and, Bool.not_not]

/-- Settles O59: with the core off, in a station that is not at work, and at work by whether a peer makes a transition. -/
theorem tickAgesPeersAndEntries : Obligations.TickAgesPeersAndEntries := by
  intro s
  cases on : s.core with
  | false =>
    have still : operates s = false := by simp [operates, on]
    exact ⟨_, exec_secondsTick_off on, rfl, fun _ => by rw [← on]; rfl, fun works => by simp [still] at works, rfl, rfl, rfl, rfl,
      rfl⟩
  | true =>
    let u : State := secondOn s
    let v : State := if s.sul.state.operating then agePeers u else u
    have frame : v.lif = s.lif ∧ v.slots = s.slots ∧ v.seq = s.seq ∧ v.sul = s.sul ∧ v.counters = s.counters ∧
        v.rhs = u.rhs ∧ v.ofe = s.ofe := by
      simp only [v]
      split <;> simp [u, secondOn]
    obtain ⟨lif, slots, seq, sul, counters, rhs, ofe⟩ := frame
    have run : exec .secondsTick s = .next (settle (removeLingered v)) := exec_secondsTick_on on
    refine ⟨_, run, ?_, nofun, fun works => ?_, ?_, ?_, ?_, ?_, ?_⟩
    case refine_1 => exact (settle_frame _).2.2.2.2.2.1.trans rhs
    case refine_3 => exact (settle_frame _).2.1.trans lif
    case refine_4 => exact (settle_frame _).2.2.1.trans slots
    case refine_5 => exact (settle_frame _).2.2.2.2.1.trans seq
    case refine_6 => exact (settle_frame _).2.2.2.2.2.2.1.trans sul
    case refine_7 => exact (settle_frame _).2.2.2.2.2.2.2.1.trans counters
    have operating : s.sul.state.operating = true := by
      unfold operates at works
      simpa [on] using works
    have aged : v = agePeers u := if_pos operating
    have alw : (settle (removeLingered v)).alw = (agePeers u).alw := by
      rw [(settle_frame _).2.2.2.1, aged]
      rfl
    have peers : (settle (removeLingered v)).alw.peers = agedPeers u := by rw [alw, agePeers_peers]
    have works' : operates (removeLingered v) = true := by
      simpa [operates, removeLingered, aged, u, secondOn] using works
    refine ⟨fun n p place => ?_, ?_, fun n place => ?_, ⟨fun still => ?_, fun moves => ?_⟩, ?_⟩
    · refine ⟨agePeer u.rhs.seconds p, ?_, fun present => agePeer_present present,
        fun stale young => agePeer_of_not_ages ?_, fun stale old => agePeer_stale_old stale old,
        fun absent => agePeer_of_not_ages ?_⟩
      · rw [peers, agedPeers, List.getElem?_map]
        exact congrArg (Option.map _) place
      · rintro (⟨present, -⟩ | ⟨-, old⟩)
        · simp [stale] at present
        · exact absurd old (Nat.not_lt.2 young)
      · rintro (⟨present, -⟩ | ⟨stale, -⟩)
        · simp [absent] at present
        · simp [absent] at stale
    · rw [peers]
      simp [agedPeers, u, secondOn]
    · rw [peers, agedPeers, List.getElem?_map]
      exact congrArg (Option.map _) place
    · have same : agePeers u = u := agePeers_of_same (agedPeers_eq_iff.2 still)
      refine ⟨?_, fun nothing => settle_pln_of_notDue (nothing works).1 ?_⟩
      · rw [alw, same]
        rfl
      · show v.pln = _
        rw [aged, same]
        rfl
    · let w : State := { u with alw.peers := agedPeers u }
      have other : agedPeers u ≠ u.alw.peers := by
        obtain ⟨p, mem, ages⟩ := moves
        exact fun same => agedPeers_eq_iff.1 same p mem ages
      have recomputed : v = recomputeGrant w := aged.trans (agePeers_of_aged other)
      have now : grantNow (settle (removeLingered v)) = grantNow w := by
        rw [grantNow_settle, recomputed]
        exact grantNow_recomputeGrant w
      have figures : (settle (removeLingered v)).pln.wanted = s.pln.wanted ∧
          (settle (removeLingered v)).pln.urgent = s.pln.urgent := by
        rw [(settle_figures _).1, (settle_figures _).2, recomputed]
        exact recomputeGrant_wanted w
      refine ⟨?_, figures.1, figures.2, fun same nothing => settle_pln_of_notDue (nothing works).1 ?_, fun changed => ⟨?_,
        fun running => ?_⟩⟩
      · rw [now, peers, (settle_frame _).2.2.2.1]
        show v.alw = _
        rw [recomputed]
        exact recomputeGrant_alw w
      · rw [now] at same
        show v.pln = _
        rw [recomputed, recomputeGrant_of_same same]
        rfl
      · rw [now] at changed
        refine settle_pass_isSome works' (.inl ?_)
        show v.pln.replan = true
        rw [recomputed]
        exact recomputeGrant_replan (s := w) changed
      · rw [now] at changed
        have pln : v.pln = { s.pln with replan := true } := by
          rw [recomputed, recomputeGrant_of_new (s := w) changed]
          rfl
        have busy : (removeLingered v).pln.pass.isSome = true := by
          show v.pln.pass.isSome = true
          rw [pln]
          exact running
        exact (settle_pln_of_running busy).trans pln
    · rw [settle_ids]
      refine congrArg (List.map _) ?_
      show v.ofe.book.filter (fun e => !lingered v.rhs.seconds e) = _
      rw [ofe, rhs]
      refine List.filter_congr fun e _ => (stays_iff _ e).trans ?_
      cases e.linger <;> rfl

end Sys2Proof.Machine
end

section
/-! Changes of station state, and the statements about the door and about mains and joining (O49, O57). -/

namespace Sys2Proof.Machine

open Sys2Proof

/-! ### The new state is handed to PLN and ALW (R164) -/

/-- A new station state as PLN and ALW take it (R164). -/
def handedOff (new : StationState) (s : State) : State :=
  allowanceHandOff s.sul.state (plannerHandOff { s with sul.state := new })

theorem changeState_of_active (s : State) : changeState .active s = lookAtQueue (handedOff .active s) := rfl

theorem changeState_of_other {new : StationState} (h : new ≠ .active) (s : State) :
    changeState new s = handedOff new s :=
  if_neg h

theorem handedOff_sul (new : StationState) (s : State) : (handedOff new s).sul = { s.sul with state := new } := by
  simp [handedOff]

theorem plannerHandOff_of_other {s : State} (h : s.sul.state ≠ .holdup) : plannerHandOff s = setReplan s := if_neg h

theorem plannerHandOff_replan (s : State) : (plannerHandOff s).pln.replan = true := by
  unfold plannerHandOff
  split <;> rfl

theorem recomputeGrant_keeps_replan {s : State} (h : s.pln.replan = true) : (recomputeGrant s).pln.replan = true := by
  unfold recomputeGrant
  split
  · exact h
  · rfl

theorem produceDemand_pln (s : State) : (produceDemand s).pln = s.pln := by simp [produceDemand]

theorem allowanceHandOff_replan {old : StationState} {s : State} (h : s.pln.replan = true) :
    (allowanceHandOff old s).pln.replan = true := by
  have kept := recomputeGrant_keeps_replan h
  unfold allowanceHandOff
  dsimp only
  split
  · split <;> exact kept
  · split
    · rw [produceDemand_pln]
      exact kept
    · exact kept

/-- A new station state asks for a planning pass (R76). -/
theorem handedOff_replan (new : StationState) (s : State) : (handedOff new s).pln.replan = true :=
  allowanceHandOff_replan (plannerHandOff_replan _)

theorem changeState_replan (new : StationState) (s : State) : (changeState new s).pln.replan = true := by
  unfold changeState
  split
  · exact (queueLeaves_lookAtQueue _).replan (handedOff_replan new s)
  · exact handedOff_replan new s

/-- At the end of its event a new state in which the part is at work has its planning pass (R76, R77). -/
theorem settle_changeState_pass {new : StationState} {s : State} (on : s.core = true) (works : new.operating = true) :
    (settle (changeState new s)).pln.pass.isSome = true := by
  refine settle_pass_isSome ?_ (.inl (changeState_replan new s))
  simp [operates, changeState_sul, on, works]

theorem handedOff_frame (new : StationState) (s : State) : (handedOff new s).core = s.core ∧
    (handedOff new s).ofe = s.ofe ∧ (handedOff new s).seq = s.seq ∧ (handedOff new s).rhs = s.rhs ∧
    (handedOff new s).svy = s.svy := by simp [handedOff]

/-- Outside HOLDUP the setpoints stay for the pass that follows (R92). -/
theorem handedOff_slots {new : StationState} (h : new ≠ .holdup) (s : State) : (handedOff new s).slots = s.slots := by
  simp [handedOff, plannerHandOff_of_other (s := { s with sul.state := new }) h]

theorem handedOff_line {new : StationState} (h : new ≠ .holdup) (s : State) :
    (handedOff new s).lif = s.lif ∧ (handedOff new s).counters = s.counters := by
  unfold handedOff allowanceHandOff
  rw [plannerHandOff_of_other (s := { s with sul.state := new }) h]
  dsimp only
  split
  · split <;> simp
  · have stays : ¬ ((s.sul.state = .active ∨ s.sul.state = .withdrawn) ∧
        (recomputeGrant (setReplan { s with sul.state := new })).sul.state = .holdup) := by simp [h]
    rw [if_neg stays]
    simp

/-- ALW's demand timer goes on between ACTIVE and WITHDRAWN, and starts where they are entered (R71). -/
theorem handedOff_demandTimer {new : StationState} (h : new = .active ∨ new = .withdrawn) (s : State) :
    (handedOff new s).alw.demandTimer =
      if s.sul.state = .active ∨ s.sul.state = .withdrawn then s.alw.demandTimer else some 2000 := by
  have other : new ≠ .holdup := by rcases h with h | h <;> simp [h]
  have offers : (recomputeGrant (setReplan { s with sul.state := new })).sul.state = .active ∨
      (recomputeGrant (setReplan { s with sul.state := new })).sul.state = .withdrawn := by simpa using h
  unfold handedOff allowanceHandOff
  rw [plannerHandOff_of_other (s := { s with sul.state := new }) other]
  dsimp only
  rw [if_pos offers]
  split
  · rw [recomputeGrant_alw]
    rfl
  · rfl

theorem changeState_demandTimer {new : StationState} (h : new = .active ∨ new = .withdrawn) (s : State) :
    (changeState new s).alw.demandTimer =
      if s.sul.state = .active ∨ s.sul.state = .withdrawn then s.alw.demandTimer else some 2000 := by
  rw [← handedOff_demandTimer h]
  unfold changeState
  split <;> simp [handedOff]

/-- ACTIVE is entered: the queue is looked at (R145, R164). -/
theorem queueLookedAt_active {s u : State} (unique : RequestIdsUnique s) (idle : s.seq.active = none)
    (ofe : u.ofe = s.ofe) (seq : u.seq = s.seq) (slots : u.slots = s.slots) (rhs : u.rhs = s.rhs)
    (cfg : u.sul.cfg = s.sul.cfg) : QueueLookedAt s (settle (changeState .active u)) s.seq s.slots := by
  obtain ⟨-, ofe', seq', rhs', -⟩ := handedOff_frame .active u
  rw [changeState_of_active]
  have book : (handedOff .active u).ofe.book = s.ofe.book := by rw [ofe', ofe]
  refine queueLookedAt_settle (seq'.trans seq) idle ((handedOff_slots (by simp) u).trans slots) (by rw [rhs', rhs])
    (by rw [handedOff_sul]; exact cfg) (fun r _ => entry?_congr book r) (fun r _ e entry serving => ?_)
  exact notHeard_congr book (serving_notHeard unique entry serving)

/-! ### The door (O49) -/

theorem takeReport_of_idle {s : State} (h : s.seq.active = none) (n : Nat) (r : Report) : takeReport n r s = s := by
  simp [takeReport, h]

theorem reportCleared_of_idle {s : State} (h : s.seq.active = none) (l : List Nat) :
    reportCleared l s = s ∨ reportCleared l s = setReplan s := by
  induction l generalizing s with
  | nil => exact .inl rfl
  | cons n l ih =>
    refine .inr ?_
    have first : setReplan (takeReport n ⟨.cleared, .empty, none, none⟩ s) = setReplan s := by
      rw [takeReport_of_idle h]
    have rest : reportCleared (n :: l) s = reportCleared l (setReplan s) := congrArg (reportCleared l) first
    exact rest.trans ((ih (s := setReplan s) h).elim id id)

theorem doorCloses_of_tampered {cfg : Cfg} {sl : Slot} (h : sl.cond = .fault ∧ sl.reason = some .tamper ∧
    sl.doorOpened = true) : (sl.absentCount = 2 → sl.doorCloses cfg = ({ sl with doorCycle := true }.emptied).afterSurvey cfg) ∧
      (sl.absentCount ≠ 2 → sl.doorCloses cfg = { sl with doorCycle := true }) :=
  ⟨fun two => (if_pos h).trans (if_pos two), fun other => (if_pos h).trans (if_neg other)⟩

theorem doorCloses_of_other {cfg : Cfg} {sl : Slot} (h : ¬ (sl.cond = .fault ∧ sl.reason = some .tamper ∧
    sl.doorOpened = true)) : sl.doorCloses cfg = sl := if_neg h

/-- The state as the door's close event leaves it while SEQ is idle: what the reports change is the request for a pass. -/
theorem surveyDoorCloses_of_idle {s : State} (h : s.seq.active = none) :
    let u : State := { s with slots := s.slots.map (Slot.doorCloses s.sul.cfg) }
    surveyDoorCloses s = u ∨ surveyDoorCloses s = setReplan u :=
  reportCleared_of_idle (s := { s with slots := s.slots.map (Slot.doorCloses s.sul.cfg) }) h _

theorem surveyDoorCloses_idle {s : State} (h : s.seq.active = none) :
    (surveyDoorCloses s).slots = s.slots.map (Slot.doorCloses s.sul.cfg) ∧ (surveyDoorCloses s).sul = s.sul ∧
      (surveyDoorCloses s).core = s.core ∧ (surveyDoorCloses s).alw = s.alw ∧ (surveyDoorCloses s).seq = s.seq ∧
      (surveyDoorCloses s).lif = s.lif ∧ (surveyDoorCloses s).rhs = s.rhs ∧ (surveyDoorCloses s).ofe = s.ofe ∧
      (surveyDoorCloses s).counters = s.counters := by
  rcases surveyDoorCloses_of_idle h with same | same <;> rw [same] <;> exact ⟨rfl, rfl, rfl, rfl, rfl, rfl, rfl, rfl, rfl⟩

theorem exec_doorClose {s : State} (on : s.core = true) (doorOpen : s.sul.doorOpen = true) : exec .doorClose s =
    .next (settle (if (surveyDoorCloses { s with sul.doorOpen := false }).sul.state = .withdrawn then
      changeState .active (surveyDoorCloses { s with sul.doorOpen := false })
    else surveyDoorCloses { s with sul.doorOpen := false })) :=
  congrArg Host.Outcome.next (if_pos (by simp [on, doorOpen]))

/-- Settles O49, by the station state in which the door moves. -/
theorem doorEventsMarkAndChangeState : Obligations.DoorEventsMarkAndChangeState := by
  refine ⟨?opens, ?closes⟩
  case opens =>
    intro s works closed
    let u : State := { s with slots := s.slots.map Slot.doorOpens, sul.doorOpen := true }
    have on := core_of_operates works
    have run : exec .doorOpen s = .next (settle (if s.sul.state = .active then changeState .withdrawn u else u)) :=
      congrArg Host.Outcome.next (if_pos (by simp [on, closed]))
    rw [run]
    by_cases active : s.sul.state = .active
    · obtain ⟨-, -, seq, rhs, -⟩ := handedOff_frame .withdrawn u
      obtain ⟨lif, counters⟩ := handedOff_line (new := .withdrawn) (by simp) u
      rw [if_pos active, changeState_of_other (by simp)]
      refine ⟨_, rfl, ?_, ?_, ?_, (settle_frame _).2.2.2.2.1.trans seq, (settle_frame _).2.1.trans lif,
        (settle_frame _).2.2.2.2.2.1.trans rhs, (settle_frame _).2.2.2.2.2.2.2.1.trans counters⟩
      · rw [(settle_frame _).2.2.2.2.2.2.1, handedOff_sul, if_pos active]
      · rw [(settle_frame _).2.2.1, handedOff_slots (by simp)]
        rfl
      · rw [(settle_frame _).2.2.2.1, handedOff_demandTimer (.inr rfl), if_pos (.inl active)]
    · rw [if_neg active]
      refine ⟨_, rfl, ?_, ?_, ?_, ?_, ?_, ?_, ?_⟩
      case refine_1 => simp [u, active]
      case refine_2 => exact (settle_frame u).2.2.1
      all_goals simp [u]
  case closes =>
    intro s works opened idle alone
    have on := core_of_operates works
    let u : State := surveyDoorCloses { s with sul.doorOpen := false }
    obtain ⟨slots, sul, core, alw, seq, lif, rhs, ofe, counters⟩ :=
      surveyDoorCloses_idle (s := { s with sul.doorOpen := false }) idle
    have written (n : Nat) (sl : Slot) (place : s.slots[n]? = some sl) : ∃ sl', u.slots[n]? = some sl' ∧
        (sl.cond = .fault → sl.reason = some .tamper → sl.doorOpened = true →
          (sl.absentCount = 2 → sl'.cond = .empty ∧ sl'.reason = none ∧ sl'.setpoint = 0) ∧
          (sl.absentCount ≠ 2 → sl' = { sl with doorCycle := true })) ∧
        (¬ (sl.cond = .fault ∧ sl.reason = some .tamper ∧ sl.doorOpened = true) → sl' = sl) := by
      refine ⟨sl.doorCloses s.sul.cfg, ?_, fun fault tamper opened => ⟨fun two => ?_, fun other => ?_⟩,
        fun other => doorCloses_of_other other⟩
      · rw [slots, List.getElem?_map]
        exact congrArg (Option.map _) place
      · rw [(doorCloses_of_tampered ⟨fault, tamper, opened⟩).1 two]
        exact ⟨rfl, rfl, rfl⟩
      · exact (doorCloses_of_tampered ⟨fault, tamper, opened⟩).2 other
    rw [exec_doorClose on opened]
    by_cases withdrawn : s.sul.state = .withdrawn
    · have leaves : u.sul.state = .withdrawn := by rw [sul]; exact withdrawn
      obtain ⟨-, -, seq', rhs', -⟩ := handedOff_frame .active u
      obtain ⟨lif', counters'⟩ := handedOff_line (new := .active) (by simp) u
      have still : lookAtQueue (handedOff .active u) = handedOff .active u :=
        lookAtQueue_of_rest (.inl (by rw [seq', seq]; exact alone))
      rw [if_pos leaves, changeState_of_active, still]
      refine ⟨_, rfl, ?_, ?_, ?_, (settle_frame _).2.2.2.2.1.trans (seq'.trans seq),
        (settle_frame _).2.1.trans (lif'.trans lif), (settle_frame _).2.2.2.2.2.1.trans (rhs'.trans rhs),
        (settle_frame _).2.2.2.2.2.2.2.1.trans (counters'.trans counters)⟩
      · rw [(settle_frame _).2.2.2.2.2.2.1, handedOff_sul, sul, if_pos withdrawn]
      · intro n sl place
        rw [(settle_frame _).2.2.1, handedOff_slots (by simp)]
        exact written n sl place
      · rw [(settle_frame _).2.2.2.1, handedOff_demandTimer (.inl rfl), if_pos (.inr leaves), alw]
    · have stays : ¬ u.sul.state = .withdrawn := by rw [sul]; exact withdrawn
      rw [if_neg stays]
      refine ⟨_, rfl, ?_, ?_, ?_, (settle_frame u).2.2.2.2.1.trans seq, (settle_frame u).2.1.trans lif,
        (settle_frame u).2.2.2.2.2.1.trans rhs, (settle_frame u).2.2.2.2.2.2.2.1.trans counters⟩
      · rw [(settle_frame _).2.2.2.2.2.2.1, sul, if_neg withdrawn]
      · intro n sl place
        rw [(settle_frame _).2.2.1]
        exact written n sl place
      · rw [(settle_frame _).2.2.2.1, alw]

end Sys2Proof.Machine
end

section
/-! Proof of the statement about mains and joining (O57). -/

namespace Sys2Proof.Machine

open Sys2Proof

/-! ### HOLDUP (R74, R92, R166) -/

/-- What PLN makes of a HOLDUP (R92). -/
def suspended (s : State) : State :=
  setReplan { zeroAllSetpoints { s with sul.state := .holdup } with pln.wanted := 0, pln.urgent := 0 }

theorem plannerHandOff_holdup (s : State) : plannerHandOff { s with sul.state := .holdup } = suspended s := if_pos rfl

/-- ALW in HOLDUP: no grant, no demand timer (R68, R71). -/
def ungranted (s : State) : State := { recomputeGrant (suspended s) with alw.demandTimer := none }

theorem ungranted_alw (s : State) : (ungranted s).alw = { s.alw with grant := 0, demandTimer := none } := by
  have none : grantNow (suspended s) = 0 := if_neg (by simp [suspended])
  simp only [ungranted, recomputeGrant_alw, none]
  rfl

theorem ungranted_frame (s : State) : (ungranted s).lif = s.lif ∧ (ungranted s).counters = s.counters ∧
    (ungranted s).slots = s.slots.map (Slot.zeroed s.sul.cfg) ∧ (ungranted s).sul = { s.sul with state := .holdup } ∧
    (ungranted s).pln.wanted = 0 ∧ (ungranted s).pln.urgent = 0 := by
  obtain ⟨wanted, urgent⟩ := recomputeGrant_wanted (suspended s)
  refine ⟨by simp [ungranted, suspended, zeroAllSetpoints], by simp [ungranted, suspended, zeroAllSetpoints],
    by simp [ungranted, suspended, zeroAllSetpoints], by simp [ungranted, suspended, zeroAllSetpoints], wanted, urgent⟩

theorem handedOff_holdup (s : State) : handedOff .holdup s =
    if s.sul.state = .active ∨ s.sul.state = .withdrawn then produceDemand (ungranted s) else ungranted s := by
  have state : (recomputeGrant (suspended s)).sul.state = .holdup := by simp [suspended]
  have calm : ¬ ((recomputeGrant (suspended s)).sul.state = .active ∨
      (recomputeGrant (suspended s)).sul.state = .withdrawn) := by
    rw [state]
    simp
  unfold handedOff allowanceHandOff
  rw [plannerHandOff_holdup]
  dsimp only
  rw [if_neg calm]
  by_cases was : s.sul.state = .active ∨ s.sul.state = .withdrawn
  · rw [if_pos ⟨was, state⟩, if_pos was]
    rfl
  · rw [if_neg (fun h => was h.1), if_neg was]
    rfl

/-- The DEMAND of the change counts the packs and the empty slots of the moment (R58, R74). -/
theorem demandFrame_ungranted (s : State) : demandFrame (ungranted s) =
    ⟨0x40#8, .demand, 0x3F#8, demandBytes 0 0 { s with sul.state := .holdup, alw.grant := 0 }⟩ := by
  obtain ⟨-, -, slots, sul, -, -⟩ := ungranted_frame s
  have state : (ungranted s).sul.state = .holdup := by rw [sul]
  have views : (ungranted s).views = s.views := by
    rw [State.views, slots, List.map_map]
    rfl
  have vacant : ((ungranted s).slots.filter (fun sl => decide (sl.cond = .empty ∧ sl.role = .free))).length =
      (s.slots.filter (fun sl => decide (sl.cond = .empty ∧ sl.role = .free))).length := by
    rw [slots, List.filter_map, List.length_map]
    rfl
  have data := demandFrame_data (ungranted s)
  have wanted : demandWanted (ungranted s) = 0 := if_pos state
  have urgent : demandUrgent (ungranted s) = 0 := if_pos state
  have whole : (demandFrame (ungranted s)).data = demandBytes 0 0 { s with sul.state := .holdup, alw.grant := 0 } := by
    rw [data, wanted, urgent]
    simp only [demandBytes, views, vacant, sul, ungranted_alw]
    rfl
  rw [← whole]
  rfl

/-- The DEMAND with which the station leaves ACTIVE or WITHDRAWN (R58, R74). -/
def leavingFrame (s : State) : TxFrame :=
  ⟨0x40#8, .demand, 0x3F#8, demandBytes 0 0 { s with sul.state := .holdup, alw.grant := 0 }⟩

/-- The change is announced once (R74). -/
theorem handedOff_holdup_announced {s : State} (was : s.sul.state = .active ∨ s.sul.state = .withdrawn) :
    (handedOff .holdup s).alw.announced = 0 ∧ (handedOff .holdup s).alw.spacingTimer = some 250 ∧
      (handedOff .holdup s).alw.earlyPending = false ∧ (handedOff .holdup s).lif = (enqueue (leavingFrame s) s).lif ∧
      (handedOff .holdup s).counters = (enqueue (leavingFrame s) s).counters := by
  obtain ⟨lif, counters, -, sul, -, -⟩ := ungranted_frame s
  have holdup : (ungranted s).sul.state = .holdup := by rw [sul]
  rw [handedOff_holdup, if_pos was]
  refine ⟨if_pos holdup, rfl, rfl, ?_, ?_⟩
  · rw [leavingFrame, ← demandFrame_ungranted]
    exact enqueue_lif_congr lif _
  · rw [leavingFrame, ← demandFrame_ungranted]
    exact enqueue_counters_congr lif counters _

/-- From JOINING nothing is sent (R74). -/
theorem handedOff_holdup_silent {s : State} (was : ¬ (s.sul.state = .active ∨ s.sul.state = .withdrawn)) :
    (handedOff .holdup s).lif = s.lif ∧ (handedOff .holdup s).counters = s.counters := by
  rw [handedOff_holdup, if_neg was]
  exact ⟨(ungranted_frame s).1, (ungranted_frame s).2.1⟩

/-! ### What the timers lead to (R167, R182) -/

theorem exec_mainsGoodLow {s : State} (on : s.core = true)
    (state : s.sul.state = .joining ∨ s.sul.state = .active ∨ s.sul.state = .withdrawn) :
    exec .mainsGoodLow s = .next (settle (changeState .holdup { s with sul.mainsGood := false })) := by
  refine congrArg Host.Outcome.next ((if_pos on).trans ?_)
  rcases state with h | h | h <;> simp only [h]

theorem exec_mainsReturnTimerExpiry {s : State} (on : s.core = true) (holdup : s.sul.state = .holdup)
    (timer : s.sul.mainsReturnTimer.isSome = true) : exec .mainsReturnTimerExpiry s =
      .next (settle (changeState (stateAfterReturn s) { s with sul.mainsReturnTimer := none })) :=
  congrArg Host.Outcome.next (if_pos (by simp [on, holdup, timer]))

theorem exec_joiningTimerExpiry {s : State} (on : s.core = true) (joining : s.sul.state = .joining)
    (timer : s.sul.joiningTimer.isSome = true) : exec .joiningTimerExpiry s =
      .next (settle (changeState (stateByDoor s) { s with sul.joiningTimer := none })) :=
  congrArg Host.Outcome.next ((if_pos (by simp [on, timer])).trans (if_pos joining))

theorem stateByDoor_offers (s : State) : stateByDoor s = .active ∨ stateByDoor s = .withdrawn := by
  unfold stateByDoor
  split
  · exact .inr rfl
  · exact .inl rfl

theorem stateByDoor_operating (s : State) : (stateByDoor s).operating = true := by
  rcases stateByDoor_offers s with h | h <;> rw [h] <;> rfl

theorem stateAfterReturn_operating (s : State) : (stateAfterReturn s).operating = true := by
  unfold stateAfterReturn
  split
  · rfl
  · exact stateByDoor_operating s

/-- Settles O57, by the event and the station state it finds. -/
theorem mainsAndJoiningChangeTheState : Obligations.MainsAndJoiningChangeTheState := by
  intro s on byDoor leaving
  refine ⟨?low, ?lowAgain, ?high, ?highAgain, ?returned, ?joined, ?ended, ?queue⟩
  case low =>
    intro state
    let u : State := { s with sul.mainsGood := false }
    obtain ⟨-, -, slots, -, wanted, urgent⟩ := ungranted_frame u
    have entered : changeState .holdup u = handedOff .holdup u := changeState_of_other (by simp) u
    obtain ⟨-, -, seq, rhs, -⟩ := handedOff_frame .holdup u
    have frame : (handedOff .holdup u).slots = (ungranted u).slots ∧ (handedOff .holdup u).pln = (ungranted u).pln ∧
        (handedOff .holdup u).alw.grant = 0 ∧ (handedOff .holdup u).alw.demandTimer = none := by
      rw [handedOff_holdup]
      split <;> simp [produceDemand, ungranted_alw]
    obtain ⟨slots', pln', grant', timer'⟩ := frame
    rw [exec_mainsGoodLow on state]
    refine ⟨_, rfl, ?_, fun sl mem => ?_, ?_, ?_, ?_, ?_, fun left => ?_, fun joining => ?_,
      settle_changeState_pass on rfl, ?_, ?_⟩
    · rw [(settle_frame _).2.2.2.2.2.2.1, changeState_sul]
    · rw [(settle_frame _).2.2.1, entered, slots', slots] at mem
      obtain ⟨x, -, rfl⟩ := List.mem_map.1 mem
      rfl
    · rw [(settle_figures _).1, entered, pln', wanted]
    · rw [(settle_figures _).2, entered, pln', urgent]
    · rw [(settle_frame _).2.2.2.1, entered, grant']
    · rw [(settle_frame _).2.2.2.1, entered, timer']
    · have was : u.sul.state = .active ∨ u.sul.state = .withdrawn := state.resolve_left left
      rw [(settle_frame _).2.2.2.1, (settle_frame _).2.1, (settle_frame _).2.2.2.2.2.2.2.1, entered]
      obtain ⟨announced, spacing, early, lif, counters⟩ := handedOff_holdup_announced was
      exact ⟨announced, spacing, early, lif.trans (enqueue_lif_congr (s := s) (t := u) rfl leaving),
        counters.trans (enqueue_counters_congr (s := s) (t := u) rfl rfl leaving)⟩
    · have was : ¬ (u.sul.state = .active ∨ u.sul.state = .withdrawn) := by simp [u, joining]
      rw [(settle_frame _).2.1, (settle_frame _).2.2.2.2.2.2.2.1, entered]
      exact handedOff_holdup_silent was
    · rw [(settle_frame _).2.2.2.2.1, entered, seq]
    · rw [(settle_frame _).2.2.2.2.2.1, entered, rhs]
  case lowAgain =>
    intro holdup
    exact congrArg Host.Outcome.next ((if_pos on).trans (by simp only [holdup]))
  case high =>
    intro holdup still
    exact congrArg Host.Outcome.next ((if_pos on).trans (if_pos ⟨holdup, by simp [still]⟩))
  case highAgain =>
    intro other
    refine congrArg Host.Outcome.next ((if_pos on).trans (if_neg ?_))
    rintro ⟨holdup, still⟩
    rcases other with h | h
    · exact h holdup
    · simp_all
  case returned =>
    intro holdup timer
    rw [exec_mainsReturnTimerExpiry on holdup timer]
    refine ⟨_, rfl, ?_, fun idle => ?_, settle_changeState_pass on (stateAfterReturn_operating s)⟩
    · rw [(settle_frame _).2.2.2.2.2.2.1, changeState_sul]
      rfl
    · have byDoor : stateAfterReturn s = stateByDoor s := if_neg (by simp [idle])
      rw [(settle_frame _).2.2.2.1, byDoor, changeState_demandTimer (stateByDoor_offers s)]
      exact if_neg (by simp [holdup])
  case joined =>
    intro timer joining
    rw [exec_joiningTimerExpiry on joining timer]
    refine ⟨_, rfl, ?_, ?_, settle_changeState_pass on (stateByDoor_operating s)⟩
    · rw [(settle_frame _).2.2.2.2.2.2.1, changeState_sul]
      rfl
    · rw [(settle_frame _).2.2.2.1, changeState_demandTimer (stateByDoor_offers s)]
      exact if_neg (by simp [joining])
  case ended =>
    intro timer holdup
    exact congrArg Host.Outcome.next ((if_pos (by simp [on, timer])).trans (if_neg (by simp [holdup])))
  case queue =>
    intro unique idle
    refine ⟨fun holdup timer joined closed => ?_, fun joining timer closed => ?_, fun withdrawn opened sound => ?_⟩
    · have active : stateAfterReturn s = .active := by simp [stateAfterReturn, joined, stateByDoor, closed]
      rw [exec_mainsReturnTimerExpiry on holdup timer, active]
      refine ⟨_, rfl, ?_, queueLookedAt_active unique idle rfl rfl rfl rfl rfl⟩
      rw [(settle_frame _).2.2.2.2.2.2.1, changeState_sul]
    · have active : stateByDoor s = .active := by simp [stateByDoor, closed]
      rw [exec_joiningTimerExpiry on joining timer, active]
      refine ⟨_, rfl, ?_, queueLookedAt_active unique idle rfl rfl rfl rfl rfl⟩
      rw [(settle_frame _).2.2.2.2.2.2.1, changeState_sul]
    · let u : State := surveyDoorCloses { s with sul.doorOpen := false }
      obtain ⟨slots, sul, -, -, seq, -, rhs, ofe, -⟩ := surveyDoorCloses_idle (s := { s with sul.doorOpen := false }) idle
      have same : s.slots.map (Slot.doorCloses s.sul.cfg) = s.slots :=
        (List.map_congr_left (g := id) fun sl mem => doorCloses_of_other fun h => sound sl mem h.1).trans s.slots.map_id
      have leaves : u.sul.state = .withdrawn := by rw [sul]; exact withdrawn
      rw [exec_doorClose on opened, if_pos leaves]
      refine ⟨_, rfl, ?_, queueLookedAt_active unique idle ofe seq (slots.trans same) rhs (by rw [sul])⟩
      rw [(settle_frame _).2.2.2.2.2.2.1, changeState_sul]

end Sys2Proof.Machine
end

section
/-! Proof of the statement about the QUERY (O60): the bytes of each content, then the reply. -/

namespace Sys2Proof.Machine

open Sys2Proof

/-! ### Fields (12.2) -/

theorem bytes16_eq (h : Half) : bytes16 h = twoBytes h.toNat := by
  rw [← bytes16_halfOf]
  simp [halfOf]

theorem bytes32_eq (w : Word) : bytes32 w = fourBytes w.toNat := by
  have byte (i : Nat) : (w.extractLsb' i 8 : Byte) = BitVec.ofNat 8 (w.toNat / 2 ^ i) := by
    apply BitVec.eq_of_toNat_eq
    simp [BitVec.extractLsb'_toNat, Nat.shiftRight_eq_div_pow]
  have b24 : w.toNat / 65536 / 256 = w.toNat / 2 ^ 24 := by omega
  simp [bytes32, byte, fourBytes, twoBytes, b24]

theorem byteOrFF_eq (o : Option Nat) : byteOrFF o = orAllOnes o := by cases o <;> rfl

theorem boolByte_eq (b : Bool) : boolByte b = BitVec.ofNat 8 b.toNat := by cases b <;> rfl

theorem flagByte_eq (bits : List Bool) : flagByte bits = flagsByte bits := by
  simp only [flagByte, bitsNumber, List.foldl_reverse]
  rfl

/-! ### Codes (12.2) -/

theorem haltCode_eq (h : Option HaltCause) : byteOf (haltCode h) =
    orAllOnes (h.map (fun c => [HaltCause.noResponse, .badCrc, .noFittedSlot].idxOf c)) := by
  rcases h with _ | c
  · rfl
  · cases c <;> rfl

theorem lineCode_eq (c : LineCond) : byteOf c.code = codeIn [LineCond.idle, .frame, .space, .hold] c := by
  cases c <;> rfl

theorem swapStepCode_eq (o : Option SwapStep) : byteOf (swapStepCode o) = codeIn [none, some SwapStep.startingWait,
    some .returnOpen, some .returnCheck, some .rejectOut, some .releaseWait, some .releaseOpen, some .giveBack] o := by
  rcases o with _ | c
  · rfl
  · cases c <;> rfl

theorem clampCode_eq (c : ClampCause) : byteOf c.code = codeIn [ClampCause.raised, .lowered, .rounded, .ceilingRaised,
    .stepDropped, .stepAppended, .stepRemoved] c := by
  cases c <;> rfl

theorem condCode_eq (c : Cond) :
    byteOf c.code = codeIn [Cond.empty, .settling, .occupied, .unreadable, .fault] c := by
  cases c <;> rfl

theorem faultReasonCode_eq (o : Option FaultReason) : byteOf (faultReasonCode o) =
    codeIn [none, some FaultReason.packFault, some .tamper, some .unreadableTimeout, some .rejectAbandoned] o := by
  rcases o with _ | c
  · rfl
  · cases c <;> rfl

theorem roleCode_eq (r : Role) : byteOf r.code = codeIn [Role.free, .pledged, .held, .dock, .releasing] r := by
  cases r <;> rfl

theorem tierCode_eq (t : Tier) : byteOf t.code = codeIn [Tier.none, .a, .b, .c] t := by cases t <;> rfl

theorem entryCode_eq (st : EntryState) : byteOf st.code = codeIn [EntryState.heard, .evaluating, .contending, .offered,
    .held, .serving, .satOut, .beaten, .elsewhere, .unassigned, .done, .lapsed, .cancelled, .aborted] st := by
  cases st <;> rfl

theorem satOutCode_eq (o : Option SatOutCause) : byteOf (satOutCode o) =
    codeIn [none, some SatOutCause.noCandidate, some .late, some .lost] o := by
  rcases o with _ | c
  · rfl
  · cases c <;> rfl

theorem servePosCode_eq (o : Option ServePos) : byteOf (servePosCode o) =
    codeIn [none, some ServePos.active, some .queued1, some .queued2] o := by
  rcases o with _ | c
  · rfl
  · cases c <;> rfl

theorem peerCode_eq (p : PeerState) : byteOf p.code = codeIn [PeerState.absent, .present, .stale] p := by
  cases p <;> rfl

theorem live_eq (st : EntryState) : st.live =
    [EntryState.heard, .evaluating, .contending, .offered, .held, .serving].contains st := by
  cases st <;> rfl

/-! ### Contents (12.2) -/

theorem summaryMain_eq (s : State) : summaryMain s = summaryBytes s := by
  have live : s.ofe.book.countP (fun e => e.state.live) = (s.ofe.book.filter (fun e =>
      [EntryState.heard, .evaluating, .contending, .offered, .held, .serving].contains e.state)).length := by
    rw [List.countP_eq_length_filter]
    exact congrArg (fun p => (s.ofe.book.filter p).length) (funext fun e => live_eq e.state)
  simp only [summaryMain, summaryBytes, stateCode_eq, supplyFlags, flagByte_eq, haltCode_eq, lineCode_eq, bytes16_halfOf,
    swapStepCode_eq, boolByte_eq, live]
  rfl

theorem summaryMeter_eq (s : State) : summaryMeter s = meterBytes s := by
  simp only [summaryMeter, meterBytes, bytes16_halfOf, boolByte_eq, bytes32_eq]
  rfl

theorem clampContent_eq (c : Clamp) : clampContent c = clampBytes c := by
  simp only [clampContent, clampBytes, clampCode_eq, bytes16_halfOf]
  rfl

theorem slotFlags_eq (sl : Slot) : slotFlags sl = flagsByte [sl.present, sl.cut, sl.unlocked, sl.pack.isSome] |||
    BitVec.ofNat 8 (16 * (sl.pack.map (fun p => p.cls.val)).getD 0) := by
  have all : ∀ (a b c d : Bool) (k : Fin 4), flagsByte [a, b, c, d, k.val.testBit 0, k.val.testBit 1] =
      flagsByte [a, b, c, d] ||| BitVec.ofNat 8 (16 * k.val) := by decide
  rw [slotFlags, flagByte_eq]
  cases sl.pack with
  | none => exact all sl.present sl.cut sl.unlocked false 0
  | some p => exact all sl.present sl.cut sl.unlocked true p.cls

theorem packContent_eq (o : Option Pack) : packContent o =
    fourBytes ((o.map (fun p => p.id.toNat)).getD 0) ++ twoBytes ((o.map (fun p => p.soc)).getD 0) ++
      [BitVec.ofNat 8 ((o.map (fun p => p.soh)).getD 0), (o.map (fun p => BitVec.ofInt 8 p.temp)).getD 0] ++
      twoBytes ((o.map (fun p => p.cycles.toNat)).getD 0) := by
  cases o with
  | none => rfl
  | some p =>
    rw [packContent, bytes32_eq, bytes16_halfOf, bytes16_eq]
    rfl

theorem slotContent_eq (now : Word) (sl : Slot) : slotContent now sl = slotBytes now sl := by
  have age : (if sl.pack.isSome then ageOf now sl.goodAt else 0) =
      (sl.pack.map (fun _ => min 65535 (now - sl.goodAt).toNat)).getD 0 := by
    cases sl.pack <;> rfl
  cases rid : sl.rid with
  | none =>
    simp only [slotContent, slotBytes, condCode_eq, faultReasonCode_eq, slotFlags_eq, roleCode_eq, tierCode_eq, rid,
      bytes16_halfOf, packContent_eq, age, List.append_assoc, Option.map_none, Option.getD_none, ite_self]
    rfl
  | some r =>
    simp only [slotContent, slotBytes, condCode_eq, faultReasonCode_eq, slotFlags_eq, roleCode_eq, tierCode_eq, rid,
      bytes16_halfOf, packContent_eq, age, List.append_assoc, Option.map_some, Option.getD_some]
    rfl

theorem deadlineField_eq (e : Entry) : e.deadlineField.toNat = ((
    if e.state = .held ∨ e.state = .serving then e.deadline
    else if e.state = .heard ∨ e.state = .evaluating ∨ e.state = .contending ∨ e.state = .offered then none
    else e.linger).map (fun w => w.toNat) |>.getD 0) := by
  have field (o : Option Word) : (o.getD 0#32).toNat = (o.map (fun w => w.toNat)).getD 0 := by cases o <;> rfl
  cases state : e.state <;> simp [Entry.deadlineField, state, EntryState.live, field]

theorem entryContent_eq (e : Entry) : entryContent e = bookBytes e := by
  have kind : kindAndRiderByte e.kind e.rider = flagsByte [e.kind == .reservation, e.rider == .fleet] := by
    rw [kindAndRiderByte, flagByte_eq]
    cases e.kind <;> cases e.rider <;> rfl
  have returned : (e.returnedId.getD 0).toNat = (e.returnedId.map (fun w => w.toNat)).getD 0 := by
    cases e.returnedId <;> rfl
  simp only [entryContent, bookBytes, entryCode_eq, kind, satOutCode_eq, byteOrFF_eq, bytes32_eq, deadlineField_eq,
    servePosCode_eq, returned, Nat.mul_comm e.packClass.val 16]
  rfl

theorem peerContent_eq (now : Word) (p : Peer) : peerContent now p = peerBytes now p := by
  simp only [peerContent, peerBytes, peerCode_eq, bytes16_halfOf]
  rfl

/-! ### The reply (R60, R183) -/

theorem statusData_of_some {item index : Byte} {s : State} {c : List Byte} (h : replyContent item index s = some c) :
    statusData item index s = [item, index] ++ c := by simp [statusData, h]

theorem statusData_of_none {item index : Byte} {s : State} (h : replyContent item index s = none) :
    statusData item index s = [0xFF, index] := by simp [statusData, h]

/-- A QUERY is answered in its event (R183). -/
theorem receiveGood_query (source : BitVec 4) (item index : Byte) {s : State} (ends : FrameMayEnd s) (nothing : NothingDue s) :
    receiveGood (queryFrame source item index) s =
      enqueue ⟨0xC0#8, .status, byteOf source.toNat, statusData item index (toSpace s)⟩ (toSpace s) :=
  (receiveGood_plain ends (targeted_all s) (fun _ => rfl)).trans
    (settle_of_nothingDue (nothingDue_enqueue (nothingDue_toSpace nothing)))

/-- Settles O60, by item and index. -/
theorem queriesAreAnswered : Obligations.QueriesAreAnswered := by
  intro s source index runs ends nothing u replies
  have answered (item : Byte) {data : List Byte} (h : statusData item index u = data) :
      receiveGood (queryFrame source item index) s = enqueue ⟨0xC0#8, .status, byteOf source.toNat, data⟩ u := by
    rw [receiveGood_query source item index ends nothing, ← h]
    rfl
  have content (item : Byte) {c : List Byte} (h : replyContent item index u = some c) :
      receiveGood (queryFrame source item index) s =
        enqueue ⟨0xC0#8, .status, byteOf source.toNat, [item, index] ++ c⟩ u := answered item (statusData_of_some h)
  have invalid (item : Byte) (h : replyContent item index u = none) :
      receiveGood (queryFrame source item index) s = enqueue ⟨0xC0#8, .status, byteOf source.toNat, [0xFF, index]⟩ u :=
    answered item (statusData_of_none h)
  have summary : replyContent 0 index u = summaryContent index.toNat u := rfl
  have slot : replyContent 1 index u = (u.slot? index.toNat).map (slotContent u.rhs.seconds) := rfl
  have book : replyContent 2 index u = (u.ofe.book[index.toNat]?).map entryContent := rfl
  have counters : replyContent 3 index u = if index.toNat < 4 then some (pageContent index.toNat u) else none := rfl
  have peer : replyContent 4 index u = if index.toNat = s.sul.station.toNat then none
      else ((u.alw.peers[index.toNat]?).join).map (peerContent u.rhs.seconds) := rfl
  have next {c : Instr} {data : List Byte} {item : Byte}
      (run : exec c s = .next (receiveGood (queryFrame source item index) s))
      (h : receiveGood (queryFrame source item index) s = enqueue ⟨0xC0#8, .status, byteOf source.toNat, data⟩ u) :
      replies c data := run.trans (congrArg Host.Outcome.next h)
  refine ⟨fun zero => ⟨?_, ?_⟩, fun one => ⟨?_, ?_⟩, fun c low high clamp => ⟨?_, rfl⟩, fun sl place => ⟨?_, ?_⟩,
    fun e place => ⟨?_, ?_⟩, fun page => ?_, fun p other place => ⟨?_, rfl⟩, fun item unknown => ?_, fun beyond => ⟨?_, ?_⟩,
    fun beyond => ?_, fun beyond => ?_, fun own => ?_, fun beyond full => ?_, fun high none => ?_⟩
  · subst zero
    refine next rfl (content 0 ?_)
    rw [summary, ← summaryMain_eq]
    rfl
  · rfl
  · subst one
    refine next rfl (content 0 ?_)
    rw [summary, ← summaryMeter_eq]
    rfl
  · rfl
  · refine next rfl (content 0 ?_)
    have same : u.sul.clamps[index.toNat - 2]? = some c := clamp
    rw [summary, summaryContent, if_neg (by omega), if_neg (by omega), if_pos high, same, ← clampContent_eq]
    rfl
  · refine next rfl (content 1 ?_)
    have same : u.slot? index.toNat = some sl := place
    rw [slot, same, ← slotContent_eq]
    rfl
  · simp only [slotBytes]
    split
    · simp
    · cases sl.rid <;> simp [ridBytes]
  · refine next rfl (content 2 ?_)
    have same : u.ofe.book[index.toNat]? = some e := place
    rw [book, same, ← entryContent_eq]
    rfl
  · rfl
  · refine next rfl (content 3 ?_)
    rw [counters, if_pos page]
    rfl
  · refine next rfl (content 4 ?_)
    have same : u.alw.peers[index.toNat]? = some (some p) := place
    rw [peer, if_neg other, same, ← peerContent_eq]
    rfl
  · refine next rfl (invalid item ?_)
    unfold replyContent
    split
    case h_6 => rfl
    all_goals omega
  · refine next rfl (invalid 1 ?_)
    have none : u.slot? index.toNat = none := List.getElem?_eq_none_iff.2 beyond
    rw [slot, none]
    rfl
  · refine next rfl (invalid 1 ?_)
    have none : u.slot? index.toNat = none := List.getElem?_eq_none_iff.2 beyond
    rw [slot, none]
    rfl
  · refine next rfl (invalid 2 ?_)
    have none : u.ofe.book[index.toNat]? = none := List.getElem?_eq_none_iff.2 beyond
    rw [book, none]
    rfl
  · refine next rfl (invalid 3 ?_)
    rw [counters, if_neg (by omega)]
  · refine next rfl (invalid 4 ?_)
    rw [peer, if_pos own]
  · refine next rfl (invalid 4 ?_)
    have none : u.alw.peers[index.toNat]? = none := List.getElem?_eq_none_iff.2 (by
      show s.alw.peers.length ≤ index.toNat
      omega)
    rw [peer, none]
    split <;> rfl
  · refine next rfl (invalid 0 ?_)
    rw [summary, summaryContent, if_neg (by omega), if_neg (by omega)]
    rcases none with far | short
    · rw [if_neg (by omega)]
    · have none : u.sul.clamps[index.toNat - 2]? = Option.none := List.getElem?_eq_none_iff.2 short
      rw [none]
      split <;> rfl

end Sys2Proof.Machine
end

section
/-! Proofs of the statements about a start and a failed loading (O53, O54). -/

namespace Sys2Proof.Machine

open Sys2Proof

/-! ### The configuration memory's bits (R177) -/

/-- The eight bits of a byte shifted in after whole bytes are that byte (R177). -/
theorem shiftIn_msbBits (acc : List Byte) (b : Byte) : (msbBits b).foldl shiftIn (acc, []) = (acc ++ [b], []) := by
  have whole := bitsNumber_msbBits b
  have spelled : byteOf (bitsNumber (msbBits b)) = b := by rw [whole, byteOf_toNat]
  have eight := length_msbBits b
  match bits : msbBits b, eight with
  | [b7, b6, b5, b4, b3, b2, b1, b0], _ =>
    rw [bits] at spelled
    simp [shiftIn, spelled]

/-- A run of whole bytes is read back (R177). -/
theorem msbBytes_flatMap (bytes : List Byte) : msbBytes (bytes.flatMap msbBits) = bytes := by
  have run : ∀ (bytes acc : List Byte), (bytes.flatMap msbBits).foldl shiftIn (acc, []) = (acc ++ bytes, []) := by
    intro bytes
    induction bytes with
    | nil => simp
    | cons b bytes ih =>
      intro acc
      rw [List.flatMap_cons, List.foldl_append, shiftIn_msbBits, ih, List.append_assoc, List.singleton_append]
  simp [msbBytes, run]

theorem length_flatMap_msbBits (bytes : List Byte) : (bytes.flatMap msbBits).length = 8 * bytes.length := by
  induction bytes with
  | nil => rfl
  | cons b bytes ih =>
    rw [List.flatMap_cons, List.length_append, length_msbBits, ih, List.length_cons]
    omega

theorem memoryReadCommand_bits : memoryReadCommand.flatMap msbBits =
    List.replicate 6 false ++ [true, true] ++ List.replicate 16 false := by decide

/-! ### The start (O53) -/

theorem startsCold_iff {clr : Bool} {s : State} : startsCold clr s = true ↔ s.rhs.valid = false ∨ clr = true := by
  simp [startsCold]

/-- Settles O53. -/
theorem startSamplesAndSelects : Obligations.StartSamplesAndSelects := by
  refine ⟨fun straps clr s => ?_, fun bytes s isLoading selected released few => ⟨?_, ?_⟩⟩
  · refine ⟨_, rfl, rfl, rfl, rfl, rfl, startsCold_iff, rfl, rfl, rfl, rfl, fun cold => ?_, fun valid strap => ?_, rfl, rfl,
      rfl, rfl, rfl, rfl, rfl, rfl⟩
    · exact if_pos (startsCold_iff.2 cold)
    · refine if_neg fun cold => ?_
      rcases startsCold_iff.1 cold with h | h
      · simp [valid] at h
      · simp [strap] at h
  · have ready : (loading s && s.sul.selected && s.sul.cfda.isEmpty) = true := by simp [isLoading, selected, released]
    have all : (bytes.flatMap msbBits).take 528 = bytes.flatMap msbBits :=
      List.take_of_length_le (by rw [length_flatMap_msbBits]; omega)
    refine congrArg Host.Outcome.next ((if_pos ready).trans ?_)
    rw [all, msbBytes_flatMap, memoryTransfer, memoryReadCommand_bits]
  · have driven : (bytes.flatMap msbBits).map (fun b => CfdaCycle.driven (.data b)) =
        List.replicate (8 * bytes.length) none := by
      rw [← length_flatMap_msbBits, ← List.map_const']
      rfl
    simp only [List.map_append, List.map_map]
    exact congrArg₂ (· ++ ·) rfl driven

/-! ### A failed loading (O54) -/

theorem haltConfig_sul (c : HaltCause) (s : State) :
    (haltConfig c s).sul = { s.sul with halt := some c, state := .haltedConfig } := by
  rw [haltConfig_eq, changeState_sul]
  rfl

/-- HALTED_CONFIG has no grant and no demand timer (R68, R71). -/
theorem handedOff_halted_alw (s : State) :
    (handedOff .haltedConfig s).alw = { s.alw with grant := 0, demandTimer := none } := by
  let u : State := setReplan { s with sul.state := .haltedConfig }
  have planned : plannerHandOff { s with sul.state := .haltedConfig } = u := plannerHandOff_of_other (by simp)
  have outside : grantNow u = 0 := if_neg (by simp [u])
  have state : (recomputeGrant u).sul.state = .haltedConfig := by simp [u]
  have calm : ¬ ((recomputeGrant u).sul.state = .active ∨ (recomputeGrant u).sul.state = .withdrawn) := by
    rw [state]
    simp
  have silent : ¬ ((s.sul.state = .active ∨ s.sul.state = .withdrawn) ∧ (recomputeGrant u).sul.state = .holdup) := by
    rw [state]
    simp
  unfold handedOff allowanceHandOff
  rw [planned]
  dsimp only
  rw [if_neg calm, if_neg silent, recomputeGrant_alw, outside]
  rfl

/-- What a loading that fails leaves (R61, R164, R177, R181). -/
theorem haltConfig_leaves (c : HaltCause) (s : State) : (haltConfig c s).core = s.core ∧
    (haltConfig c s).slots = s.slots ∧ (haltConfig c s).lif = Lif.initial ∧ (haltConfig c s).rhs = s.rhs ∧
    (haltConfig c s).seq = s.seq ∧ (haltConfig c s).counters = s.counters ∧
    (haltConfig c s).alw = { Alw.initial with peers := initialPeers s.sul.station, grant := 0, demandTimer := none } := by
  obtain ⟨core, -, seq, rhs, -⟩ := handedOff_frame .haltedConfig (haltBase c s)
  obtain ⟨lif, counters⟩ := handedOff_line (new := .haltedConfig) (by simp) (haltBase c s)
  rw [haltConfig_eq, changeState_of_other (by simp)]
  exact ⟨core, handedOff_slots (by simp) _, lif, rhs, seq, counters, handedOff_halted_alw _⟩

/-- Settles O54, by the cause. -/
theorem failedLoadingHalts : Obligations.FailedLoadingHalts := by
  intro s isLoading empty halts
  have on : s.core = true := by
    simp only [loading, Bool.and_eq_true] at isLoading
    exact isLoading.1.1
  -- what is the same for each cause, from the state `u` with the memory deselected
  have halted {i : Instr} {c : HaltCause} {u : State} (run : exec i s = .next (haltConfig c (deselect u)))
      (same : u.core = s.core ∧ u.slots = s.slots ∧ u.rhs = s.rhs ∧ u.seq = s.seq ∧ u.counters = s.counters ∧
        u.sul.station = s.sul.station) : halts i c := by
    obtain ⟨core, slots, rhs, seq, counters, station⟩ := same
    obtain ⟨core', slots', lif', rhs', seq', counters', alw'⟩ := haltConfig_leaves c (deselect u)
    have sul' := haltConfig_sul c (deselect u)
    refine ⟨_, run, ?_, ?_, ?_, ?_, slots'.trans (slots.trans empty), ?_, ?_, ?_, ?_, lif', ?_, rhs'.trans rhs,
      seq'.trans seq, counters'.trans counters, ?_⟩
    · rw [sul']
    · rw [sul']
    · rw [sul']
      rfl
    · rw [sul']
      rfl
    · rw [alw']
      rfl
    · rw [alw']
    · rw [alw']
    · rw [alw', show (deselect u).sul.station = s.sul.station from station]
      rfl
    · have core'' : (haltConfig c (deselect u)).core = true := core'.trans (core.trans on)
      have state' : (haltConfig c (deselect u)).sul.state = .haltedConfig := by rw [sul']
      simp only [State.faultLamp, lifRuns, core'', state', reduceCtorEq, ne_eq, not_false_eq_true, decide_true,
        Bool.and_self, Bool.or_true, Bool.true_or]
    · rw [sul']
      exact station
  refine ⟨halted (congrArg Host.Outcome.next (if_pos isLoading)) ⟨rfl, rfl, rfl, rfl, rfl, rfl⟩,
    fun door hot mains whole => ⟨fun crc => ?_, fun crc empty => ?_⟩⟩
  · have fault : imageFault s.sul.image = some .badCrc := if_pos crc
    exact halted (u := { s with sul.mainsGood := mains }) (execLoadingEnd_of_fault isLoading whole fault) ⟨rfl, rfl, rfl, rfl, rfl, rfl⟩
  · have fault : imageFault s.sul.image = some .noFittedSlot := (if_neg (not_not.2 crc)).trans (if_pos empty)
    exact halted (u := { s with sul.mainsGood := mains }) (execLoadingEnd_of_fault isLoading whole fault) ⟨rfl, rfl, rfl, rfl, rfl, rfl⟩

end Sys2Proof.Machine
end


section
/-! DEFINITION. What the sequencer leaves of the survey: its walk but for the focus slot, the slots' visited marks, and
whether the first pass has been seen (9.6). -/

namespace Sys2Proof.Machine

open Sys2Proof

/-- What only SVY, and the report of the first pass, write of the survey's walk. -/
def surveyed (s : State) : Svy × List Bool × Bool :=
  ({ s.svy with focus := none }, s.slots.map (fun sl => sl.visited), s.seq.firstPassSeen)

theorem surveyed_congr {s t : State} (svy : t.svy = s.svy) (slots : t.slots = s.slots)
    (seen : t.seq.firstPassSeen = s.seq.firstPassSeen) : surveyed t = surveyed s := by
  rw [surveyed, surveyed, svy, slots, seen]

theorem visits_modify {f : Slot → Slot} (keeps : ∀ x, (f x).visited = x.visited) (n : Nat) (l : List Slot) :
    (l.modify n f).map (fun sl => sl.visited) = l.map (fun sl => sl.visited) := by
  induction l generalizing n with
  | nil => cases n <;> rfl
  | cons a l ih => cases n <;> simp [keeps, ih]

theorem surveyed_modSlot {f : Slot → Slot} (keeps : ∀ x, (f x).visited = x.visited) (n : Nat) (s : State) :
    surveyed (modSlot n f s) = surveyed s :=
  congrArg (fun l => ((surveyed s).1, l, (surveyed s).2.2)) (visits_modify keeps n s.slots)

/-! ### The writes of the blocks -/

@[simp] theorem surveyed_setReplan (s : State) : surveyed (setReplan s) = surveyed s := rfl

@[simp] theorem surveyed_setRole (n : Nat) (r : Role) (rid : Option ReqId) (s : State) :
    surveyed (setRole n r rid s) = surveyed s := by
  refine (surveyed_setReplan _).trans (surveyed_modSlot (fun x => ?_) n s)
  dsimp only
  split <;> rfl

@[simp] theorem surveyed_freeRole (n : Nat) (r : Role) (rid : ReqId) (s : State) :
    surveyed (freeRole n r rid s) = surveyed s := by
  unfold freeRole
  repeat' split
  all_goals simp

@[simp] theorem surveyed_setLatch (n : Nat) (b : Bool) (s : State) : surveyed (setLatch n b s) = surveyed s :=
  surveyed_modSlot (by exact fun _ => rfl) n s

@[simp] theorem surveyed_setFocus (f : Option Nat) (s : State) : surveyed (setFocus f s) = surveyed s := rfl

@[simp] theorem surveyed_startTimer (t : StepTimer) (ms : Nat) (s : State) :
    surveyed (startTimer t ms s) = surveyed s := rfl

@[simp] theorem surveyed_modSwap (f : Swap → Swap) (s : State) : surveyed (modSwap f s) = surveyed s := rfl

@[simp] theorem surveyed_modEntry (rid : ReqId) (f : Entry → Entry) (s : State) :
    surveyed (modEntry rid f s) = surveyed s := rfl

@[simp] theorem surveyed_removeRecord (rid : ReqId) (s : State) : surveyed (removeRecord rid s) = surveyed s := rfl

@[simp] theorem surveyed_renumberQueue (s : State) : surveyed (renumberQueue s) = surveyed s := rfl

@[simp] theorem surveyed_clearSwap (s : State) : surveyed (clearSwap s) = surveyed s := rfl

@[simp] theorem surveyed_writeProgress (s : State) : surveyed (writeProgress s) = surveyed s := by
  apply surveyed_congr <;> simp

@[simp] theorem surveyed_syncRecord (rid : ReqId) (s : State) : surveyed (syncRecord rid s) = surveyed s := by
  apply surveyed_congr <;> simp

@[simp] theorem surveyed_decline (rid : ReqId) (r : DeclineReason) (s : State) :
    surveyed (decline rid r s) = surveyed s := by
  apply surveyed_congr <;> simp

@[simp] theorem surveyed_close (rid : ReqId) (o : Outcome) (a : Option AbortReason) (x y : Option Word) (s : State) :
    surveyed (close rid o a x y s) = surveyed s := by
  apply surveyed_congr <;> simp

@[simp] theorem surveyed_holdAgain (rid : ReqId) (s : State) : surveyed (holdAgain rid s) = surveyed s := by
  apply surveyed_congr <;> simp

@[simp] theorem surveyed_endServing (rid : ReqId) (after : EntryAfter) (s : State) :
    surveyed (endServing rid after s) = surveyed s := by
  apply surveyed_congr <;> simp

/-! ### The sequencer -/

@[simp] theorem surveyed_openReturnAt (d : Nat) (s : State) : surveyed (openReturnAt d s) = surveyed s := by
  unfold openReturnAt
  simp

@[simp] theorem surveyed_handBack (rid : ReqId) (s : State) : surveyed (handBack rid s) = surveyed s := by
  unfold handBack
  rw [surveyed_decline, surveyed_holdAgain]
  rfl

@[simp] theorem surveyed_openReturn (rid : ReqId) (s : State) : surveyed (openReturn rid s) = surveyed s := by
  unfold openReturn
  repeat' split
  all_goals simp

@[simp] theorem surveyed_startSwap (rid : ReqId) (s : State) : surveyed (startSwap rid s) = surveyed s := by
  unfold startSwap
  dsimp only
  split
  · rw [surveyed_openReturn]
    rfl
  · rfl

@[simp] theorem surveyed_runQueue (n : Nat) (s : State) : surveyed (runQueue n s) = surveyed s := by
  induction n generalizing s with
  | zero => rfl
  | succ n ih =>
    unfold runQueue
    split
    · rfl
    · split
      · rw [ih, surveyed_startSwap, surveyed_renumberQueue]
        rfl
      · rfl

@[simp] theorem surveyed_lookAtQueue (s : State) : surveyed (lookAtQueue s) = surveyed s := surveyed_runQueue _ s

@[simp] theorem surveyed_endSwap (o : Outcome) (a : Option AbortReason) (after : EntryAfter) (w : Swap) (s : State) :
    surveyed (endSwap o a after w s) = surveyed s := by
  unfold endSwap
  simp

@[simp] theorem surveyed_closeDock (w : Swap) (s : State) : surveyed (closeDock w s) = surveyed s := by
  unfold closeDock
  repeat' split
  all_goals simp

@[simp] theorem surveyed_freeRelease (w : Swap) (s : State) : surveyed (freeRelease w s) = surveyed s := by
  unfold freeRelease
  simp

@[simp] theorem surveyed_openRelease (n : Nat) (w : Swap) (s : State) : surveyed (openRelease n w s) = surveyed s := by
  unfold openRelease
  simp

@[simp] theorem surveyed_endGiveBack (r : AbortReason) (w : Swap) (s : State) :
    surveyed (endGiveBack r w s) = surveyed s := by
  unfold endGiveBack
  simp

@[simp] theorem surveyed_openGiveBack (d : Nat) (r : AbortReason) (w : Swap) (s : State) :
    surveyed (openGiveBack d r w s) = surveyed s := by
  unfold openGiveBack
  simp

@[simp] theorem surveyed_giveBack (r : AbortReason) (w : Swap) (s : State) :
    surveyed (giveBack r w s) = surveyed s := by
  unfold giveBack
  repeat' split
  all_goals simp

@[simp] theorem surveyed_substitute (w : Swap) (e : Entry) (s : State) : surveyed (substitute w e s) = surveyed s := by
  unfold substitute
  repeat' split
  all_goals simp

@[simp] theorem surveyed_openWait (e : Entry) (s : State) : surveyed (openWait e s) = surveyed s := by
  unfold openWait
  simp

@[simp] theorem surveyed_releaseReady (w : Swap) (s : State) : surveyed (releaseReady w s) = surveyed s := by
  unfold releaseReady
  repeat' split
  all_goals simp

@[simp] theorem surveyed_judgeWaiting (w : Swap) (s : State) : surveyed (judgeWaiting w s) = surveyed s := by
  unfold judgeWaiting
  repeat' split
  all_goals simp

@[simp] theorem surveyed_rejudge (n : Nat) (s : State) : surveyed (rejudge n s) = surveyed s := by
  unfold rejudge
  repeat' split
  all_goals simp

@[simp] theorem surveyed_openCheck (s : State) : surveyed (openCheck s) = surveyed s := by
  unfold openCheck
  simp

@[simp] theorem surveyed_openReject (d : Nat) (s : State) : surveyed (openReject d s) = surveyed s := by
  unfold openReject
  simp

@[simp] theorem surveyed_endReject (w : Swap) (s : State) : surveyed (endReject w s) = surveyed s := by
  unfold endReject
  rw [surveyed_endSwap, surveyed_closeDock]
  rfl

@[simp] theorem surveyed_acceptReturn (p : Pack) (w : Swap) (s : State) :
    surveyed (acceptReturn p w s) = surveyed s := by
  unfold acceptReturn
  rw [surveyed_releaseReady, surveyed_modEntry, surveyed_setFocus, surveyed_closeDock]
  rfl

@[simp] theorem surveyed_judgeReturn (c : Cond) (p : Option Pack) (d : Nat) (w : Swap) (s : State) :
    surveyed (judgeReturn c p d w s) = surveyed s := by
  unfold judgeReturn
  repeat' split
  all_goals simp

theorem surveyed_stopTimer (s : State) : surveyed { s with seq.timer := none } = surveyed s := rfl

@[simp] theorem surveyed_takeReport (n : Nat) (r : Report) (s : State) : surveyed (takeReport n r s) = surveyed s := by
  unfold takeReport
  repeat' split
  all_goals simp [surveyed_stopTimer]

@[simp] theorem surveyed_handReport (n : Nat) (r : Option Report) (s : State) :
    surveyed (handReport n r s) = surveyed s := by
  unfold handReport
  split
  · exact surveyed_takeReport _ _ _
  · rfl

@[simp] theorem surveyed_settleExchange (n : Nat) (v : Visit) (s : State) :
    surveyed (settleExchange n v s) = surveyed s := by
  unfold settleExchange
  split
  · rw [surveyed_takeReport]
    exact surveyed_modSlot (by exact fun _ => rfl) n s
  · rfl

/-! ### The resumption, and the first pass -/

@[simp] theorem surveyed_resumeReturn (d : Nat) (w : Swap) (s : State) :
    surveyed (resumeReturn d w s) = surveyed s := by
  unfold resumeReturn
  repeat' split
  all_goals simp

@[simp] theorem surveyed_resumeSwap (p : ProgressStep) (w : Swap) (s : State) :
    surveyed (resumeSwap p w s) = surveyed s := by
  unfold resumeSwap
  dsimp only
  repeat' split
  all_goals simp

theorem surveyed_takeFirstPass (s : State) :
    surveyed (takeFirstPass s) = surveyed { s with seq.firstPassSeen := true } := by
  unfold takeFirstPass
  repeat' split
  all_goals simp

end Sys2Proof.Machine
end


section
/-! DEFINITION. How the active swap moves on in a survey step: a report, a judgement of the release slot or the report of the
first pass leaves it as it is, or takes it to another step, from which none of the step's later reports brings it back. -/

namespace Sys2Proof.Machine

open Sys2Proof

/-- The active swap, where there is one, stands in one of these steps, or has just been started from the serve queue. -/
def MovedOn (steps : List SwapStep) (s : State) : Prop :=
  ∀ y, s.seq.active = some y → y.step ∈ steps ∨ y.step = .returnOpen ∨
    (y.step = .startingWait ∧ y.resume = none ∧ s.seq.firstPassSeen = false)

theorem movedOn_of_idle {l : List SwapStep} {s : State} (idle : s.seq.active = none) : MovedOn l s := by
  intro y h
  rw [idle] at h
  cases h

theorem MovedOn.mono {l m : List SwapStep} {s : State} (h : MovedOn l s) (sub : l ⊆ m) : MovedOn m s :=
  fun y hy => (h y hy).imp_left (fun k => sub k)

theorem movedOn_congr {l : List SwapStep} {s t : State} (seq : t.seq = s.seq) (h : MovedOn l s) : MovedOn l t := by
  intro y hy
  rw [seq] at hy ⊢
  exact h y hy

/-- A swap just taken to one step. -/
theorem movedOn_modSwap {f : Swap → Swap} {st : SwapStep} (step : ∀ x, (f x).step = st) (s : State) :
    MovedOn [st] (writeProgress (modSwap f s)) := by
  refine movedOn_congr (s := modSwap f s) (by simp) (fun y h => .inl ?_)
  obtain ⟨x, -, rfl⟩ := Option.map_eq_some_iff.1 (show s.seq.active.map f = some y from h)
  simp [step]

/-! ### The serve queue and the endings -/

theorem movedOn_openReturn (rid : ReqId) (s : State) : MovedOn [.returnOpen] (openReturn rid s) := by
  unfold openReturn
  split
  · exact movedOn_modSwap (by exact fun _ => rfl) _
  · refine movedOn_of_idle ?_
    unfold handBack
    simp

theorem movedOn_startSwap (rid : ReqId) (s : State) : MovedOn [] (startSwap rid s) := by
  unfold startSwap
  dsimp only
  split
  · exact fun y hy => .inr ((movedOn_openReturn _ _ y hy).elim (fun h => .inl (List.mem_singleton.1 h)) id)
  · next early =>
    intro y hy
    cases hy
    exact .inr (.inr ⟨rfl, rfl, by simpa using early⟩)

theorem movedOn_runQueue (n : Nat) {s : State} (h : MovedOn [] s) : MovedOn [] (runQueue n s) := by
  induction n generalizing s with
  | zero => exact h
  | succ n ih =>
    unfold runQueue
    split
    · exact h
    · split
      · exact ih (movedOn_startSwap _ _)
      · exact h

theorem movedOn_lookAtQueue {s : State} (h : MovedOn [] s) : MovedOn [] (lookAtQueue s) := movedOn_runQueue _ h

theorem movedOn_endSwap (o : Outcome) (a : Option AbortReason) (after : EntryAfter) (w : Swap) (s : State) :
    MovedOn [] (endSwap o a after w s) := movedOn_lookAtQueue (movedOn_of_idle rfl)

/-! ### The release -/

theorem movedOn_openRelease (n : Nat) (w : Swap) (s : State) : MovedOn [.releaseOpen] (openRelease n w s) :=
  movedOn_modSwap (by exact fun _ => rfl) _

theorem movedOn_giveBack (r : AbortReason) (w : Swap) (s : State) : MovedOn [.giveBack] (giveBack r w s) := by
  have ended (u : State) : MovedOn [.giveBack] (endGiveBack r w u) := (movedOn_endSwap _ _ _ _ _).mono (by simp)
  unfold giveBack
  repeat' split
  · exact movedOn_modSwap (by exact fun _ => rfl) _
  all_goals exact ended _

theorem movedOn_substitute (w : Swap) (e : Entry) (s : State) :
    MovedOn [.releaseOpen, .giveBack] (substitute w e s) := by
  unfold substitute
  split
  · exact (movedOn_openRelease _ _ _).mono (by simp)
  · exact (movedOn_giveBack _ _ _).mono (by simp)

/-- The release slot judged: the swap goes on, or its request is not in the book. -/
theorem movedOn_releaseReady (w : Swap) (s : State) :
    (s.entry? w.rid = none ∧ releaseReady w s = s) ∨
    MovedOn [.releaseOpen, .releaseWait, .giveBack] (releaseReady w s) := by
  unfold releaseReady
  cases entry : s.entry? w.rid with
  | none => exact .inl ⟨rfl, rfl⟩
  | some e =>
    refine .inr ?_
    cases s.slot? w.release with
    | none => exact (movedOn_substitute w e s).mono (by simp)
    | some sl =>
      dsimp only
      repeat' split
      · exact (movedOn_openRelease _ _ _).mono (by simp)
      · exact movedOn_congr (setReplan_seq _) ((movedOn_modSwap (st := .releaseWait) (by exact fun _ => rfl) _).mono (by simp))
      · exact (movedOn_giveBack _ _ _).mono (by simp)
      · exact (movedOn_substitute w e s).mono (by simp)

theorem movedOn_judgeWaiting (w : Swap) (s : State) :
    judgeWaiting w s = s ∨ MovedOn [.releaseOpen, .giveBack] (judgeWaiting w s) := by
  unfold judgeWaiting
  repeat' split
  · exact .inr ((movedOn_openRelease _ _ _).mono (by simp))
  · exact .inl rfl
  · exact .inr (movedOn_substitute _ _ _)
  · exact .inl rfl

/-! ### The return (R149, R150) -/

theorem movedOn_acceptReturn {p : Pack} {w : Swap} {s : State} (entry : (s.entry? w.rid).isSome = true) :
    MovedOn [.releaseOpen, .releaseWait, .giveBack] (acceptReturn p w s) := by
  unfold acceptReturn
  dsimp only
  refine (movedOn_releaseReady _ _).resolve_left (fun h => ?_)
  have gone := h.1
  dsimp only at gone
  rw [entry?_modEntry_same (by exact fun _ => rfl), Option.map_eq_none_iff,
    entry?_congr (s := s) (by simp)] at gone
  simp [gone] at entry

theorem movedOn_judgeReturn (c : Cond) (p : Option Pack) (d : Nat) (w : Swap) (s : State) :
    MovedOn [.rejectOut, .releaseOpen, .releaseWait, .giveBack] (judgeReturn c p d w s) := by
  have rejected : MovedOn [.rejectOut, .releaseOpen, .releaseWait, .giveBack] (openReject d s) :=
    (movedOn_modSwap (st := .rejectOut) (by exact fun _ => rfl) _).mono (by simp)
  unfold judgeReturn
  split
  · next e q entry =>
    split
    · exact (movedOn_acceptReturn (Option.isSome_of_eq_some entry)).mono (by simp)
    · exact rejected
  · exact rejected

/-! ### The reports (R17, R143, R155) -/

/-- The steps a report may take a swap to that stands in this step; an ending leaves none. -/
def stepsAfter : SwapStep → List SwapStep
  | .returnOpen => [.returnCheck]
  | .returnCheck => [.rejectOut, .releaseOpen, .releaseWait, .giveBack]
  | .releaseWait => [.releaseOpen, .giveBack]
  | .startingWait | .rejectOut | .releaseOpen | .giveBack => []

theorem movedOn_takeReport {n : Nat} {r : Report} {w : Swap} {s : State} (active : s.seq.active = some w) :
    takeReport n r s = s ∨ (MovedOn (stepsAfter w.step) (takeReport n r s) ∧ w.step ≠ .startingWait ∧
      (w.step = .returnOpen → ∀ y, (takeReport n r s).seq.active = some y → y.step = .returnCheck) ∧
      (w.step = .returnOpen → r.kind = .settling) ∧ (w.step = .returnCheck → r.kind = .insertion)) := by
  unfold takeReport
  rw [active]
  dsimp only
  cases step : w.step with
  | startingWait => exact .inl rfl
  | returnOpen =>
    dsimp only
    split
    · next h =>
      have checked : MovedOn [.returnCheck] (openCheck s) := movedOn_modSwap (by exact fun _ => rfl) _
      refine .inr ⟨checked, nofun, fun _ y hy => ?_, fun _ => h.2, nofun⟩
      have step : (modSwap (fun x => { x with step := .returnCheck, resume := none })
        (startTimer .check 10000 s)).seq.active = some y := by simpa [openCheck] using hy
      obtain ⟨x, -, rfl⟩ := Option.map_eq_some_iff.1 step
      rfl
    · exact .inl rfl
  | returnCheck =>
    dsimp only
    split
    · next h => exact .inr ⟨movedOn_judgeReturn _ _ _ _ _, nofun, nofun, nofun, fun _ => h.2⟩
    · exact .inl rfl
  | rejectOut =>
    dsimp only
    split
    · exact .inr ⟨movedOn_endSwap _ _ _ _ _, nofun, nofun, nofun, nofun⟩
    · exact .inl rfl
  | releaseWait =>
    dsimp only
    split
    · exact (movedOn_judgeWaiting w s).imp_right (fun h => ⟨h, nofun, nofun, nofun, nofun⟩)
    · exact .inl rfl
  | releaseOpen =>
    dsimp only
    split
    · exact .inr ⟨movedOn_endSwap _ _ _ _ _, nofun, nofun, nofun, nofun⟩
    · exact .inl rfl
  | giveBack =>
    dsimp only
    split
    · exact .inr ⟨movedOn_endSwap _ _ _ _ _, nofun, nofun, nofun, nofun⟩
    · exact .inl rfl

theorem takeReport_of_none {n : Nat} {r : Report} {s : State} (idle : s.seq.active = none) : takeReport n r s = s := by
  unfold takeReport
  rw [idle]

theorem rejudge_of_not_waiting {n : Nat} {s : State} (rests : ∀ w, s.seq.active = some w → w.step ≠ .releaseWait) :
    rejudge n s = s := by
  unfold rejudge
  cases active : s.seq.active with
  | none => rfl
  | some w => exact if_neg (fun h => rests w active h.1)

theorem rejudge_cases {n : Nat} {w : Swap} {s : State} (active : s.seq.active = some w) :
    rejudge n s = s ∨ (MovedOn [.releaseOpen, .giveBack] (rejudge n s) ∧ w.step = .releaseWait) := by
  unfold rejudge
  rw [active]
  dsimp only
  split
  · next h => exact (movedOn_judgeWaiting w s).imp_right (fun k => ⟨k, h.1⟩)
  · exact .inl rfl

/-- A settling report takes a swap further only to RETURN_CHECK, where none waits for a release. -/
theorem MovedOn.settling {l : List SwapStep} {n : Nat} {r : Report} {s : State} (h : MovedOn l s)
    (kind : r.kind = .settling) (none : SwapStep.releaseWait ∉ l) : MovedOn (.returnCheck :: l) (takeReport n r s) := by
  cases active : s.seq.active with
  | none => exact (takeReport_of_none active).symm ▸ movedOn_of_idle active
  | some w =>
    rcases movedOn_takeReport (n := n) (r := r) active with same | ⟨moved, -, -, -, insertion⟩
    · exact same.symm ▸ h.mono (List.subset_cons_self _ _)
    · refine moved.mono (fun x hx => ?_)
      cases step : w.step with
      | startingWait => simp [stepsAfter, step] at hx
      | returnOpen => simp_all [stepsAfter]
      | returnCheck => cases kind.symm.trans (insertion step)
      | rejectOut => simp [stepsAfter, step] at hx
      | releaseWait =>
        rcases h w active with k | k | k
        · exact absurd (step ▸ k) none
        · cases step.symm.trans k
        · cases step.symm.trans k.1
      | releaseOpen => simp [stepsAfter, step] at hx
      | giveBack => simp [stepsAfter, step] at hx

theorem MovedOn.rejudge {l : List SwapStep} {n : Nat} {s : State} (h : MovedOn l s) (allowed : SwapStep.releaseWait ∈ l →
    SwapStep.releaseOpen ∈ l ∧ SwapStep.giveBack ∈ l) : MovedOn l (rejudge n s) := by
  cases active : s.seq.active with
  | none => exact (rejudge_of_not_waiting (fun w k => by rw [active] at k; cases k)).symm ▸ h
  | some w =>
    rcases rejudge_cases (n := n) active with same | ⟨moved, step⟩
    · exact same.symm ▸ h
    · have waits : SwapStep.releaseWait ∈ l := by
        rcases h w active with k | k | k
        · exact step ▸ k
        · cases step.symm.trans k
        · cases step.symm.trans k.1
      exact moved.mono (by simp [allowed waits])

end Sys2Proof.Machine
end


section
/-! PROOF. What a survey step leaves of the active swap and of the focus slot (R8, R17, 9.6). -/

namespace Sys2Proof.Machine

open Sys2Proof

/-! ### No swap watches the slot -/

/-- No active swap watches slot `n`. -/
def Unwatched (n : Nat) (s : State) : Prop :=
  ∀ w, s.seq.active = some w → w.step ≠ .startingWait ∧ w.release ≠ n ∧ w.dock ≠ some n

theorem unwatched_congr {n : Nat} {s t : State} (h : Unwatched n s) (active : t.seq.active = s.seq.active) :
    Unwatched n t := by
  intro w hw
  exact h w (active ▸ hw)

theorem takeReport_of_unwatched {n : Nat} {r : Report} {s : State} (h : Unwatched n s) : takeReport n r s = s := by
  unfold takeReport
  cases active : s.seq.active with
  | none => rfl
  | some w =>
    obtain ⟨-, release, dock⟩ := h w active
    dsimp only
    cases w.step <;> simp [release, dock]

theorem rejudge_of_unwatched {n : Nat} {s : State} (h : Unwatched n s) : rejudge n s = s := by
  unfold rejudge
  cases active : s.seq.active with
  | none => rfl
  | some w => exact if_neg (fun k => (h w active).2.1 k.2)

theorem takeFirstPass_of_started {s : State} (h : ∀ w, s.seq.active = some w → w.step ≠ .startingWait) :
    takeFirstPass s = { s with seq.firstPassSeen := true } := by
  unfold takeFirstPass
  cases active : s.seq.active with
  | none => rfl
  | some w => exact if_neg (h w active)

/-! ### The outcome of a step -/

/-- The visit's record is written and its outcome counted (R5, R6, R12). -/
def afterVisit (st : SurveyStep) (seen : Bool) (levels : List Bool) (hot : Bool) (sl : Slot) (s : State) : State :=
  countUnreadable (visit s.sul.cfg s.sul.doorOpen s.rhs.seconds seen hot (stepOutcome st seen levels) sl)
    (countOutcome (stepOutcome st seen levels) (modSlot st.slot (fun _ =>
      (visit s.sul.cfg s.sul.doorOpen s.rhs.seconds seen hot (stepOutcome st seen levels) sl).slot) s))

theorem applyStep_eq {st : SurveyStep} {seen : Bool} {levels : List Bool} {hot : Bool} {sl : Slot} {s : State}
    (slot : s.slots[st.slot]? = some sl) :
    applyStep st seen levels hot s =
      let v := visit s.sul.cfg s.sul.doorOpen s.rhs.seconds seen hot (stepOutcome st seen levels) sl
      setReplan (rejudge st.slot (settleExchange st.slot v (handReport st.slot v.report
        (afterVisit st seen levels hot sl s)))) := by
  unfold applyStep
  rw [show s.slot? st.slot = some sl from slot]
  rfl

@[simp] theorem afterVisit_frame (st : SurveyStep) (seen : Bool) (levels : List Bool) (hot : Bool) (sl : Slot) (s : State) :
    (afterVisit st seen levels hot sl s).core = s.core ∧ (afterVisit st seen levels hot sl s).lif = s.lif ∧
    (afterVisit st seen levels hot sl s).svy = s.svy ∧ (afterVisit st seen levels hot sl s).alw = s.alw ∧
    (afterVisit st seen levels hot sl s).pln = s.pln ∧ (afterVisit st seen levels hot sl s).ofe = s.ofe ∧
    (afterVisit st seen levels hot sl s).seq = s.seq ∧ (afterVisit st seen levels hot sl s).rhs = s.rhs ∧
    (afterVisit st seen levels hot sl s).sul = s.sul ∧ (afterVisit st seen levels hot sl s).slots =
      s.slots.modify st.slot (fun _ =>
        (visit s.sul.cfg s.sul.doorOpen s.rhs.seconds seen hot (stepOutcome st seen levels) sl).slot) := by
  unfold afterVisit
  simp
  rfl

theorem visit_visited (cfg : Cfg) (d : Bool) (now : Word) (seen hot : Bool) (o : ReadOutcome) (sl : Slot) :
    (visit cfg d now seen hot o sl).slot.visited = sl.visited := by
  have kept : (visited d now seen o sl).slot.visited = sl.visited := by
    have h := visited_kept d now seen o sl
    simp only [Slot.kept, Prod.mk.injEq] at h
    exact h.2.2.2.2.2.2.2
  rw [visit_slot, ← kept]
  unfold Slot.afterSurvey Slot.cooled
  repeat' split
  all_goals rfl

theorem surveyed_afterVisit {st : SurveyStep} {seen : Bool} {levels : List Bool} {hot : Bool} {sl : Slot} {s : State}
    (slot : s.slots[st.slot]? = some sl) : surveyed (afterVisit st seen levels hot sl s) = surveyed s := by
  obtain ⟨-, -, svy, -, -, -, seq, -, -, slots⟩ := afterVisit_frame st seen levels hot sl s
  have visits : (afterVisit st seen levels hot sl s).slots.map (fun x => x.visited) = s.slots.map (fun x => x.visited) := by
    rw [slots]
    apply List.ext_getElem?
    intro m
    by_cases h : st.slot = m
    · subst h
      simp [slot, visit_visited]
    · simp [h]
  rw [surveyed, surveyed, svy, seq, visits]

theorem surveyed_applyStep {st : SurveyStep} {seen : Bool} {levels : List Bool} {hot : Bool} {sl : Slot} {s : State}
    (slot : s.slots[st.slot]? = some sl) : surveyed (applyStep st seen levels hot s) = surveyed s := by
  rw [applyStep_eq slot]
  simp [surveyed_afterVisit slot]

/-- Only a removal takes the slot on to SETTLING in the same event (R13). -/
theorem report_of_exchanged {d : Bool} {now : Word} {seen : Bool} {o : ReadOutcome} {sl : Slot}
    (h : (visited d now seen o sl).exchanged = true) :
    (visited d now seen o sl).report = some ⟨.removal, .empty, none, none⟩ := by
  revert h
  simp only [visited, visitSeen, visitSettling, visitOccupied, visitAbsent, takePack, confirmRemoval]
  repeat' split
  all_goals simp

/-- The record of a slot that goes on to SETTLING after an exchange (R13). -/
def Slot.resettled (sl : Slot) : Slot := { sl with cond := .settling, presentCount := 1, absentCount := 0, present := true }

/-- SEQ takes no report of this slot and judges nothing on it. -/
def DeafTo (n : Nat) (s : State) : Prop := (∀ r, takeReport n r s = s) ∧ rejudge n s = s

theorem deafTo_of_unwatched {n : Nat} {s : State} (h : Unwatched n s) : DeafTo n s :=
  ⟨fun _ => takeReport_of_unwatched h, rejudge_of_unwatched h⟩

/-- A step on a slot whose reports SEQ does not take. -/
theorem applyStep_of_deaf {st : SurveyStep} {seen : Bool} {levels : List Bool} {hot : Bool} {sl : Slot} {s : State}
    (slot : s.slots[st.slot]? = some sl) (deaf : ∀ u : State, u.seq.active = s.seq.active → DeafTo st.slot u) :
    applyStep st seen levels hot s =
      let v := visit s.sul.cfg s.sul.doorOpen s.rhs.seconds seen hot (stepOutcome st seen levels) sl
      setReplan (if v.exchanged then modSlot st.slot Slot.resettled (afterVisit st seen levels hot sl s)
        else afterVisit st seen levels hot sl s) := by
  rw [applyStep_eq slot]
  dsimp only
  have handed (r : Option Report) : handReport st.slot r (afterVisit st seen levels hot sl s) =
      afterVisit st seen levels hot sl s := by
    cases r with
    | none => rfl
    | some r => exact (deaf _ (by simp)).1 r
  rw [handed]
  unfold settleExchange
  split
  · rw [(deaf _ (by simp)).1, (deaf _ (by simp)).2]
    rfl
  · rw [(deaf _ (by simp)).2]

theorem applyStep_unwatched {st : SurveyStep} {seen : Bool} {levels : List Bool} {hot : Bool} {sl : Slot} {s : State}
    (slot : s.slots[st.slot]? = some sl) (h : Unwatched st.slot s) :
    applyStep st seen levels hot s =
      let v := visit s.sul.cfg s.sul.doorOpen s.rhs.seconds seen hot (stepOutcome st seen levels) sl
      setReplan (if v.exchanged then modSlot st.slot Slot.resettled (afterVisit st seen levels hot sl s)
        else afterVisit st seen levels hot sl s) :=
  applyStep_of_deaf slot fun _ active => deafTo_of_unwatched (unwatched_congr h active)

/-! ### The swap left -/

/-- The steps in which a survey step may leave SEQ once it has taken the swap out of this step. -/
def aheadOf : SwapStep → List SwapStep
  | .returnCheck => [.rejectOut, .releaseOpen, .releaseWait, .giveBack]
  | .releaseWait => [.returnCheck, .releaseOpen, .giveBack]
  | .startingWait | .returnOpen | .rejectOut | .releaseOpen | .giveBack => [.returnCheck]

/-- The active swap `w` has been left, and no later report of the same event brings it back. -/
def Left (w : Swap) (u : State) : Prop :=
  (w.step = .startingWait → ∀ y, u.seq.active = some y → y.step ≠ .startingWait) ∧
  (w.step = .returnOpen → ∀ y, u.seq.active = some y → y.step = .returnCheck) ∧
  (w.step ≠ .startingWait → w.step ≠ .returnOpen → MovedOn (aheadOf w.step) u)

theorem Left.active_ne {w : Swap} {u : State} (h : Left w u) : u.seq.active ≠ some w := by
  intro active
  obtain ⟨waiting, opened, moved⟩ := h
  by_cases a : w.step = .startingWait
  · exact waiting a w active a
  · by_cases b : w.step = .returnOpen
    · cases b.symm.trans (opened b w active)
    · rcases moved a b w active with k | k | k
      · cases step : w.step <;> simp_all [aheadOf]
      · exact b k
      · exact a k.1

theorem stepsAfter_subset {a : SwapStep} (started : a ≠ .startingWait) : stepsAfter a ⊆ aheadOf a := by
  cases a <;> simp_all [stepsAfter, aheadOf]

theorem left_takeReport {n : Nat} {r : Report} {w : Swap} {u : State} (active : u.seq.active = some w) :
    takeReport n r u = u ∨ (Left w (takeReport n r u) ∧ w.step ≠ .startingWait ∧
      (w.step = .returnCheck → r.kind = .insertion)) := by
  refine (movedOn_takeReport active).imp_right ?_
  rintro ⟨moved, started, checked, -, insertion⟩
  exact ⟨⟨fun h => absurd h started, checked, fun h _ => moved.mono (stepsAfter_subset h)⟩, started, insertion⟩

theorem left_rejudge {n : Nat} {w : Swap} {u : State} (active : u.seq.active = some w) :
    rejudge n u = u ∨ (Left w (rejudge n u) ∧ w.step ≠ .startingWait) := by
  refine (rejudge_cases active).imp_right ?_
  rintro ⟨moved, step⟩
  refine ⟨⟨fun h => ?_, fun h => ?_, fun _ _ => moved.mono (by simp [step, aheadOf])⟩, by simp [step]⟩
  · cases step.symm.trans h
  · cases step.symm.trans h

theorem takeReport_of_step {n : Nat} {r : Report} {u : State}
    (rests : ∀ y, u.seq.active = some y → y.step = .returnCheck) (kind : r.kind = .settling) : takeReport n r u = u := by
  cases active : u.seq.active with
  | none => exact takeReport_of_none active
  | some y =>
    refine (movedOn_takeReport active).elim id ?_
    rintro ⟨-, -, -, -, insertion⟩
    cases kind.symm.trans (insertion (rests y active))

theorem Left.settling {n : Nat} {r : Report} {w : Swap} {u : State} (h : Left w u) (kind : r.kind = .settling)
    (waits : w.step ≠ .startingWait) (check : w.step ≠ .returnCheck) : Left w (takeReport n r u) := by
  obtain ⟨-, opened, moved⟩ := h
  refine ⟨fun k => absurd k waits, fun k => ?_, fun a b => ?_⟩
  · rw [takeReport_of_step (opened k) kind]
    exact opened k
  · refine ((moved a b).settling kind ?_).mono ?_
    · cases step : w.step <;> simp_all [aheadOf]
    · cases step : w.step <;> simp_all [aheadOf]

theorem Left.rejudge {n : Nat} {w : Swap} {u : State} (h : Left w u) (waits : w.step ≠ .startingWait) :
    Left w (rejudge n u) := by
  obtain ⟨-, opened, moved⟩ := h
  refine ⟨fun k => absurd k waits, fun k => ?_, fun a b => ?_⟩
  · rw [rejudge_of_not_waiting (fun y hy hk => by cases (opened k y hy).symm.trans hk)]
    exact opened k
  · refine (moved a b).rejudge ?_
    cases step : w.step <;> simp [aheadOf]

end Sys2Proof.Machine
end


section
/-! PROOF. How the survey goes on after a step (O48): the step that begins next, the pass and its gap, and the focus slot
(R3, R4, R7, R8). -/

namespace Sys2Proof.Machine

open Sys2Proof

/-! ### The report of the first pass -/

theorem firstPassSeen_takeFirstPass (s : State) : (takeFirstPass s).seq.firstPassSeen = true :=
  congrArg (fun x => x.2.2) (surveyed_takeFirstPass s)

theorem movedOn_openReturn_started (rid : ReqId) (s : State) : MovedOn [] (openReturn rid s) := fun y hy =>
  .inr ((movedOn_openReturn rid s y hy).elim (fun h => .inl (List.mem_singleton.1 h)) id)

/-- The steps a swap may be resumed in, or may go on to when it is (R174). -/
def resumedSteps : List SwapStep := [.returnOpen, .returnCheck, .rejectOut, .releaseWait, .releaseOpen, .giveBack]

theorem movedOn_resumeReturn (d : Nat) (w : Swap) (s : State) :
    resumeReturn d w s = s ∨ MovedOn resumedSteps (resumeReturn d w s) := by
  have rejected : MovedOn resumedSteps (openReject d s) :=
    (movedOn_modSwap (st := .rejectOut) (by exact fun _ => rfl) _).mono (by simp [resumedSteps])
  unfold resumeReturn
  cases s.slot? d with
  | none => exact .inl rfl
  | some sl =>
    refine .inr ?_
    dsimp only
    cases sl.cond with
    | empty => exact (movedOn_modSwap (st := .returnOpen) (by exact fun _ => rfl) _).mono (by simp [resumedSteps])
    | settling => exact (movedOn_modSwap (st := .returnCheck) (by exact fun _ => rfl) _).mono (by simp [resumedSteps])
    | occupied => exact (movedOn_judgeReturn _ _ _ _ _).mono (by simp [resumedSteps])
    | unreadable => exact rejected
    | fault => exact rejected

theorem movedOn_resumeSwap (p : ProgressStep) (w : Swap) (s : State) :
    resumeSwap p w s = s ∨ MovedOn resumedSteps (resumeSwap p w s) := by
  have ended (o : Outcome) (a : Option AbortReason) (after : EntryAfter) (u : State) :
      MovedOn resumedSteps (endSwap o a after w u) := (movedOn_endSwap o a after w u).mono (by simp)
  have given (d : Nat) (r : AbortReason) : MovedOn resumedSteps (openGiveBack d r w s) :=
    (movedOn_modSwap (st := .giveBack) (by exact fun _ => rfl) _).mono (by simp [resumedSteps])
  unfold resumeSwap
  dsimp only
  cases p with
  | returnOpen => exact movedOn_resumeReturn _ _ _
  | returnCheck => exact movedOn_resumeReturn _ _ _
  | rejectOut =>
    refine .inr ?_
    dsimp only
    split
    · exact ended _ _ _ _
    · exact (movedOn_modSwap (st := .rejectOut) (by exact fun _ => rfl) _).mono (by simp [resumedSteps])
  | releaseWait =>
    exact (movedOn_releaseReady w s).imp (fun h => h.2) (fun h => h.mono (by simp [resumedSteps]))
  | releaseOpen =>
    refine .inr ?_
    dsimp only
    split
    · exact ended _ _ _ _
    · exact (movedOn_openRelease _ _ _).mono (by simp [resumedSteps])
  | giveBackNoPack =>
    refine .inr ?_
    dsimp only
    split
    · exact ended _ _ _ _
    · exact given _ _
  | giveBackWaitExceeded =>
    refine .inr ?_
    dsimp only
    split
    · exact ended _ _ _ _
    · exact given _ _

/-- A swap of which the first pass has been seen does not wait for it. -/
theorem MovedOn.started {l : List SwapStep} {u : State} (h : MovedOn l u) (none : SwapStep.startingWait ∉ l)
    (seen : u.seq.firstPassSeen = true) {y : Swap} (active : u.seq.active = some y) : y.step ≠ .startingWait := by
  intro step
  rcases h y active with k | k | k
  · exact none (step ▸ k)
  · cases step.symm.trans k
  · cases k.2.2.symm.trans seen

theorem MovedOn.takeFirstPass {l : List SwapStep} {u : State} (h : MovedOn l u) (none : SwapStep.startingWait ∉ l) :
    MovedOn l (takeFirstPass u) := by
  by_cases waits : ∃ w, u.seq.active = some w ∧ w.step = .startingWait
  · obtain ⟨w, active, step⟩ := waits
    have fresh : w.resume = Option.none := by
      rcases h w active with k | k | k
      · exact absurd (step ▸ k) none
      · cases step.symm.trans k
      · exact k.2.1
    have run : Machine.takeFirstPass u = lookAtQueue (openReturn w.rid { u with seq.firstPassSeen := true }) := by
      unfold Machine.takeFirstPass
      simp [active, step, fresh]
    rw [run]
    exact (movedOn_lookAtQueue (movedOn_openReturn_started _ _)).mono (by simp)
  · have started : ∀ w, u.seq.active = some w → w.step ≠ .startingWait := fun w a b => waits ⟨w, a, b⟩
    rw [takeFirstPass_of_started started]
    intro y hy
    exact (h y hy).imp_right (fun k => k.imp_right (fun k => absurd k.1 (started y hy)))

theorem Left.takeFirstPass {w : Swap} {u : State} (h : Left w u) (waits : w.step ≠ .startingWait) :
    Left w (takeFirstPass u) := by
  obtain ⟨-, opened, moved⟩ := h
  refine ⟨fun k => absurd k waits, fun k => ?_, fun a b => ?_⟩
  · rw [takeFirstPass_of_started (fun y hy hk => by cases (opened k y hy).symm.trans hk)]
    exact opened k
  · refine (moved a b).takeFirstPass ?_
    cases step : w.step <;> simp [aheadOf]

/-- The swap and the focus slot are as they were. -/
def StandsStill (s u : State) : Prop := u.seq.active = s.seq.active ∧ u.svy.focus = s.svy.focus

theorem left_takeFirstPass {w : Swap} {u : State} (active : u.seq.active = some w) :
    StandsStill u (takeFirstPass u) ∨ Left w (takeFirstPass u) := by
  by_cases step : w.step = .startingWait
  · have left {l : List SwapStep} (none : SwapStep.startingWait ∉ l) (h : MovedOn l (takeFirstPass u)) :
        Left w (takeFirstPass u) :=
      ⟨fun _ y hy => h.started none (firstPassSeen_takeFirstPass u) hy, fun k => (by cases step.symm.trans k),
        fun k => absurd step k⟩
    cases resume : w.resume with
    | none =>
      have run : takeFirstPass u = lookAtQueue (openReturn w.rid { u with seq.firstPassSeen := true }) := by
        unfold takeFirstPass
        simp [active, step, resume]
      exact .inr (left (l := []) (by simp)
        (run ▸ movedOn_lookAtQueue (movedOn_openReturn_started _ _)))
    | some p =>
      have run : takeFirstPass u = resumeSwap p w { u with seq.firstPassSeen := true } := by
        unfold takeFirstPass
        simp [active, step, resume]
      rcases movedOn_resumeSwap p w { u with seq.firstPassSeen := true } with same | moved
      · rw [run, same]
        exact .inl ⟨rfl, rfl⟩
      · exact .inr (left (l := resumedSteps) (by simp [resumedSteps]) (run ▸ moved))
  · have started : ∀ y, u.seq.active = some y → y.step ≠ .startingWait := by
      intro y hy
      cases active.symm.trans hy
      exact step
    rw [takeFirstPass_of_started started]
    exact .inl ⟨rfl, rfl⟩

/-! ### The focus slot after a step (R8) -/

section
variable {st : SurveyStep} {seen hot : Bool} {levels : List Bool} {sl : Slot} {s : State} {w : Swap}
  (slot : s.slots[st.slot]? = some sl) (active : s.seq.active = some w)
include slot active

/-- The outcome of a step leaves the active swap and the focus as they are, or has left the swap. -/
theorem standsStill_or_left_applyStep : StandsStill s (applyStep st seen levels hot s) ∨
    (Left w (applyStep st seen levels hot s) ∧ w.step ≠ .startingWait) := by
  rw [applyStep_eq slot]
  dsimp only
  let v := visit s.sul.cfg s.sul.doorOpen s.rhs.seconds seen hot (stepOutcome st seen levels) sl
  let a := afterVisit st seen levels hot sl s
  let b := handReport st.slot v.report a
  let c := settleExchange st.slot v b
  obtain ⟨-, -, svy, -, -, -, seq, -⟩ := afterVisit_frame st seen levels hot sl s
  have visited : StandsStill s a := ⟨congrArg Seq.active seq, congrArg Svy.focus svy⟩
  have on {u : State} (h : StandsStill s u) : u.seq.active = some w := h.1.trans active
  have handed : StandsStill s b ∨ (Left w b ∧ w.step ≠ .startingWait ∧ (w.step = .returnCheck → v.exchanged = false)) := by
    cases report : v.report with
    | none => exact .inl (show StandsStill s (handReport st.slot v.report a) from report ▸ visited)
    | some r =>
      have run : b = takeReport st.slot r a := congrArg (fun x => handReport st.slot x a) report
      rcases left_takeReport (n := st.slot) (r := r) (on visited) with same | ⟨left, started, insertion⟩
      · exact .inl (run.trans same ▸ visited)
      · refine .inr ⟨run ▸ left, started, fun step => ?_⟩
        by_contra exchanged
        have removal := report_of_exchanged (Bool.not_eq_false _ ▸ exchanged)
        cases (insertion step).symm.trans (congrArg Report.kind (Option.some.inj (report.symm.trans removal)))
  have settled : StandsStill s c ∨ (Left w c ∧ w.step ≠ .startingWait) := by
    have run : c = settleExchange st.slot v b := rfl
    unfold settleExchange at run
    split at run
    · next exchanged =>
      rcases handed with still | ⟨left, started, check⟩
      · rcases left_takeReport (n := st.slot) (r := ⟨.settling, .settling, none, none⟩)
          (u := modSlot st.slot _ b) (on still) with same | ⟨left, started, -⟩
        · exact .inl (run.trans same ▸ still)
        · exact .inr ⟨run ▸ left, started⟩
      · refine .inr ⟨run ▸ Left.settling (u := modSlot st.slot _ b) left rfl started (fun step => ?_), started⟩
        cases exchanged.symm.trans (check step)
    · exact run ▸ handed.imp_right (fun h => ⟨h.1, h.2.1⟩)
  rcases settled with still | ⟨left, started⟩
  · rcases left_rejudge (n := st.slot) (on still) with same | h
    · exact .inl (same.symm ▸ still : StandsStill s (rejudge st.slot c))
    · exact .inr h
  · exact .inr ⟨left.rejudge started, started⟩

end

end Sys2Proof.Machine
end


section
/-! PROOF. The walk of the survey after a step, and the gap between passes (O48; R3, R4, R7, R8). -/

namespace Sys2Proof.Machine

open Sys2Proof

/-- A step that begins on slot `n` may read it: its condition is not FAULT (R5). -/
def readableAt (n : Nat) (s : State) : Bool := s.slots[n]?.elim false (fun sl => decide (sl.cond ≠ .fault))

theorem beginStep_svy (k : StepKind) (n : Nat) (s : State) :
    (beginStep k n s).svy = { s.svy with step := some ⟨n, k, readableAt n s, s.sul.cfg.window⟩ } := by
  unfold beginStep readableAt
  rw [State.slot?]
  cases s.slots[n]? <;> rfl

theorem beginRegular_of_some {n : Nat} {s : State} (h : s.sul.cfg.steps[s.svy.next]? = some n) :
    beginRegular s = beginStep .regular n { s with svy.next := s.svy.next + 1 } := by
  unfold beginRegular
  rw [h]

theorem beginSurveyPass_of_cons {n : Nat} {rest : List Nat} {s : State} (h : s.sul.cfg.steps = n :: rest) :
    beginSurveyPass s = beginStep .regular n { s with svy.next := 1, svy.gap := .inPass } :=
  beginRegular_of_some (s := { s with svy.next := 0, svy.gap := .inPass }) (by simp [h])

theorem otherFocus_of_none {n : Nat} {s : State} (h : s.svy.focus = none ∨ s.svy.focus = some n) :
    otherFocus n s = none := by
  rcases h with h | h <;> simp [otherFocus, h]

theorem otherFocus_of_some {n f : Nat} {s : State} (h : s.svy.focus = some f) (other : f ≠ n) :
    otherFocus n s = some f := by
  simp [otherFocus, h, other]

/-! ### What follows a step -/

theorem nextStep_confirm {st : SurveyStep} {s : State} (kind : st.kind = .regular) (new : visitedAt st.slot s = false) :
    nextStep st s = beginStep .confirm st.slot (modSlot st.slot (fun sl => { sl with visited := true }) s) := by
  unfold nextStep
  rw [kind]
  simp [new]

theorem nextStep_passed {st : SurveyStep} {s : State}
    (passed : (st.kind = .regular ∧ visitedAt st.slot s = true) ∨ st.kind = .confirm) :
    nextStep st s = afterRegular st.slot s := by
  unfold nextStep
  rcases passed with ⟨kind, old⟩ | kind
  · rw [kind]
    exact if_pos old
  · rw [kind]

theorem nextStep_focus {st : SurveyStep} {s : State} (kind : st.kind = .focus) : nextStep st s = afterFocus s := by
  unfold nextStep
  rw [kind]

theorem afterRegular_next {k : Nat} {s : State} (more : s.svy.next < s.sul.cfg.steps.length)
    (other : s.svy.focus = none ∨ s.svy.focus = some k) : afterRegular k s = beginRegular s := by
  unfold afterRegular
  rw [if_pos more, otherFocus_of_none other]

theorem afterRegular_focus {k f : Nat} {s : State} (more : s.svy.next < s.sul.cfg.steps.length)
    (focus : s.svy.focus = some f) (other : f ≠ k) : afterRegular k s = beginStep .focus f s := by
  unfold afterRegular
  rw [if_pos more, otherFocus_of_some focus other]

theorem afterRegular_last {k : Nat} {s : State} (last : s.sul.cfg.steps.length ≤ s.svy.next) :
    afterRegular k s = afterPass k (startGap (reportPassEnd s)) := if_neg (not_lt.2 last)

/-- What rests with a focus slot or goes on with it: the steps between passes (R7, R8). -/
def betweenPasses (s : State) : State := s.svy.focus.elim { s with svy.step := none } (fun f => beginStep .focus f s)

theorem afterPass_running {k ms : Nat} {s : State} (gap : s.svy.gap = .running ms) :
    afterPass k s = betweenPasses s := by
  unfold afterPass betweenPasses
  rw [gap]
  cases s.svy.focus <;> rfl

theorem afterPass_due {k : Nat} {s : State} (gap : s.svy.gap = .due)
    (other : s.svy.focus = none ∨ s.svy.focus = some k) : afterPass k s = beginSurveyPass s := by
  unfold afterPass
  rw [gap, otherFocus_of_none other]

theorem afterPass_due_focus {k f : Nat} {s : State} (gap : s.svy.gap = .due) (focus : s.svy.focus = some f)
    (other : f ≠ k) : afterPass k s = beginStep .focus f s := by
  unfold afterPass
  rw [gap, otherFocus_of_some focus other]

theorem afterFocus_inPass {s : State} (gap : s.svy.gap = .inPass) : afterFocus s = beginRegular s := by
  unfold afterFocus
  rw [gap]

theorem afterFocus_due {s : State} (gap : s.svy.gap = .due) : afterFocus s = beginSurveyPass s := by
  unfold afterFocus
  rw [gap]

theorem afterFocus_running {ms : Nat} {s : State} (gap : s.svy.gap = .running ms) : afterFocus s = betweenPasses s := by
  unfold afterFocus betweenPasses
  rw [gap]
  cases s.svy.focus <;> rfl

/-! ### What a step leaves of the walk -/

theorem surveyed_fields {s t : State} (h : surveyed t = surveyed s) :
    t.svy.step = s.svy.step ∧ t.svy.next = s.svy.next ∧ t.svy.gap = s.svy.gap ∧
    t.svy.firstPassDone = s.svy.firstPassDone ∧ t.svy.link = s.svy.link ∧
    t.slots.map (fun x => x.visited) = s.slots.map (fun x => x.visited) ∧
    t.seq.firstPassSeen = s.seq.firstPassSeen := by
  simp only [surveyed, Prod.mk.injEq, Svy.mk.injEq] at h
  obtain ⟨⟨step, next, gap, -, done, link⟩, visits, seen⟩ := h
  exact ⟨step, next, gap, done, link, visits, seen⟩

/-- The first pass's end is reported once (R7, R143). -/
theorem reportPassEnd_fields (s : State) :
    (reportPassEnd s).svy.step = s.svy.step ∧ (reportPassEnd s).svy.next = s.svy.next ∧
    (reportPassEnd s).svy.gap = s.svy.gap ∧ (reportPassEnd s).svy.firstPassDone = true ∧
    (reportPassEnd s).svy.link = s.svy.link ∧
    (reportPassEnd s).seq.firstPassSeen = (!s.svy.firstPassDone || s.seq.firstPassSeen) := by
  unfold reportPassEnd
  cases done : s.svy.firstPassDone with
  | true => exact ⟨rfl, rfl, rfl, done, rfl, rfl⟩
  | false =>
    obtain ⟨step, next, gap, done', link, -, seen⟩ := surveyed_fields (surveyed_takeFirstPass
      { s with svy.firstPassDone := true })
    exact ⟨step, next, gap, done', link, seen⟩

theorem reportPassEnd_of_first {s : State} (first : s.svy.firstPassDone = false) :
    reportPassEnd s = takeFirstPass { s with svy.firstPassDone := true } := by
  unfold reportPassEnd
  simp [first]

/-! #### The focus slot stands in the walk -/

theorem beginStep_focus (k : StepKind) (n : Nat) (s : State) : (beginStep k n s).svy.focus = s.svy.focus := by
  rw [beginStep_svy]

theorem beginRegular_focus (s : State) : (beginRegular s).svy.focus = s.svy.focus := by
  unfold beginRegular
  split
  · rw [beginStep_focus]
  · rfl

theorem beginSurveyPass_focus (s : State) : (beginSurveyPass s).svy.focus = s.svy.focus := beginRegular_focus _

theorem afterPass_focus (n : Nat) (s : State) : (afterPass n s).svy.focus = s.svy.focus := by
  unfold afterPass
  repeat' split
  · rw [beginStep_focus]
  · rfl
  · rw [beginStep_focus]
  · exact beginSurveyPass_focus s

theorem afterRegular_focus_of_more {n : Nat} {s : State} (more : s.svy.next < s.sul.cfg.steps.length) :
    (afterRegular n s).svy.focus = s.svy.focus := by
  unfold afterRegular
  rw [if_pos more]
  split
  · rw [beginStep_focus]
  · exact beginRegular_focus s

theorem afterRegular_focus_of_last {n : Nat} {s : State} (last : s.sul.cfg.steps.length ≤ s.svy.next) :
    (afterRegular n s).svy.focus = (reportPassEnd s).svy.focus := by
  rw [afterRegular_last last, afterPass_focus]
  rfl

theorem afterFocus_focus (s : State) : (afterFocus s).svy.focus = s.svy.focus := by
  unfold afterFocus
  repeat' split
  · exact beginRegular_focus s
  · exact beginSurveyPass_focus s
  · rw [beginStep_focus]
  · rfl

/-- A step ends with no more than the first pass's report given to SEQ (R7). -/
theorem nextStep_seq (st : SurveyStep) (s : State) :
    (nextStep st s).seq = s.seq ∧ (nextStep st s).svy.focus = s.svy.focus ∨
    (nextStep st s).seq = (reportPassEnd s).seq ∧ (nextStep st s).svy.focus = (reportPassEnd s).svy.focus := by
  have regularly (n : Nat) : (afterRegular n s).seq = s.seq ∧ (afterRegular n s).svy.focus = s.svy.focus ∨
      (afterRegular n s).seq = (reportPassEnd s).seq ∧ (afterRegular n s).svy.focus = (reportPassEnd s).svy.focus := by
    by_cases more : s.svy.next < s.sul.cfg.steps.length
    · refine .inl ⟨?_, afterRegular_focus_of_more more⟩
      unfold afterRegular
      rw [if_pos more]
      split <;> simp
    · refine .inr ⟨?_, afterRegular_focus_of_last (not_lt.1 more)⟩
      rw [afterRegular_last (not_lt.1 more)]
      simp
  unfold nextStep
  split
  · split
    · exact regularly _
    · exact .inl ⟨by simp, by rw [beginStep_focus]; rfl⟩
  · exact regularly _
  · exact .inl ⟨by simp, afterFocus_focus s⟩

theorem settle_svy_of_rest {s : State} (h : s.svy.step.isSome = true ∨ s.svy.focus = none ∨ s.svy.gap = .inPass ∨
    s.svy.gap = .due) : (settle s).svy = s.svy := by
  rw [settle_svy, beginGapFocus_of_nothing (.inr h)]

end Sys2Proof.Machine
end


section
/-! PROOF. Where a swap comes to stand: what each opening and ending of SEQ leaves, and what the rest of the event keeps of
it (R147 to R159). -/

namespace Sys2Proof.Machine

open Sys2Proof

/-! ### The rest of the event -/

/-- `t` is what the walk of the survey and the end of the event make of `a`: SEQ's part of it stands. -/
structure Trails (a t : State) : Prop where
  active : t.seq.active = a.seq.active
  timer : t.seq.timer = a.seq.timer
  focus : t.svy.focus = a.svy.focus
  rhs : t.rhs = a.rhs
  lif : t.lif = a.lif
  counters : t.counters = a.counters
  slot : ∀ (n : Nat) (y : Slot), a.slots[n]? = some y → ∃ v, t.slots[n]? = some { y with visited := v }
  entry : ∀ (rid : ReqId) (e : Entry), a.entry? rid = some e →
    ∃ st, t.entry? rid = some { e with state := st } ∧ (NotHeard rid a → st = e.state)
  quiet : ∀ rid, NotHeard rid a → NotHeard rid t

theorem trails_refl (a : State) : Trails a a where
  active := rfl
  timer := rfl
  focus := rfl
  rhs := rfl
  lif := rfl
  counters := rfl
  slot _ y h := ⟨y.visited, h⟩
  entry _ e h := ⟨e.state, h, fun _ => rfl⟩
  quiet _ := id

theorem Trails.trans {a b t : State} (h : Trails a b) (k : Trails b t) : Trails a t where
  active := k.active.trans h.active
  timer := k.timer.trans h.timer
  focus := k.focus.trans h.focus
  rhs := k.rhs.trans h.rhs
  lif := k.lif.trans h.lif
  counters := k.counters.trans h.counters
  slot n y hy := by
    obtain ⟨v, hv⟩ := h.slot n y hy
    exact (k.slot n _ hv).imp (fun _ => id)
  entry rid e he := by
    obtain ⟨st, hst, same⟩ := h.entry rid e he
    obtain ⟨st', hst', same'⟩ := k.entry rid _ hst
    exact ⟨st', hst', fun q => (same' (h.quiet rid q)).trans (same q)⟩
  quiet rid q := k.quiet rid (h.quiet rid q)

/-- A state that differs from `a` in what only PLN and SVY write. -/
theorem trails_of_eq {a t : State} (seq : t.seq = a.seq) (focus : t.svy.focus = a.svy.focus) (rhs : t.rhs = a.rhs)
    (lif : t.lif = a.lif) (counters : t.counters = a.counters) (slots : t.slots = a.slots) (ofe : t.ofe = a.ofe) :
    Trails a t where
  active := congrArg Seq.active seq
  timer := congrArg Seq.timer seq
  focus := focus
  rhs := rhs
  lif := lif
  counters := counters
  slot _ y h := ⟨y.visited, slots ▸ h⟩
  entry rid e h := ⟨e.state, (entry?_congr (congrArg Ofe.book ofe) rid).trans h, fun _ => rfl⟩
  quiet _ q := notHeard_congr (congrArg Ofe.book ofe) q

theorem trails_setReplan (a : State) : Trails a (setReplan a) := trails_of_eq rfl rfl rfl rfl rfl rfl rfl

/-- An evaluation that begins rewrites the states of entries only (R115). -/
theorem beginEvaluation_book (s : State) : ∃ g : Entry → Entry, (beginEvaluation s).ofe.book = s.ofe.book.map g ∧
    ∀ e, ∃ st, g e = { e with state := st } ∧ (st = e.state ∨ st = .evaluating) := by
  unfold beginEvaluation
  split
  · split
    · next e found =>
      refine ⟨fun x => if x.rid = e.rid then { x with state := .evaluating } else x, rfl, fun x => ?_⟩
      dsimp only
      split
      · exact ⟨_, rfl, .inr rfl⟩
      · exact ⟨x.state, rfl, .inl rfl⟩
    · exact ⟨id, by simp, fun e => ⟨e.state, rfl, .inl rfl⟩⟩
  · exact ⟨id, by simp, fun e => ⟨e.state, rfl, .inl rfl⟩⟩

theorem trails_settle (a : State) : Trails a (settle a) := by
  obtain ⟨g, book, states⟩ := beginEvaluation_book a
  have book : (settle a).ofe.book = a.ofe.book.map g := by rw [settle_ofe, book]
  have rids : ∀ e, (g e).rid = e.rid := fun e => by
    obtain ⟨st, h, -⟩ := states e
    rw [h]
  obtain ⟨-, lif, slots, -, seq, rhs, -, counters, -⟩ := settle_frame a
  refine { active := by rw [seq], timer := by rw [seq], focus := settle_focus a, rhs := rhs, lif := lif,
           counters := counters, slot := fun n y h => ⟨y.visited, slots ▸ h⟩, entry := ?_, quiet := ?_ }
  · intro rid e h
    have found : (settle a).entry? rid = some (g e) := by
      rw [State.entry?, book, List.find?_map, show ((fun e : Entry => decide (e.rid = rid)) ∘ g) =
        (fun e => decide (e.rid = rid)) from funext (fun e => by simp [rids])]
      exact congrArg (Option.map g) h
    obtain ⟨st, hg, -⟩ := states e
    refine ⟨st, hg ▸ found, fun q => ?_⟩
    have same := (entry?_settle q).symm.trans found
    rw [h, hg] at same
    exact (congrArg Entry.state (Option.some.inj same)).symm
  · intro rid q
    refine notHeard_map (g := g) rids (fun e he => ?_) book q
    obtain ⟨st, hg, hst⟩ := states e
    rw [hg]
    rcases hst with rfl | rfl
    · exact he
    · simp

theorem trails_beginStep (k : StepKind) (n : Nat) (a : State) : Trails a (beginStep k n a) :=
  trails_of_eq (by simp) (by rw [beginStep_svy]) (by simp) (by simp) (by simp) (by simp) (by simp)

end Sys2Proof.Machine
end


section
/-! PROOF. The openings and endings of SEQ as the statements about swaps name them (R149 to R159). -/

namespace Sys2Proof.Machine

open Sys2Proof

/-! ### What SEQ reads before it acts -/

/-- `u` has of `s` what SEQ's openings and endings read besides the slots and the book. -/
structure InCourse (s u : State) : Prop where
  sul : u.sul = s.sul
  lif : u.lif = s.lif
  queue : u.seq.queue = s.seq.queue
  seconds : u.rhs.seconds = s.rhs.seconds

/-! ### The openings -/

theorem writeProgress_of_some {s : State} {p : Progress} (h : s.seq.active.bind progressOf = some p) :
    writeProgress s = { s with rhs.progress := some p } := by
  unfold writeProgress
  rw [h]

/-- The active swap record rewritten, its step timer started and its progress recorded (R144). -/
theorem writeProgress_modSwap {f : Swap → Swap} {u : State} {w : Swap} {p : Progress} (active : u.seq.active = some w)
    (progress : progressOf (f w) = some p) : writeProgress (modSwap f u) =
      { u with seq := { u.seq with active := some (f w) }, rhs.progress := some p } := by
  have swapped : (modSwap f u).seq.active = some (f w) := by
    rw [show (modSwap f u).seq.active = u.seq.active.map f from rfl, active]
    rfl
  rw [writeProgress_of_some (p := p) (by rw [swapped]; exact progress)]
  rw [modSwap, active]
  rfl

section
variable {s u t : State} {w : Swap} {d n : Nat} (active : u.seq.active = some w) (dock : w.dock = some d)
include active

theorem openCheck_eq (dock : w.dock = some d) : openCheck u = { u with
    seq := { u.seq with active := some { w with step := .returnCheck, resume := none }, timer := some (.check, 10000) }
    rhs.progress := some ⟨w.rid, .returnCheck, d, w.release, w.returned⟩ } :=
  writeProgress_modSwap (u := startTimer .check 10000 u) active (by simp [progressOf, progressStep, dock])

theorem openReject_eq (dock : w.dock = some d) : openReject d u = { u with
    slots := u.slots.modify d (fun x => { x with unlocked := true })
    svy.focus := some d
    seq := { u.seq with active := some { w with step := .rejectOut, resume := none }, timer := some (.removal, 60000) }
    rhs.progress := some ⟨w.rid, .rejectOut, d, w.release, w.returned⟩ } :=
  writeProgress_modSwap (u := startTimer .removal 60000 (setFocus (some d) (setLatch d true u))) active
    (by simp [progressOf, progressStep, dock])

theorem openWait_eq (e : Entry) (dock : w.dock = some d) : openWait e u = { u with
    pln.replan := true
    seq := { u.seq with active := some { w with step := .releaseWait, resume := none },
                        timer := some (.wait, u.sul.cfg.maxWait e.rider * 60000) }
    rhs.progress := some ⟨w.rid, .releaseWait, d, w.release, w.returned⟩ } :=
  congrArg setReplan (writeProgress_modSwap (u := startTimer .wait (u.sul.cfg.maxWait e.rider * 60000) u) active
    (by simp [progressOf, progressStep, dock]))

/-- The step of GIVE_BACK in the progress record, by its reason (R144). -/
def giveBackStep (r : AbortReason) : ProgressStep :=
  if r = .releaseWaitExceeded then .giveBackWaitExceeded else .giveBackNoPack

theorem openGiveBack_eq (r : AbortReason) (dock : w.dock = some d) : openGiveBack d r w u = { u with
    slots := u.slots.modify d (fun x => { x with role := .dock, rid := some w.rid, unlocked := true })
    svy.focus := some d
    pln.replan := true
    seq := { u.seq with active := some { w with step := .giveBack, abort := some r, resume := none },
                        timer := some (.removal, 60000) }
    rhs.progress := some ⟨w.rid, giveBackStep r, d, w.release, w.returned⟩ } := by
  have recorded : progressOf { w with step := .giveBack, abort := some r, resume := none } =
      some ⟨w.rid, giveBackStep r, d, w.release, w.returned⟩ := by
    unfold giveBackStep
    by_cases h : r = .releaseWaitExceeded <;> simp [progressOf, progressStep, dock, h]
  have opened := writeProgress_modSwap (f := fun x => { x with step := .giveBack, abort := some r, resume := none })
    (u := startTimer .removal 60000 (setFocus (some d) (setLatch d true (setRole d .dock (some w.rid) u)))) active recorded
  refine opened.trans ?_
  apply state_ext
  case slots =>
    show (setRole d .dock (some w.rid) u).slots.modify d _ = _
    rw [setRole_slots (by simp), List.modify_modify_eq]
    rfl
  all_goals rfl

/-- A slot as RELEASE_OPEN leaves it (R156). -/
def Slot.opened (cfg : Cfg) (rid : ReqId) (x : Slot) : Slot :=
  { Slot.zeroed cfg { x with role := .releasing, rid := some rid } with unlocked := true }

/-- A swap as RELEASE_OPEN on slot `n` leaves it, which stands as `x` (R156). -/
def Swap.opened (n : Nat) (x : Slot) (w : Swap) : Swap :=
  { w with step := .releaseOpen, release := n, resume := none
           released := if x.cond = .occupied then x.pack.map (fun p => p.id) else none }

theorem openRelease_eq {x : Slot} (dock : w.dock = some d) (slot : u.slots[n]? = some x) : openRelease n w u = { u with
    slots := u.slots.modify n (Slot.opened u.sul.cfg w.rid)
    svy.focus := some n
    pln.replan := true
    seq := { u.seq with active := some (w.opened n x), timer := some (.collect, u.sul.cfg.collectTimer * 1000) }
    rhs.progress := some ⟨w.rid, .releaseOpen, d, n, w.returned⟩ } := by
  have recorded : progressOf (w.opened n x) = some ⟨w.rid, .releaseOpen, d, n, w.returned⟩ := by
    simp [progressOf, progressStep, Swap.opened, dock]
  have opened := writeProgress_modSwap (f := Swap.opened n x) (u := startTimer .collect (u.sul.cfg.collectTimer * 1000)
    (setFocus (some n) (setLatch n true (setRole n .releasing (some w.rid) u)))) active recorded
  have run : openRelease n w u = writeProgress (modSwap (Swap.opened n x)
      (startTimer .collect (u.sul.cfg.collectTimer * 1000)
        (setFocus (some n) (setLatch n true (setRole n .releasing (some w.rid) u))))) := by
    unfold openRelease
    rw [show u.slot? n = some x from slot]
    rfl
  refine run.trans (opened.trans ?_)
  apply state_ext
  case slots =>
    show ((u.slots.modify n _).modify n _) = _
    rw [List.modify_modify_eq]
    rfl
  all_goals rfl

end

/-! ### The openings as the statements name them -/

section
variable {s u t : State} {w : Swap} {d n : Nat} (active : u.seq.active = some w) (dock : w.dock = some d)
include active dock

theorem releaseOpened_openRelease {x y : Slot} (slot : u.slots[n]? = some y) (cond : y.cond = x.cond)
    (pack : y.pack = x.pack) (course : InCourse s u) (trail : Trails (openRelease n w u) t) :
    ReleaseOpened s t w d n x := by
  have run := openRelease_eq active dock slot
  rw [run] at trail
  have there : (u.slots.modify n (Slot.opened u.sul.cfg w.rid))[n]? = some (Slot.opened u.sul.cfg w.rid y) := by
    simp [slot]
  obtain ⟨v, hv⟩ := trail.slot n _ there
  refine ⟨?_, ?_, trail.focus, by rw [trail.rhs], trail.lif.trans course.lif, _, hv, rfl, rfl, rfl, rfl, cond, pack⟩
  · rw [trail.active, Swap.opened, cond, pack]
  · rw [trail.timer, ← course.sul]

theorem releaseWaits_openWait (e e' : Entry) (rider : e'.rider = e.rider) (course : InCourse s u)
    (trail : Trails (openWait e' u) t) : ReleaseWaits s t w d e := by
  rw [openWait_eq active e' dock] at trail
  refine ⟨trail.active, ?_, by rw [trail.rhs], trail.lif.trans course.lif⟩
  rw [trail.timer, ← course.sul, ← rider]

theorem givesBack_openGiveBack {r : AbortReason} {y : Slot} (slot : u.slots[d]? = some y) (course : InCourse s u)
    (trail : Trails (openGiveBack d r w u) t) : GivesBack s t w d r := by
  rw [openGiveBack_eq active r dock] at trail
  obtain ⟨v, hv⟩ := trail.slot d { y with role := .dock, rid := some w.rid, unlocked := true } (by simp [slot])
  exact ⟨trail.active, trail.timer, trail.focus, by rw [trail.rhs]; rfl, trail.lif.trans course.lif, _, hv, rfl, rfl, rfl⟩

theorem rejectsOut_openReject {y : Slot} (slot : u.slots[d]? = some y) (course : InCourse s u)
    (trail : Trails (openReject d u) t) : RejectsOut s t w d := by
  rw [openReject_eq active dock] at trail
  obtain ⟨v, hv⟩ := trail.slot d { y with unlocked := true } (by simp [slot])
  exact ⟨trail.active, trail.timer, trail.focus, by rw [trail.rhs], trail.lif.trans course.lif, _, hv, rfl⟩

end

/-! ### The endings -/

/-- With nothing in the serve queue a swap's end leaves SEQ idle (R145, R159). -/
theorem endSwap_of_none {o : Outcome} {a : Option AbortReason} {after : EntryAfter} {w : Swap} {u : State}
    (rest : u.seq.queue = []) : endSwap o a after w u = swapEnding o a after w u := by
  rw [endSwap_eq, lookAtQueue_of_rest (.inl (by rw [swapEnding_seq]; exact rest))]

theorem swapEnded_endSwap {s u t : State} {o : Outcome} {a : Option AbortReason} {after : EntryAfter} {w : Swap}
    (rest : u.seq.queue = []) (entry : (u.entry? w.rid).isSome = true) (course : InCourse s u)
    (counters : u.counters = s.counters) (trail : Trails (endSwap o a after w u) t) :
    SwapEnded s t w o a after.state := by
  rw [endSwap_of_none rest] at trail
  obtain ⟨e, entry⟩ := Option.isSome_iff_exists.1 entry
  have rewritten := entry?_swapEnding o a after w u
  rw [entry] at rewritten
  obtain ⟨st, found, same⟩ := trail.entry w.rid _ rewritten
  have state := same (notHeard_swapEnding o a after w u)
  refine ⟨?_, ?_, ?_, ?_, ⟨_, found, ?_, fun held => ?_⟩, fun gone h mem => ?_, ?_, ?_⟩
  · rw [trail.active, swapEnding_seq]
  · rw [trail.timer, swapEnding_seq]
  · rw [trail.rhs, swapEnding_progress]
  · rw [trail.focus, swapEnding_svy]
  · exact state.trans (state_rewrite after _ _ _)
  · cases after with
    | held => rw [← course.seconds, ← course.sul]; rfl
    | done => cases held
    | aborted => cases held
  · have ne : after ≠ .held := fun k => gone (k ▸ rfl)
    rw [trail.rhs, swapEnding_holds o a after w u ne] at mem
    exact rid_of_mem_dropHold mem
  · rw [trail.lif, swapEnding_lif, enqueue_lif_congr course.lif]
  · rw [trail.counters, swapEnding_counters]
    exact enqueue_counters_congr (s := bumpClose o a s) (t := bumpClose o a u) (by simp [course.lif])
      (bumpClose_counters_congr o a counters) _

end Sys2Proof.Machine
end


section
/-! PROOF. The substitute, GIVE_BACK and the judgement of the release slot (R152 to R155). -/

namespace Sys2Proof.Machine

open Sys2Proof

/-! ### The substitute (R153) -/

theorem substituteFor_cases (cfg : Cfg) (k : PackClass) (d : Nat) (slots : List Slot) :
    (substituteFor cfg k (some d) slots = none ∧ ∀ m y, slots[m]? = some y → m ≠ d → y.role = .free →
      releasable cfg k y = false) ∨
    ∃ n x, substituteFor cfg k (some d) slots = some n ∧ slots[n]? = some x ∧ n ≠ d ∧ x.role = .free ∧
      releasable cfg k x = true ∧ ∀ m y, slots[m]? = some y → m ≠ d → y.role = .free → releasable cfg k y = true →
        substituteScore x < substituteScore y ∨ (substituteScore x = substituteScore y ∧ n ≤ m) := by
  let bays := slots.zipIdx.filter (fun x =>
    releasable cfg k x.1 && decide (x.1.role = .free) && decide (some d ≠ some x.2))
  let scored := bays.map (fun x => (x.2, substituteScore x.1))
  have mem_bays {y : Slot} {m : Nat} : (y, m) ∈ bays ↔
      slots[m]? = some y ∧ m ≠ d ∧ y.role = .free ∧ releasable cfg k y = true := by
    simp only [bays, List.mem_filter, List.mem_zipIdx_iff_getElem?, Bool.and_eq_true, decide_eq_true_eq, ne_eq,
      Option.some.injEq, eq_comm (a := d)]
    tauto
  have rises : scored.Pairwise (fun a b => a.1 < b.1) := by
    have places := filterMap_zipIdx_rises (number := fun x : Slot × Nat => x.2) some slots (by rintro x a ⟨⟩; rfl)
    rw [List.filterMap_some] at places
    exact List.pairwise_map.2 (places.filter _)
  have found : substituteFor cfg k (some d) slots = (scored.foldl betterSubstitute none).map (fun b => b.1) := rfl
  rcases foldl_better (better := betterSubstitute) (score := fun x => x.2) (number := fun x => x.1) (fun _ => rfl)
    (fun _ _ => rfl) scored rises with ⟨empty, none⟩ | ⟨c, mem, best, least⟩
  · refine .inl ⟨by rw [found, none]; rfl, fun m y hy apart free => ?_⟩
    by_contra able
    have : (y, m) ∈ bays := mem_bays.2 ⟨hy, apart, free, by simpa using able⟩
    rw [List.map_eq_nil_iff.1 empty] at this
    cases this
  · obtain ⟨⟨x, n⟩, bay, rfl⟩ := List.mem_map.1 mem
    obtain ⟨hx, apart, free, able⟩ := mem_bays.1 bay
    refine .inr ⟨n, x, by rw [found, best]; rfl, hx, apart, free, able, fun m y hy apart' free' able' => ?_⟩
    have := least _ (List.mem_map.2 ⟨(y, m), mem_bays.2 ⟨hy, apart', free', able'⟩, rfl⟩)
    simp only [Precedes] at this
    omega

/-- A slot that can stand in for no release slot. -/
def NoBay (cfg : Cfg) (k : PackClass) (o : Option Slot) : Prop :=
  ∀ y, o = some y → ¬ (y.role = .free ∧ releasable cfg k y = true)

/-- The slots that can stand in for a release slot are in `u` those of `s`, the slot `d` of the accepted return aside. -/
def SameBays (cfg : Cfg) (k : PackClass) (d : Nat) (s u : State) : Prop :=
  ∀ m : Nat, m ≠ d → u.slots[m]? = s.slots[m]? ∨ (NoBay cfg k u.slots[m]? ∧ NoBay cfg k s.slots[m]?)

/-- Of the substitutes of `s` and of the same slots in `u` there is one. -/
theorem isSubstitute_unique {s u : State} {k : PackClass} {d n m : Nat} {x y : Slot} (sul : u.sul = s.sul)
    (bays : SameBays s.sul.cfg k d s u) (h : IsSubstitute s k d n x) (g : IsSubstitute u k d m y) :
    u.slots[n]? = some x ∧ m = n ∧ y = x := by
  obtain ⟨hx, apart, free, able, least⟩ := h
  obtain ⟨hy, apart', free', able', least'⟩ := g
  rw [sul] at able'
  have same {i : Nat} {z : Slot} (other : i ≠ d) (good : z.role = .free ∧ releasable s.sul.cfg k z = true) :
      u.slots[i]? = some z ↔ s.slots[i]? = some z := by
    rcases bays i other with eq | ⟨no, no'⟩
    · rw [eq]
    · exact ⟨fun e => absurd good (no z e), fun e => absurd good (no' z e)⟩
  have hx' := (same apart ⟨free, able⟩).2 hx
  have hy' := (same apart' ⟨free', able'⟩).1 hy
  have one := least m y hy' apart' free' able'
  have two := least' n x hx' apart free (sul ▸ able)
  have place : m = n := by omega
  subst place
  exact ⟨hx', rfl, Option.some.inj (hy.symm.trans hx')⟩

theorem noSubstitute_congr {s u : State} {k : PackClass} {d : Nat} (sul : u.sul = s.sul)
    (bays : SameBays s.sul.cfg k d s u) : NoSubstitute s k d ↔ NoSubstitute u k d := by
  have none_of {a b : State} (cfg : b.sul = a.sul) (same : ∀ m : Nat, m ≠ d → b.slots[m]? = a.slots[m]? ∨
      NoBay a.sul.cfg k b.slots[m]?) (h : NoSubstitute a k d) : NoSubstitute b k d := by
    intro m y hy apart free
    rw [cfg]
    rcases same m apart with eq | no
    · exact h m y (eq ▸ hy) apart free
    · exact Bool.eq_false_iff.2 (fun able => no y hy ⟨free, able⟩)
  exact ⟨none_of sul (fun m hm => (bays m hm).imp_right And.left),
    none_of sul.symm (fun m hm => (bays m hm).imp Eq.symm (fun h => sul ▸ h.2))⟩

/-! ### GIVE_BACK (R154) -/

/-- What an ending of SEQ in `u` needs of `s`, so that it is the ending of the event: the book has the request, no counter
has counted since, and no latch has moved. -/
structure EndsAs (s u : State) (rid : ReqId) : Prop where
  entry : (u.entry? rid).isSome = true
  counters : u.counters = s.counters
  latch : ∀ (n : Nat) (y : Slot), s.slots[n]? = some y → ∃ y' : Slot, u.slots[n]? = some y' ∧ y'.unlocked = y.unlocked

theorem freeRole_latch (n : Nat) (r : Role) (rid : ReqId) (u : State) {m : Nat} {y : Slot} (h : u.slots[m]? = some y) :
    ∃ y', (freeRole n r rid u).slots[m]? = some y' ∧ y'.unlocked = y.unlocked := by
  unfold freeRole
  repeat' split
  · rw [setRole_free_slots]
    by_cases place : n = m
    · subst place
      exact ⟨{ y with role := .free, rid := none }, by simp [h], rfl⟩
    · exact ⟨y, by simp [place, h], rfl⟩
  all_goals exact ⟨y, h, rfl⟩

section
variable {s u t : State} {w : Swap} {r : AbortReason} {d : Nat} {x : Slot}

/-- GIVE_BACK with nothing to hand back ends the swap in its entry event. -/
theorem giveBackEndsAtOnce (rest : s.seq.queue = []) (course : InCourse s u) (ends : EndsAs s u w.rid)
    (release : x.role = .held → ∃ y, u.slots[w.release]? = some y ∧ y.role = .held ∧ y.rid = some w.rid)
    (trail : Trails (endGiveBack r w (setReplan u)) t) : GiveBackEndsAtOnce s t w r x := by
  let v := freeRelease w (setReplan u)
  have queue : v.seq.queue = [] := by simpa [v] using course.queue.trans rest
  have ended : SwapEnded s t w .aborted (some r) .aborted := by
    refine swapEnded_endSwap (after := .aborted) (u := v) queue ?_ ?_ ?_ trail
    · rw [entry?_congr (s := u) (by simp [v])]
      exact ends.entry
    · exact ⟨by simp [v, course.sul], by simp [v, course.lif], by simp [v, course.queue], by simp [v, course.seconds]⟩
    · simp [v, ends.counters]
  have slots : (endGiveBack r w (setReplan u)).slots = v.slots := by
    unfold endGiveBack
    rw [endSwap_of_none queue]
    exact (swapEnding_frame _ _ _ _ _).2.1
  refine ⟨ended, fun n y hy => ?_, fun held => ?_⟩
  · obtain ⟨y', hy', latch⟩ := ends.latch n y hy
    obtain ⟨z, hz, latch'⟩ := freeRole_latch w.release .held w.rid (setReplan u) (m := n) hy'
    obtain ⟨b, hb⟩ := trail.slot n z (slots ▸ hz)
    exact ⟨_, hb, latch'.trans latch⟩
  · obtain ⟨y, hy, role, own⟩ := release held
    have freed : v.slots[w.release]? = some { y with role := .free, rid := none } := by
      rw [show v = _ from freeRelease_of_held (s := setReplan u) hy role own]
      simp [hy]
    obtain ⟨b, hb⟩ := trail.slot _ _ (slots ▸ freed)
    exact ⟨_, hb, rfl, rfl⟩

/-- GIVE_BACK entered (R154): the return is handed back, or the swap ends. -/
theorem giveBackEntered_giveBack {ds : Slot} (active : u.seq.active = some w) (dock : w.dock = some d)
    (place : ∃ y, u.slots[d]? = some y ∧ y.role = ds.role ∧ y.cond = ds.cond) (course : InCourse s u)
    (ends : (ds.role ≠ .free ∨ ds.cond = .empty) → EndsAs s u w.rid)
    (release : x.role = .held → ∃ y, u.slots[w.release]? = some y ∧ y.role = .held ∧ y.rid = some w.rid)
    (trail : Trails (giveBack r w u) t) : GiveBackEntered s t w d r ds x := by
  obtain ⟨y, hy, role, cond⟩ := place
  have run : giveBack r w u = if y.role = .free ∧ y.cond ≠ .empty then openGiveBack d r w u
      else endGiveBack r w (setReplan u) := by
    unfold giveBack
    rw [dock]
    dsimp only
    rw [show u.slot? d = some y from hy]
  rw [run] at trail
  refine ⟨fun free full => ?_, fun bare rest => ?_⟩
  · rw [if_pos ⟨role.trans free, fun h => full (cond.symm.trans h)⟩] at trail
    exact givesBack_openGiveBack active dock hy course trail
  · have no : ¬ (y.role = .free ∧ y.cond ≠ .empty) := by
      rw [role, cond]
      tauto
    rw [if_neg no] at trail
    exact giveBackEndsAtOnce rest course (ends bare) release trail

end

/-! ### The substitution and the judgement (R152, R153, R155) -/

section
variable {u : State} {w : Swap} {d : Nat} {e' : Entry}

theorem freeRole_other {n m : Nat} (r : Role) (rid : ReqId) (u : State) (other : m ≠ n) :
    (freeRole n r rid u).slots[m]? = u.slots[m]? := by
  unfold freeRole
  repeat' split
  · rw [setRole_free_slots]
    simp [other.symm]
  all_goals rfl

/-- The state in which RELEASE_OPEN is entered on a substitute: the substitute RELEASING, the release slot freed, the entry
moved to its new slot (R153). -/
def movedTo (n : Nat) (w : Swap) (u : State) : State :=
  syncRecord w.rid (modEntry w.rid (fun x => { x with heldSlot := some n })
    (freeRelease w (setRole n .releasing (some w.rid) u)))

theorem substitute_of_some {n : Nat} (dock : w.dock = some d)
    (found : substituteFor u.sul.cfg e'.packClass (some d) u.slots = some n) :
    substitute w e' u = openRelease n w (movedTo n w u) := by
  unfold substitute
  rw [dock, found]
  rfl

theorem movedTo_slot {n : Nat} {y : Slot} (place : u.slots[n]? = some y) :
    (movedTo n w u).slots[n]? = some (Slot.zeroed u.sul.cfg { y with role := .releasing, rid := some w.rid }) := by
  have there : (setRole n .releasing (some w.rid) u).slots[n]? =
      some (Slot.zeroed u.sul.cfg { y with role := .releasing, rid := some w.rid }) := by
    simp [setRole, modSlot, place]
  have kept : (freeRelease w (setRole n .releasing (some w.rid) u)).slots[n]? =
      (setRole n .releasing (some w.rid) u).slots[n]? := by
    unfold freeRelease
    by_cases same : n = w.release
    · rw [← same, freeRole_of_not_owned there (by simp [Slot.zeroed, Slot.refreshed])]
    · exact freeRole_other _ _ _ same
  rw [show (movedTo n w u).slots = (freeRelease w (setRole n .releasing (some w.rid) u)).slots by simp [movedTo], kept,
    there]

theorem movedTo_release {n : Nat} {y : Slot} (other : n ≠ w.release) (place : u.slots[w.release]? = some y)
    (role : y.role = .held) (own : y.rid = some w.rid) :
    (movedTo n w u).slots[w.release]? = some { y with role := .free, rid := none } := by
  have there : (setRole n .releasing (some w.rid) u).slots[w.release]? = some y := by
    simp [setRole, modSlot, place, other]
  rw [show (movedTo n w u).slots = (freeRelease w (setRole n .releasing (some w.rid) u)).slots by simp [movedTo],
    freeRelease_of_held there role own]
  simp [there]

theorem movedTo_entry {n : Nat} {e : Entry} (entry : u.entry? w.rid = some e) :
    (movedTo n w u).entry? w.rid = some { e with heldSlot := some n } := by
  have book : (movedTo n w u).ofe.book = (modEntry w.rid (fun x => { x with heldSlot := some n })
      (freeRelease w (setRole n .releasing (some w.rid) u))).ofe.book := by simp [movedTo]
  rw [entry?_congr book, entry?_modEntry_same (by exact fun _ => rfl), entry?_congr (s := u) (by simp), entry]
  rfl

theorem syncRecord_seconds (rid : ReqId) (s : State) : (syncRecord rid s).rhs.seconds = s.rhs.seconds := by
  unfold syncRecord
  split <;> rfl

theorem movedTo_course {s : State} {n : Nat} (course : InCourse s u) : InCourse s (movedTo n w u) := by
  obtain ⟨sul, lif, queue, seconds⟩ := course
  refine ⟨by simp [movedTo, sul], by simp [movedTo, lif], by simp [movedTo, queue], ?_⟩
  rw [movedTo, syncRecord_seconds]
  simp [seconds]

end

/-- What a judgement of the release slot in `u` needs of `s`: the swap and its entry, the slot `d` of the accepted return as
`ds`, and the release slot, which stood as `x`. -/
structure Judges (s u : State) (w : Swap) (e e' : Entry) (d : Nat) (ds x : Slot) : Prop where
  active : u.seq.active = some w
  dock : w.dock = some d
  apart : d ≠ w.release
  entry : u.entry? w.rid = some e'
  packClass : e'.packClass = e.packClass
  rider : e'.rider = e.rider
  place : ∃ y, u.slots[d]? = some y ∧ y.role = ds.role ∧ y.cond = ds.cond
  bays : SameBays s.sul.cfg e.packClass d s u
  course : InCourse s u
  ends : (ds.role ≠ .free ∨ ds.cond = .empty) → EndsAs s u w.rid
  release : x.role = .held → ∃ y, u.slots[w.release]? = some y ∧ y.role = .held ∧ y.rid = some w.rid

section
variable {s u t : State} {w : Swap} {e e' : Entry} {d : Nat} {ds x : Slot} (judges : Judges s u w e e' d ds x)
include judges

theorem giveBackEntered_of_judges {r : AbortReason} (trail : Trails (giveBack r w u) t) :
    GiveBackEntered s t w d r ds x :=
  giveBackEntered_giveBack judges.active judges.dock judges.place judges.course judges.ends judges.release trail

/-- A substitution (R153). -/
theorem substituted_of_judges (trail : Trails (substitute w e' u) t) : Substituted s t w e d ds x := by
  have entered (trail : Trails (giveBack .noPack w u) t) := giveBackEntered_of_judges judges trail
  obtain ⟨active, dock, -, entry, packClass, -, -, bays, course, -, release⟩ := judges
  rcases substituteFor_cases u.sul.cfg e'.packClass d u.slots with ⟨none, no⟩ | ⟨n, y, found, sub⟩
  · have run : substitute w e' u = giveBack .noPack w u := by
      unfold substitute
      rw [dock, none]
    refine ⟨fun m z h => ?_, fun _ => entered (run ▸ trail)⟩
    have gone := (noSubstitute_congr course.sul bays).2 (packClass ▸ no)
    have able := h.2.2.2.1
    rw [gone m z h.1 h.2.1 h.2.2.1] at able
    cases able
  · rw [substitute_of_some dock found] at trail
    have sub : IsSubstitute u e.packClass d n y := packClass ▸ sub
    refine ⟨fun m z h => ?_, fun none => ?_⟩
    · obtain ⟨place, rfl, rfl⟩ := isSubstitute_unique course.sul bays h sub
      have held := movedTo_slot (w := w) place
      have active' : (movedTo n w u).seq.active = some w := by simpa [movedTo] using active
      refine ⟨releaseOpened_openRelease active' dock held rfl rfl (movedTo_course course) trail, ?_, fun waits => ?_⟩
      · have entry' : (openRelease n w (movedTo n w u)).entry? w.rid = some { e' with heldSlot := some n } :=
          (entry?_congr (by simp) _).trans (movedTo_entry entry)
        obtain ⟨st, ht, -⟩ := trail.entry _ _ entry'
        exact ⟨_, ht, rfl⟩
      · obtain ⟨y', hy', role, own⟩ := release waits
        have other : n ≠ w.release := by
          rintro rfl
          cases hy'.symm.trans place
          cases role.symm.trans sub.2.2.1
        have freed := movedTo_release (n := n) other hy' role own
        have stays : (openRelease n w (movedTo n w u)).slots[w.release]? = some { y' with role := .free, rid := none } := by
          rw [openRelease_eq active' dock held]
          simp [other, freed]
        obtain ⟨v, hv⟩ := trail.slot _ _ stays
        exact ⟨_, hv, rfl, rfl⟩
    · have able := sub.2.2.2.1
      rw [(noSubstitute_congr course.sul bays).1 none n y sub.1 sub.2.1 sub.2.2.1] at able
      cases able

omit judges in
theorem sound_congr {cfg : Cfg} {k : PackClass} {x y : Slot} (cond : y.cond = x.cond) (pack : y.pack = x.pack)
    (cut : y.cut = x.cut) : sound cfg k y = sound cfg k x := by
  unfold sound
  rw [cond, pack, cut]

omit judges in
theorem releasable_congr {cfg : Cfg} {k : PackClass} {x y : Slot} (cond : y.cond = x.cond) (pack : y.pack = x.pack)
    (cut : y.cut = x.cut) : releasable cfg k y = releasable cfg k x := by
  unfold releasable
  rw [pack, sound_congr cond pack cut]

/-- RELEASE_READY (R152). -/
theorem releaseJudged_of_judges {y : Slot} (slot : u.slots[w.release]? = some y) (cond : y.cond = x.cond)
    (pack : y.pack = x.pack) (cut : y.cut = x.cut) (trail : Trails (releaseReady w u) t) :
    ReleaseJudged s t w e d ds x := by
  have entered {r : AbortReason} (trail : Trails (giveBack r w u) t) := giveBackEntered_of_judges judges trail
  have substituted (trail : Trails (substitute w e' u) t) := substituted_of_judges judges trail
  obtain ⟨active, dock, -, entry, packClass, rider, -, -, course, -, -⟩ := judges
  have run : releaseReady w u =
      if releasable s.sul.cfg e.packClass x then openRelease w.release w u
      else if sound s.sul.cfg e.packClass x then
        if 0 < s.sul.cfg.maxWait e.rider then openWait e' u else giveBack .releaseWaitExceeded w u
      else substitute w e' u := by
    unfold releaseReady
    rw [entry, show u.slot? w.release = some y from slot, course.sul]
    dsimp only
    rw [packClass, rider, releasable_congr cond pack cut, sound_congr cond pack cut]
  rw [run] at trail
  refine ⟨fun able => ?_, fun unable sound' => ⟨fun waits => ?_, fun none => ?_⟩, fun unsound => ?_⟩
  · rw [if_pos able] at trail
    exact releaseOpened_openRelease active dock slot cond pack course trail
  · rw [if_neg (by simp [unable]), if_pos sound', if_pos waits] at trail
    exact releaseWaits_openWait active dock e e' rider course trail
  · rw [if_neg (by simp [unable]), if_pos sound', if_neg (by simp [none])] at trail
    exact entered trail
  · have unable : releasable s.sul.cfg e.packClass x = false := by
      unfold releasable
      split
      · rfl
      · simp [unsound]
    rw [if_neg (by simp [unable]), if_neg (by simp [unsound])] at trail
    exact substituted trail

omit judges in
theorem judgeWaiting_of_some {y : Slot} (entry : u.entry? w.rid = some e') (slot : u.slots[w.release]? = some y) :
    judgeWaiting w u = if releasable u.sul.cfg e'.packClass y then openRelease w.release w u
      else if sound u.sul.cfg e'.packClass y then u else substitute w e' u := by
  unfold judgeWaiting
  rw [entry, show u.slot? w.release = some y from slot]

end

end Sys2Proof.Machine
end


section
/-! PROOF. The thermal trip and the walk of the survey (O48). -/

namespace Sys2Proof.Machine

open Sys2Proof

/-! ### A tripped slot stays without charge (R19, R93) -/

/-- Slot `n` is cut and has setpoint 0. -/
def DarkAt (n : Nat) (s : State) : Prop := ∃ sl, s.slots[n]? = some sl ∧ sl.cut = true ∧ sl.setpoint = 0

theorem darkAt_map {n : Nat} {s : State} {f : Slot → Slot} (cut : ∀ x, (f x).cut = x.cut)
    (zero : ∀ x, (f x).setpoint = 0) {t : State} (slots : t.slots = s.slots.map f) (h : DarkAt n s) : DarkAt n t := by
  obtain ⟨sl, place, dark, -⟩ := h
  exact ⟨f sl, by rw [slots]; simp [place], (cut sl).trans dark, zero sl⟩

theorem Write.darkAt {seq : Prop} {s t : State} {n : Nat} (h : Write seq False s t) (k : DarkAt n s) : DarkAt n t := by
  have same {u : State} (slots : u.slots = s.slots) : DarkAt n u := by
    obtain ⟨sl, place, dark⟩ := k
    exact ⟨sl, slots ▸ place, dark⟩
  have zeroed {u : State} (slots : u.slots = s.slots.map (Slot.zeroed s.sul.cfg)) : DarkAt n u :=
    darkAt_map (f := Slot.zeroed s.sul.cfg) (fun _ => rfl) (fun _ => rfl) slots k
  cases h with
  | slots l each =>
    obtain ⟨sl, place, cut, zero⟩ := k
    obtain ⟨len, each⟩ := List.forall₂_iff_get.1 each
    obtain ⟨bound, rfl⟩ := List.getElem?_eq_some_iff.1 place
    have w := each n bound (len ▸ bound)
    have cut' : (l[n]'(len ▸ bound)).cut = true := (w.cond.resolve_left id).2.2.trans cut
    refine ⟨_, List.getElem?_eq_getElem (len ▸ bound), cut', ?_⟩
    rcases w.setpoint with z | ⟨z, -⟩ | ⟨-, free⟩
    · exact z
    · exact z.trans zero
    · simp [mustNotCharge, cut'] at free
  | pause => exact zeroed rfl
  | stationState new =>
    by_cases hold : new = .holdup
    · exact zeroed (plannerHandOff_slots_holdup (s := { s with sul.state := new }) hold)
    · exact same (by rw [plannerHandOff_slots (by exact hold)])
  | _ => exact same (by simp)

theorem Writes.darkAt {seq : Prop} {s t : State} {n : Nat} (h : Writes seq False s t) (k : DarkAt n s) : DarkAt n t :=
  h.keeps (P := DarkAt n) (fun _ _ w k => w.darkAt k) k

theorem setpointOutput_of_darkAt {n : Nat} {s : State} {sl : Slot} (place : s.slots[n]? = some sl) (cut : sl.cut = true) :
    s.setpointOutput n = 0 := by
  unfold State.setpointOutput
  rw [show s.slot? n = some sl from place]
  simp [cut]

/-- What a trip makes of the event before SEQ judges the release slot again (R19, R93). -/
def tripped (n : Nat) (s : State) : State := setReplan (modSlot n (Slot.tripped s.sul.cfg) s)

theorem exec_thermalTrip {n : Nat} {s : State} {sl : Slot} (works : operates s = true) (place : s.slots[n]? = some sl)
    (closed : sl.cut = false) : exec (.thermalTrip n) s = .next (settle (rejudge n (tripped n s))) := by
  show execThermalTrip n s = _
  unfold execThermalTrip
  rw [show s.slot? n = some sl from place]
  exact congrArg Host.Outcome.next (if_pos ⟨works, closed⟩)

/-- A trip with no swap that waits for the slot's release. -/
theorem trips_quietly {s : State} {n : Nat} {sl : Slot} (works : operates s = true) (place : s.slots[n]? = some sl)
    (closed : sl.cut = false) (apart : ∀ w, s.seq.active = some w → w.step = .releaseWait → w.release ≠ n) :
    ∃ t sl', exec (.thermalTrip n) s = .next t ∧ t.slots[n]? = some sl' ∧ sl'.cut = true ∧ sl'.setpoint = 0 ∧
      t.setpointOutput n = 0 ∧ sl'.cond = sl.cond ∧ sl'.pack = sl.pack ∧ sl'.role = sl.role ∧
      sl'.unlocked = sl.unlocked ∧ (∀ m, m ≠ n → t.slots[m]? = s.slots[m]?) ∧ t.pln.pass.isSome = true ∧
      t = { s with slots := t.slots, pln := t.pln, ofe := t.ofe, svy := t.svy } := by
  have still : rejudge n (tripped n s) = tripped n s := by
    unfold rejudge
    rw [show (tripped n s).seq = s.seq from rfl]
    cases active : s.seq.active with
    | none => rfl
    | some w => exact if_neg (fun h => apart w active h.1 h.2)
  let t := settle (tripped n s)
  have slots : t.slots = s.slots.modify n (Slot.tripped s.sul.cfg) := (settle_frame (tripped n s)).2.2.1
  have there : t.slots[n]? = some (sl.tripped s.sul.cfg) := by rw [slots]; simp [place]
  refine ⟨t, _, (exec_thermalTrip works place closed).trans (congrArg (fun v => Host.Outcome.next (settle v)) still), there, rfl, rfl,
    setpointOutput_of_darkAt there rfl, rfl, rfl, rfl, rfl, fun m other => ?_, ?_, ?_⟩
  · rw [slots]
    simp [other.symm]
  · exact settle_pass_isSome (s := tripped n s) (by exact works) (.inl rfl)
  · apply state_ext
    all_goals simp [t, tripped]

/-- A trip of the release slot that a swap in RELEASE_WAIT waits for (R153, R155). -/
theorem trips_release {s : State} {n d : Nat} {sl ds : Slot} {w : Swap} {e : Entry} (works : operates s = true)
    (place : s.slots[n]? = some sl) (closed : sl.cut = false) (active : s.seq.active = some w)
    (step : w.step = .releaseWait) (release : w.release = n) (entry : s.entry? w.rid = some e) (dock : w.dock = some d)
    (apart : d ≠ n) (accepted : s.slots[d]? = some ds) (role : sl.role = .held) (own : sl.rid = some w.rid) :
    ∃ t sl', exec (.thermalTrip n) s = .next t ∧ Substituted s t w e d ds sl ∧ t.slots[n]? = some sl' ∧
      sl'.cut = true ∧ sl'.setpoint = 0 ∧ t.setpointOutput n = 0 ∧ t.alw = s.alw ∧ t.sul = s.sul := by
  subst release
  let u := tripped w.release s
  have there : u.slots[w.release]? = some (sl.tripped s.sul.cfg) := by simp [u, tripped, modSlot, place]
  have others {m : Nat} (other : m ≠ w.release) : u.slots[m]? = s.slots[m]? := by
    simp [u, tripped, modSlot, other.symm]
  have unsound : sound u.sul.cfg e.packClass (sl.tripped s.sul.cfg) = false := by
    unfold sound
    split
    · rfl
    · simp [Slot.tripped, Slot.zeroed, Slot.refreshed]
  have unable : releasable u.sul.cfg e.packClass (sl.tripped s.sul.cfg) = false := by
    unfold releasable
    split
    · rfl
    · simp [unsound]
  have judged : rejudge w.release u = substitute w e u := by
    unfold rejudge
    rw [show u.seq.active = some w from active]
    dsimp only
    rw [if_pos ⟨step, rfl⟩, judgeWaiting_of_some (e' := e) (u := u) entry there, if_neg (by simp [unable]),
      if_neg (by simp [unsound])]
  have judges : Judges s u w e e d ds sl := by
    refine ⟨active, dock, apart, entry, rfl, rfl, ⟨ds, (others apart).trans accepted, rfl, rfl⟩, fun m _ => ?_,
      ⟨rfl, rfl, rfl, rfl⟩, fun _ => ⟨Option.isSome_of_eq_some entry, rfl, fun m y hy => ?_⟩,
      fun held => ⟨_, there, held, own⟩⟩
    · by_cases here : m = w.release
      · subst here
        refine .inr ⟨fun y hy h => ?_, fun y hy h => ?_⟩
        · cases there.symm.trans hy
          cases role.symm.trans h.1
        · cases place.symm.trans hy
          cases role.symm.trans h.1
      · exact .inl (others here)
    · by_cases here : m = w.release
      · subst here
        cases place.symm.trans hy
        exact ⟨_, there, rfl⟩
      · exact ⟨y, (others here).trans hy, rfl⟩
  have dark : DarkAt w.release (substitute w e u) :=
    (substitute_writes (svy := False) w e Writes.refl).darkAt ⟨_, there, rfl, rfl⟩
  obtain ⟨sl', place', cut, zero⟩ := dark
  have after : (settle (substitute w e u)).slots[w.release]? = some sl' := by
    rw [(settle_frame _).2.2.1]
    exact place'
  refine ⟨settle (substitute w e u), sl', ?_, substituted_of_judges judges (trails_settle _), after, cut, zero,
    setpointOutput_of_darkAt after cut, by simp [u, tripped], by simp [u, tripped]⟩
  exact (exec_thermalTrip works place closed).trans (congrArg (fun v => Host.Outcome.next (settle v)) judged)

end Sys2Proof.Machine
end


section
/-! PROOF. The survey step's end in the walk (O48). -/

namespace Sys2Proof.Machine

open Sys2Proof

/-! ### The event of a step's end -/

/-- The state in which the outcome of the step in progress is applied (R5). -/
def stepEnding (st : SurveyStep) (seen : Bool) (s : State) : State :=
  { s with svy.step := none, svy.link := linkSent st seen }

theorem exec_surveyStepEnd {s : State} {st : SurveyStep} (works : operates s = true) (step : s.svy.step = some st)
    (seen : Bool) (levels : List Bool) (hot : Bool) : exec (.surveyStepEnd seen levels hot) s =
      .next (settle (nextStep st (applyStep st seen levels hot (stepEnding st seen s)))) := by
  show execSurveyStepEnd seen levels hot s = _
  unfold execSurveyStepEnd
  rw [step]
  exact congrArg Host.Outcome.next (if_pos works)

/-- A step that begins at the end of an event stands. -/
theorem settle_beginStep (k : StepKind) (n : Nat) (x : State) : (settle (beginStep k n x)).svy =
    { x.svy with step := some ⟨n, k, readableAt n x, x.sul.cfg.window⟩ } ∧
    (settle (beginStep k n x)).slots = x.slots := by
  have svy := beginStep_svy k n x
  refine ⟨?_, by simp⟩
  rw [settle_svy_of_rest (.inl (by rw [svy]; rfl)), svy]

/-- What rests with a focus slot or goes on with it, at the end of the event. -/
theorem settle_betweenPasses (x : State) :
    (settle (betweenPasses x)).svy.gap = x.svy.gap ∧ (settle (betweenPasses x)).svy.focus = x.svy.focus ∧
    (settle (betweenPasses x)).slots = x.slots ∧
    (x.svy.focus = none → (settle (betweenPasses x)).svy.step = none) ∧
    ∀ f, x.svy.focus = some f →
      (settle (betweenPasses x)).svy.step = some ⟨f, .focus, readableAt f x, x.sul.cfg.window⟩ := by
  unfold betweenPasses
  cases focus : x.svy.focus with
  | none =>
    have svy : (settle { x with svy.step := none }).svy = { x.svy with step := none } :=
      settle_svy_of_rest (.inr (.inl focus))
    refine ⟨?_, ?_, by simp, fun _ => ?_, nofun⟩
    all_goals rw [Option.elim_none, svy]
    exact focus
  | some f =>
    obtain ⟨svy, slots⟩ := settle_beginStep .focus f x
    refine ⟨?_, ?_, slots, nofun, fun g same => ?_⟩
    · rw [Option.elim_some, svy]
    · rw [Option.elim_some, svy, focus]
    · cases same
      rw [Option.elim_some, svy]

theorem startGap_gap (s : State) :
    (startGap s).svy.gap = if s.sul.cfg.passGap = 0 then .due else .running s.sul.cfg.passGap := rfl

theorem reportPassEnd_sul (s : State) : (reportPassEnd s).sul = s.sul := by simp

theorem afterPass_done (n : Nat) (s : State) : (afterPass n s).svy.firstPassDone = s.svy.firstPassDone := by
  have regular (u : State) : (beginRegular u).svy.firstPassDone = u.svy.firstPassDone := by
    unfold beginRegular
    split
    · rw [beginStep_svy]
    · rfl
  unfold afterPass
  repeat' split
  · rw [beginStep_svy]
  · rfl
  · rw [beginStep_svy]
  · exact regular _

theorem settle_firstPassDone (s : State) : (settle s).svy.firstPassDone = s.svy.firstPassDone := by
  rw [settle_svy]
  unfold beginGapFocus
  repeat' split
  · rw [beginStep_svy]
  all_goals rfl

/-! ### The focus slot -/

theorem standsStill_of_reportPassEnd {s : State} (started : ∀ w, s.seq.active = some w → w.step ≠ .startingWait) :
    StandsStill s (reportPassEnd s) := by
  unfold reportPassEnd
  split
  · exact ⟨rfl, rfl⟩
  · rw [takeFirstPass_of_started (s := { s with svy.firstPassDone := true }) started]
    exact ⟨rfl, rfl⟩

section
variable {st : SurveyStep} {seen hot : Bool} {levels : List Bool} {sl : Slot} {s : State}
  (slot : s.slots[st.slot]? = some sl)
include slot

theorem standsStill_of_unwatched (h : Unwatched st.slot s) :
    StandsStill s (nextStep st (applyStep st seen levels hot s)) := by
  have applied : StandsStill s (applyStep st seen levels hot s) := by
    rw [applyStep_unwatched slot h]
    dsimp only
    split
    all_goals exact ⟨by simp, by simp⟩
  rcases nextStep_seq st (applyStep st seen levels hot s) with ⟨seq, focus⟩ | ⟨seq, focus⟩
  · exact ⟨(congrArg Seq.active seq).trans applied.1, focus.trans applied.2⟩
  · have reported := standsStill_of_reportPassEnd (s := applyStep st seen levels hot s)
      (fun w hw => (h w (applied.1 ▸ hw)).1)
    exact ⟨((congrArg Seq.active seq).trans reported.1).trans applied.1, (focus.trans reported.2).trans applied.2⟩

/-- The focus changes only with the swap (R8). -/
theorem focus_of_active (same : (nextStep st (applyStep st seen levels hot s)).seq.active = s.seq.active) :
    (nextStep st (applyStep st seen levels hot s)).svy.focus = s.svy.focus := by
  cases active : s.seq.active with
  | none =>
    have idle : Unwatched st.slot s := by
      intro w hw
      rw [active] at hw
      cases hw
    exact (standsStill_of_unwatched slot idle).2
  | some w =>
    rw [active] at same
    let u := applyStep st seen levels hot s
    have applied := standsStill_or_left_applyStep (seen := seen) (levels := levels) (hot := hot) slot active
    have reported : StandsStill s (reportPassEnd u) ∨ Left w (reportPassEnd u) := by
      unfold reportPassEnd
      split
      · exact applied.imp_right And.left
      · rcases applied with still | ⟨left, started⟩
        · refine (left_takeFirstPass (w := w) (u := { u with svy.firstPassDone := true })
            (still.1.trans active)).imp_left (fun h => ?_)
          exact ⟨h.1.trans still.1, h.2.trans still.2⟩
        · exact .inr (Left.takeFirstPass (u := { u with svy.firstPassDone := true }) left started)
    rcases nextStep_seq st u with ⟨seq, focus⟩ | ⟨seq, focus⟩
    · rcases applied with still | ⟨left, -⟩
      · exact focus.trans still.2
      · exact absurd ((congrArg Seq.active seq).symm.trans same) left.active_ne
    · rcases reported with still | left
      · exact focus.trans still.2
      · exact absurd ((congrArg Seq.active seq).symm.trans same) left.active_ne

theorem applyStep_slot : ∃ x, (applyStep st seen levels hot s).slots[st.slot]? = some x ∧ x.visited = sl.visited := by
  obtain ⟨-, -, -, -, -, visits, -⟩ := surveyed_fields (surveyed_applyStep (seen := seen) (levels := levels)
    (hot := hot) slot)
  have there := congrArg (fun l => l[st.slot]?) visits
  simp only [List.getElem?_map, slot, Option.map_some] at there
  exact Option.map_eq_some_iff.1 there

theorem visitedAt_applyStep : visitedAt st.slot (applyStep st seen levels hot s) = sl.visited := by
  obtain ⟨x, place, same⟩ := applyStep_slot (seen := seen) (levels := levels) (hot := hot) slot
  unfold visitedAt
  rw [show (applyStep st seen levels hot s).slot? st.slot = some x from place]
  exact same

end

/-! ### Assembly -/

/-- Settles O48: the trip by SEQ's wait, the gap's expiry, and the walk by the step's kind. -/
theorem thermalTripAndPassGap : Obligations.ThermalTripAndPassGap := by
  refine ⟨fun s n sl works place => ⟨trips_quietly works place, ?_, fun closed => ?_⟩, fun s n beyond => ?_,
    fun s ms n rest works gap steps => ⟨fun idle => ?_, fun busy => ?_⟩, ?_⟩
  · intro w e d ds closed active step release entry dock apart accepted role own
    exact trips_release works place closed active step release entry dock apart accepted role own
  · show execThermalTrip n s = _
    unfold execThermalTrip
    rw [show s.slot? n = some sl from place]
    exact congrArg Host.Outcome.next (if_neg (by simp [closed]))
  · show execThermalTrip n s = _
    unfold execThermalTrip
    rw [show s.slot? n = none from List.getElem?_eq_none beyond]
  · show execPassGapExpiry s = _
    unfold execPassGapExpiry
    rw [gap]
    simp only [works, idle, Option.isSome_none, if_true, Bool.false_eq_true, if_false]
    rw [beginSurveyPass_of_cons steps]
    rfl
  · show execPassGapExpiry s = _
    unfold execPassGapExpiry
    rw [gap]
    simp only [works, busy, if_true]
  · intro s st sl seen levels hot works step place
    let s₀ := stepEnding st seen s
    let u := applyStep st seen levels hot s₀
    let v := nextStep st u
    obtain ⟨-, next, gap, done, -, visits, passSeen⟩ := surveyed_fields (surveyed_applyStep (seen := seen) (levels := levels)
      (hot := hot) (s := s₀) place)
    have cfg : u.sul = s.sul := by simp [u, s₀, stepEnding]
    have old : visitedAt st.slot u = sl.visited := visitedAt_applyStep (s := s₀) place
    have seq : (settle v).seq = v.seq := by simp
    have focus : (settle v).svy.focus = v.svy.focus := settle_focus v
    refine ⟨settle v, exec_surveyStepEnd works step seen levels hot, fun unwatched => ?_, fun same => ?_, ?_⟩
    · have still := standsStill_of_unwatched (seen := seen) (levels := levels) (hot := hot) (s := s₀) place unwatched
      exact ⟨(congrArg Seq.active seq).trans still.1, focus.trans still.2⟩
    · exact focus.trans (focus_of_active (s := s₀) place ((congrArg Seq.active seq).symm.trans same))
    · intro begins other last passed
      have beginsAt {k : StepKind} {n : Nat} {x : State} (slots : (settle v).slots = x.slots) (sul : x.sul = s.sul)
          (h : (settle v).svy.step = some ⟨n, k, readableAt n x, x.sul.cfg.window⟩) : begins k n := by
        refine h.trans ?_
        rw [sul, readableAt, ← slots]
        cases (settle v).slots[n]? <;> rfl
      have begun {k : StepKind} {n : Nat} {x : State} (run : v = beginStep k n x) (sul : x.sul = s.sul) :
          begins k n ∧ (settle v).svy.next = x.svy.next ∧ (settle v).svy.gap = x.svy.gap := by
        obtain ⟨svy, slots⟩ := settle_beginStep k n x
        refine ⟨beginsAt (run ▸ slots) sul (by rw [run, svy]), ?_, ?_⟩
        all_goals rw [run, svy]
      have regular (h : passed) : v = afterRegular st.slot u :=
        nextStep_passed (h.imp_left (fun k => ⟨k.1, old.trans k.2⟩))
      have ended (h : passed) (k : last) : v = afterPass st.slot (startGap (reportPassEnd u)) :=
        (regular h).trans (afterRegular_last (by rw [cfg, next]; exact k))
      have more (k : ¬ last) : u.svy.next < u.sul.cfg.steps.length := by
        rw [cfg, next]
        exact not_le.1 k
      let r := startGap (reportPassEnd u)
      have cfg' : r.sul = s.sul := by simp [r, cfg]
      have focus' (h : passed) (k : last) : (settle v).svy.focus = r.svy.focus := by
        rw [focus, ended h k, afterPass_focus]
      have resting {x : State} (run : v = betweenPasses x) (sul : x.sul = s.sul) :
          (settle v).svy.gap = x.svy.gap ∧ ((settle v).svy.focus = none → (settle v).svy.step = none) ∧
          ∀ f, (settle v).svy.focus = some f → begins .focus f := by
        obtain ⟨gap, focus, slots, idle, goes⟩ := settle_betweenPasses x
        refine ⟨by rw [run, gap], fun h => ?_, fun f h => ?_⟩
        · rw [run] at h ⊢
          exact idle (focus.symm.trans h)
        · have set : x.svy.focus = some f := focus.symm.trans (by rw [← run]; exact h)
          exact beginsAt (x := x) (run ▸ slots) sul (run ▸ goes f set)
      refine ⟨fun kind new => ?_, fun n h at_n free => ?_, fun f h k set apart => ?_, fun h k => ?_, fun h k long => ?_,
        fun n rest h k none steps => ?_, fun n kind inPass at_n => ?_, fun n rest kind due steps => ?_,
        fun ms kind running => ?_⟩
      · -- the confirm step of a slot not visited before
        have run : v = beginStep .confirm st.slot (modSlot st.slot (fun sl => { sl with visited := true }) u) :=
          nextStep_confirm kind (old.trans new)
        obtain ⟨step', next', gap'⟩ := begun run cfg
        have slots : (settle v).slots = u.slots.modify st.slot (fun sl => { sl with visited := true }) := by
          rw [run]
          exact (settle_beginStep _ _ _).2
        obtain ⟨x, hx, -⟩ := applyStep_slot (seen := seen) (levels := levels) (hot := hot) (s := s₀) place
        exact ⟨step', next'.trans next, gap'.trans gap, { x with visited := true }, by rw [slots]; simp [u, hx], rfl⟩
      · -- the next regular step
        have notLast : ¬ last := fun k => by
          rw [List.getElem?_eq_none k] at at_n
          cases at_n
        have set : (settle v).svy.focus = u.svy.focus := by
          rw [focus, regular h, afterRegular_focus_of_more (more notLast)]
        have run : v = beginStep .regular n { u with svy.next := u.svy.next + 1 } := by
          rw [regular h, afterRegular_next (more notLast) (set ▸ free),
            beginRegular_of_some (by rw [cfg, next]; exact at_n)]
        obtain ⟨step', next', gap'⟩ := begun run cfg
        exact ⟨step', next'.trans (congrArg (· + 1) next), gap'.trans gap⟩
      · -- the focus step within a pass
        have run : v = beginStep .focus f u := by
          rw [regular h]
          refine afterRegular_focus (more k) ?_ apart
          rw [← set, focus, regular h, afterRegular_focus_of_more (more k)]
        obtain ⟨step', next', gap'⟩ := begun run cfg
        exact ⟨step', next'.trans next, gap'.trans gap⟩
      · -- the pass ends, and is reported
        obtain ⟨-, -, -, done', -, seen'⟩ := reportPassEnd_fields u
        rw [done, passSeen] at seen'
        refine ⟨?_, ?_⟩
        · rw [settle_firstPassDone, ended h k, afterPass_done]
          exact done'
        · rw [seq, ended h k]
          simp [startGap, seen', s₀, stepEnding]
      · -- the pass gap runs
        have gap' : r.svy.gap = .running s.sul.cfg.passGap := by
          rw [startGap_gap, reportPassEnd_sul, cfg, if_neg (Nat.pos_iff_ne_zero.1 long)]
        have rests := resting ((ended h k).trans (afterPass_running gap')) cfg'
        exact ⟨rests.1.trans gap', rests.2⟩
      · -- without a gap the next pass is due at once
        have gap' : r.svy.gap = .due := by
          rw [startGap_gap, reportPassEnd_sul, cfg, if_pos none]
        refine ⟨fun free => ?_, fun f set apart => ?_⟩
        · have run : v = beginStep .regular n { r with svy.next := 1, svy.gap := .inPass } := by
            rw [ended h k, afterPass_due gap' (focus' h k ▸ free), beginSurveyPass_of_cons (by rw [cfg']; exact steps)]
          obtain ⟨step', next', gap''⟩ := begun run cfg'
          exact ⟨step', next', gap''⟩
        · have run : v = beginStep .focus f r :=
            (ended h k).trans (afterPass_due_focus gap' ((focus' h k).symm.trans set) apart)
          obtain ⟨step', -, gap''⟩ := begun run cfg'
          exact ⟨step', gap''.trans gap'⟩
      · -- a focus step within the pass ends
        have run : v = beginStep .regular n { u with svy.next := u.svy.next + 1 } := by
          rw [show v = afterFocus u from nextStep_focus kind, afterFocus_inPass (gap.trans inPass),
            beginRegular_of_some (by rw [cfg, next]; exact at_n)]
        obtain ⟨step', next', gap'⟩ := begun run cfg
        exact ⟨step', next'.trans (congrArg (· + 1) next), gap'.trans (gap.trans inPass)⟩
      · -- a focus step ends with the next pass due
        have run : v = beginStep .regular n { u with svy.next := 1, svy.gap := .inPass } := by
          rw [show v = afterFocus u from nextStep_focus kind, afterFocus_due (gap.trans due),
            beginSurveyPass_of_cons (by rw [cfg]; exact steps)]
        obtain ⟨step', next', gap'⟩ := begun run cfg
        exact ⟨step', next', gap'⟩
      · -- a focus step of the gap ends
        have gap' := gap.trans running
        have rests := resting ((nextStep_focus kind).trans (afterFocus_running gap')) cfg
        exact ⟨rests.1.trans gap', rests.2⟩

end Sys2Proof.Machine
end


section
/-! PROOF. The step timers of a swap (O46; R148, R150, R151, R154, R155, R157). -/

namespace Sys2Proof.Machine

open Sys2Proof

/-! ### Sound and releasable slots, and the CLOSE (9.4, 3.5) -/

theorem sound_iff {cfg : Cfg} {k : PackClass} {sl : Slot} : sound cfg k sl = true ↔ ∃ p, sl.pack = some p ∧
    sl.cond = .occupied ∧ p.ok = true ∧ sl.cut = false ∧ p.cls = k ∧ (cfg.figures k).minSoh ≤ p.soh := by
  unfold sound
  cases sl.pack with
  | none => simp
  | some p => simp [and_assoc]

theorem releasable_iff {cfg : Cfg} {k : PackClass} {sl : Slot} : releasable cfg k sl = true ↔
    sound cfg k sl = true ∧ ∃ p, sl.pack = some p ∧ (cfg.figures k).release ≤ p.soc := by
  unfold releasable
  cases sl.pack with
  | none => simp
  | some p => simp

/-! ### The timers' expiries -/

section
variable {s : State} {w : Swap} {ms : Nat} (works : operates s = true) (active : s.seq.active = some w)
include works active

theorem exec_returnTimerExpiry (step : w.step = .returnOpen) (timer : s.seq.timer = some (.ret, ms)) :
    exec .returnTimerExpiry s = .next (settle (endSwap .aborted (some .returnTimeout) .aborted w
      (freeRelease w (closeDock w { s with seq.timer := none })))) := by
  show execReturnTimerExpiry s = _
  simp [execReturnTimerExpiry, core_of_operates works, timerRuns, timer, swapIn_eq_some_iff.2 ⟨active, step⟩]

theorem exec_checkTimerExpiry {d : Nat} (step : w.step = .returnCheck) (timer : s.seq.timer = some (.check, ms))
    (dock : w.dock = some d) : exec .checkTimerExpiry s = .next (settle
      (if emptyAt d s then endReject w (openReject d { s with seq.timer := none })
        else openReject d { s with seq.timer := none })) := by
  show execCheckTimerExpiry s = _
  simp [execCheckTimerExpiry, core_of_operates works, timerRuns, timer, swapIn_eq_some_iff.2 ⟨active, step⟩, dock]

theorem exec_removalTimerExpiry_rejected {d : Nat} (step : w.step = .rejectOut)
    (timer : s.seq.timer = some (.removal, ms)) (dock : w.dock = some d) :
    exec .removalTimerExpiry s = .next (settle (endSwap .aborted (some .returnRejected) .aborted w (freeRelease w
      (setRole d .free none (abandonSlot d (setLatch d false { s with seq.timer := none })))))) := by
  show execRemovalTimerExpiry s = _
  simp [execRemovalTimerExpiry, core_of_operates works, timerRuns, timer, swapIn_eq_some_iff.2 ⟨active, step⟩, dock]

theorem exec_removalTimerExpiry_given {r : AbortReason} (step : w.step = .giveBack)
    (timer : s.seq.timer = some (.removal, ms)) (abort : w.abort = some r) :
    exec .removalTimerExpiry s = .next (settle (endGiveBack r w (closeDock w { s with seq.timer := none }))) := by
  have other : s.swapIn .rejectOut = none := by simp [State.swapIn, active, step]
  show execRemovalTimerExpiry s = _
  simp [execRemovalTimerExpiry, core_of_operates works, timerRuns, timer, other,
    swapIn_eq_some_iff.2 ⟨active, step⟩, abort]

theorem exec_waitTimerExpiry (step : w.step = .releaseWait) (timer : s.seq.timer = some (.wait, ms)) :
    exec .waitTimerExpiry s = .next (settle (giveBack .releaseWaitExceeded w { s with seq.timer := none })) := by
  show execWaitTimerExpiry s = _
  simp [execWaitTimerExpiry, core_of_operates works, timerRuns, timer, swapIn_eq_some_iff.2 ⟨active, step⟩]

theorem exec_collectTimerExpiry (step : w.step = .releaseOpen) (timer : s.seq.timer = some (.collect, ms)) :
    exec .collectTimerExpiry s = .next (settle (endSwap .uncollected none .done w
      (setRole w.release .free none (setLatch w.release false { s with seq.timer := none })))) := by
  show execCollectTimerExpiry s = _
  simp [execCollectTimerExpiry, core_of_operates works, timerRuns, timer, swapIn_eq_some_iff.2 ⟨active, step⟩]

end

/-! ### An ending at the end of its event -/

/-- `u` is what the latch and role writes of an ending step make of `s` (R148, R151, R154, R157). -/
structure EndingOf (s u : State) : Prop where
  seq : u.seq = { s.seq with timer := none }
  ofe : u.ofe = s.ofe
  sul : u.sul = s.sul
  lif : u.lif = s.lif
  rhs : u.rhs = s.rhs
  alw : u.alw = s.alw
  counters : u.counters = s.counters

theorem EndingOf.course {s u : State} (h : EndingOf s u) : InCourse s u :=
  ⟨h.sul, h.lif, by rw [h.seq], congrArg Rhs.seconds h.rhs⟩

section
variable {s u : State} {o : Outcome} {a : Option AbortReason} {after : EntryAfter} {w : Swap} {e : Entry}
  (ending : EndingOf s u) (entry : s.entry? w.rid = some e)
include ending entry

theorem entry?_of_ending : (u.entry? w.rid).isSome = true := by
  rw [entry?_congr (congrArg Ofe.book ending.ofe), entry]
  rfl

/-- With nothing in the serve queue the swap has ended. -/
theorem ends_alone (rest : s.seq.queue = []) :
    SwapEnded s (settle (endSwap o a after w u)) w o a after.state ∧
    (settle (endSwap o a after w u)).seq = { s.seq with active := none, timer := none } ∧
    (settle (endSwap o a after w u)).slots = u.slots ∧ (settle (endSwap o a after w u)).alw = s.alw ∧
    (settle (endSwap o a after w u)).sul = s.sul := by
  have queue : u.seq.queue = [] := ending.course.queue.trans rest
  refine ⟨swapEnded_endSwap queue (entry?_of_ending ending entry) ending.course ending.counters (trails_settle _), ?_, ?_,
    ?_, ?_⟩
  all_goals rw [endSwap_of_none queue]
  · simp [ending.seq]
  · simp
  · simp [ending.alw]
  · simp [ending.sul]

/-- With requests in the serve queue SEQ looks at it after the swap's end. -/
theorem ends_before_queue (unique : RequestIdsUnique s) (absent : w.rid ∉ s.seq.queue) :
    (∃ e', (settle (endSwap o a after w u)).entry? w.rid = some e' ∧ e'.state = after.state) ∧
    QueueLookedAt s (settle (endSwap o a after w u)) { s.seq with active := none, timer := none } u.slots ∧
    (settle (endSwap o a after w u)).alw = s.alw ∧ (settle (endSwap o a after w u)).sul = s.sul := by
  let v := swapEnding o a after w u
  have seq : v.seq = { s.seq with active := none, timer := none } := by
    rw [swapEnding_seq, ending.seq]
  have same {r : ReqId} (apart : r ≠ w.rid) : v.entry? r = s.entry? r :=
    (entry?_swapEnding_other o a after w u apart).trans (entry?_congr (congrArg Ofe.book ending.ofe) r)
  have outside : w.rid ∉ v.seq.queue := by
    rw [seq]
    exact absent
  obtain ⟨others, quiet, -⟩ := queueLeaves_lookAtQueue v
  rw [endSwap_eq]
  refine ⟨⟨after.rewrite u.rhs.seconds (inMinutes u.rhs.seconds u.sul.cfg.holdGrace) e, ?_, state_rewrite after _ _ _⟩,
    ?_, by simp [ending.alw], by simp [ending.sul]⟩
  · rw [entry?_settle (quiet w.rid outside (notHeard_swapEnding o a after w u)), others w.rid outside]
    rw [entry?_swapEnding, entry?_congr (congrArg Ofe.book ending.ofe), entry]
    rfl
  · refine queueLookedAt_settle seq rfl (swapEnding_frame o a after w u).2.1 ?_ ?_ (fun r mem => ?_)
      (fun r mem e₁ entry₁ serving => ?_)
    · rw [swapEnding_seconds, ending.rhs]
    · rw [(swapEnding_frame o a after w u).2.2.2.1, ending.sul]
    · exact same (fun h => absent (h ▸ mem))
    · exact notHeard_swapEnding_other o a after w u
        (notHeard_congr (congrArg Ofe.book ending.ofe) (serving_notHeard unique entry₁ serving))

end

/-! ### The writes of the ending steps -/

section
variable {s : State} {w : Swap} {d : Nat} {ds rs : Slot} (dock : w.dock = some d) (apart : d ≠ w.release)
  (accepted : s.slots[d]? = some ds) (place : s.slots[w.release]? = some rs)

theorem endingOf_closeDock (w : Swap) (s : State) : EndingOf s (closeDock w { s with seq.timer := none }) := by
  constructor <;> simp

theorem endingOf_freeRelease {u : State} (h : EndingOf s u) (w : Swap) : EndingOf s (freeRelease w u) := by
  obtain ⟨seq, ofe, sul, lif, rhs, alw, counters⟩ := h
  constructor <;> simp [*]

theorem endingOf_lockRelease (n : Nat) (s : State) :
    EndingOf s (setRole n .free none (setLatch n false { s with seq.timer := none })) := by
  constructor <;> simp

include dock accepted in
theorem closeDock_slot : (closeDock w { s with seq.timer := none }).slots[d]? =
    some { ds with role := .free, rid := none, unlocked := false } := by
  rw [closeDock_eq dock]
  simp [accepted]

include apart in
theorem freeRelease_slot (u : State) : (freeRelease w u).slots[d]? = u.slots[d]? := freeRole_other _ _ u apart

/-- The abandoned pack's dock, as the removal timer of REJECT_OUT leaves it (R16, R151). -/
def Slot.abandoned (cfg : Cfg) (x : Slot) : Slot :=
  { Slot.afterSurvey cfg { x with unlocked := false, cond := .fault, reason := some .rejectAbandoned, pack := none } with
    role := .free, rid := none }

/-- The dock faulted, locked and FREE (R151). -/
def dockAbandoned (d : Nat) (s : State) : State :=
  setRole d .free none (abandonSlot d (setLatch d false { s with seq.timer := none }))

theorem endingOf_dockAbandoned (d : Nat) (s : State) : EndingOf s (dockAbandoned d s) := by
  unfold dockAbandoned abandonSlot
  constructor <;> simp

theorem dockAbandoned_slots (d : Nat) (s : State) :
    (dockAbandoned d s).slots = s.slots.modify d (Slot.abandoned s.sul.cfg) := by
  unfold dockAbandoned abandonSlot
  rw [setRole_free_slots]
  simp only [setReplan_slots, modSlot, setLatch, List.modify_modify_eq]
  rfl

end

theorem faultLamp_of_fault {s t : State} {n : Nat} {sl : Slot} (works : operates s = true) (core : t.core = s.core)
    (sul : t.sul = s.sul) (place : t.slots[n]? = some sl) (fault : sl.cond = .fault) : t.faultLamp = true := by
  have shown : t.slots.any (fun x => decide (x.cond = .fault)) = true :=
    List.any_eq_true.2 ⟨sl, List.mem_of_getElem? place, by simp [fault]⟩
  have running : lifRuns t = true := by
    have core' := core_of_operates works
    unfold lifRuns
    rw [core, sul, core']
    unfold operates at works
    cases state : s.sul.state <;> simp_all [StationState.operating]
  unfold State.faultLamp
  rw [running, shown]
  rfl

/-! ### Each timer, with nothing in the serve queue -/

section
variable {s : State} {w : Swap} {e : Entry} {ms d : Nat} {ds rs : Slot} (works : operates s = true)
  (rest : s.seq.queue = []) (active : s.seq.active = some w) (entry : s.entry? w.rid = some e) (dock : w.dock = some d)
  (apart : d ≠ w.release) (accepted : s.slots[d]? = some ds) (place : s.slots[w.release]? = some rs)
include works active dock accepted

theorem checkTimer_rejects (step : w.step = .returnCheck) (timer : s.seq.timer = some (.check, ms))
    (full : ds.cond ≠ .empty) : ∃ t, exec .checkTimerExpiry s = .next t ∧
      t.seq = { s.seq with active := some { w with step := .rejectOut, resume := none },
                           timer := some (.removal, 60000) } ∧
      t.slots = s.slots.modify d (fun x => { x with unlocked := true }) ∧ t.svy.focus = some d ∧
      t.rhs = { s.rhs with progress := some ⟨w.rid, .rejectOut, d, w.release, w.returned⟩ } ∧ t.lif = s.lif ∧
      t.alw = s.alw ∧ t.sul = s.sul ∧ t.counters = s.counters := by
  have kept : emptyAt d s = false := by
    unfold emptyAt
    rw [show s.slot? d = some ds from accepted]
    simp [full]
  have run := exec_checkTimerExpiry works active step timer dock
  rw [kept, if_neg (by simp), openReject_eq (u := { s with seq.timer := none }) active dock] at run
  refine ⟨_, run, ?_⟩
  simp [settle_focus]

include rest entry in
theorem checkTimer_ends (step : w.step = .returnCheck) (timer : s.seq.timer = some (.check, ms))
    (empty : ds.cond = .empty) : ∃ t, exec .checkTimerExpiry s = .next t ∧
      SwapEnded s t w .aborted (some .returnRejected) .held ∧ LockedFree t d := by
  have bare : emptyAt d s = true := by
    unfold emptyAt
    rw [show s.slot? d = some ds from accepted]
    simp [empty]
  have run := exec_checkTimerExpiry works active step timer dock
  let v := openReject d { s with seq.timer := none }
  have opened : v = _ := openReject_eq (u := { s with seq.timer := none }) active dock
  rw [bare, if_pos rfl] at run
  let u := closeDock w { v with seq.timer := none }
  have queue : u.seq.queue = [] := by simpa [u, opened] using rest
  have there : u.slots[d]? = some { ds with role := .free, rid := none, unlocked := false } := by
    refine (closeDock_slot (s := v) (ds := { ds with unlocked := true }) dock ?_).trans rfl
    rw [opened]
    simp [accepted]
  refine ⟨_, run, swapEnded_endSwap (after := .held) (u := u) queue ?_ ⟨?_, ?_, ?_, ?_⟩ ?_ (trails_settle _), ?_⟩
  · rw [entry?_congr (s := s) (by simp [u, opened]), entry]
    rfl
  · simp [u, opened]
  · simp [u, opened]
  · simp [u, opened]
  · simp [u, opened]
  · simp [u, opened]
  · refine ⟨{ ds with role := .free, rid := none, unlocked := false }, ?_, rfl, rfl, rfl⟩
    rw [(settle_frame _).2.2.1, endReject, endSwap_of_none queue, (swapEnding_frame _ _ _ _ _).2.1]
    exact there

include rest entry apart place in
theorem removalTimer_abandons (step : w.step = .rejectOut) (timer : s.seq.timer = some (.removal, ms))
    (role : rs.role = .held) (own : rs.rid = some w.rid) : ∃ t ds' e', exec .removalTimerExpiry s = .next t ∧
      t.seq = { s.seq with active := none, timer := none } ∧ t.slots[d]? = some ds' ∧
      ds'.cond = .fault ∧ ds'.reason = some .rejectAbandoned ∧ ds'.pack = none ∧ ds'.setpoint = 0 ∧
      ds'.unlocked = false ∧ ds'.role = .free ∧ ds'.rid = none ∧
      t.slots[w.release]? = some { rs with role := .free, rid := none } ∧
      (∀ m, m ≠ d → m ≠ w.release → t.slots[m]? = s.slots[m]?) ∧ t.rhs.progress = none ∧
      t.entry? w.rid = some e' ∧ e'.state = .aborted ∧ t.faultLamp = true ∧ t.alw = s.alw ∧ t.sul = s.sul := by
  let u := freeRelease w (dockAbandoned d s)
  have kept : (dockAbandoned d s).slots[w.release]? = some rs := by
    rw [dockAbandoned_slots]
    simp [apart, place]
  have slots : u.slots = (s.slots.modify d (Slot.abandoned s.sul.cfg)).modify w.release
      (fun x => { x with role := .free, rid := none }) := by
    rw [show u = _ from freeRelease_of_held kept role own, ← dockAbandoned_slots]
  obtain ⟨ended, seq, slots', alw, sul⟩ := ends_alone (o := .aborted) (a := some .returnRejected) (after := .aborted)
    (endingOf_freeRelease (endingOf_dockAbandoned d s) w) entry rest
  obtain ⟨-, -, progress, -, ⟨e', found, state, -⟩, -⟩ := ended
  have there : u.slots[d]? = some (ds.abandoned s.sul.cfg) := by
    rw [slots]
    simp [accepted, apart.symm]
  refine ⟨_, _, e', exec_removalTimerExpiry_rejected works active step timer dock, seq, (congrArg (·[d]?) slots').trans there,
    rfl, rfl, rfl, rfl, rfl, rfl, rfl, ?_, fun m here there' => ?_, progress, found, state, ?_, alw, sul⟩
  · refine (congrArg (·[w.release]?) slots').trans ?_
    rw [show (freeRelease w (dockAbandoned d s)).slots = _ from slots]
    simp [place, apart]
  · refine (congrArg (·[m]?) slots').trans ?_
    rw [show (freeRelease w (dockAbandoned d s)).slots = _ from slots]
    simp [here.symm, there'.symm]
  · exact faultLamp_of_fault works (by simp) sul ((congrArg (·[d]?) slots').trans there) rfl

end

end Sys2Proof.Machine
end


section
/-! PROOF. The record a visit leaves, and the rest of the event after a survey step (1.4). -/

namespace Sys2Proof.Machine

open Sys2Proof

/-! ### The parts of a visit that follow the condition machine (R6, R20, R91, R93) -/

/-- The presence field, the cut and PLN's part of a visit's write. -/
def Slot.finished (cfg : Cfg) (seen hot exchanged : Bool) (o : ReadOutcome) (x : Slot) : Slot :=
  ((x.presence seen).cooled cfg hot exchanged o).afterSurvey cfg

theorem afterSurvey_eq (cfg : Cfg) (x : Slot) : ∃ r, x.afterSurvey cfg =
    { x with setpoint := if x.cond = .occupied then x.setpoint else 0, ready := r } := by
  refine ⟨(x.afterSurvey cfg).ready, ?_⟩
  by_cases h : x.cond = .occupied
  · simp [Slot.afterSurvey, Slot.refreshed, h]
  · simp [Slot.afterSurvey, Slot.zeroed, Slot.refreshed, h]

theorem afterSurvey_ready (cfg : Cfg) (x : Slot) : (x.afterSurvey cfg).ready = (x.afterSurvey cfg).readyNow cfg := by
  unfold Slot.afterSurvey
  split <;> rfl

theorem cooled_eq (cfg : Cfg) (hot exchanged : Bool) (o : ReadOutcome) (x : Slot) :
    ∃ c, x.cooled cfg hot exchanged o = { x with cut := c } := by
  unfold Slot.cooled
  split
  · exact ⟨_, rfl⟩
  · exact ⟨x.cut, rfl⟩

/-- What the end of a visit's write keeps of the condition machine's record. -/
theorem finished_eq (cfg : Cfg) (seen hot exchanged : Bool) (o : ReadOutcome) (x : Slot) : ∃ c r,
    x.finished cfg seen hot exchanged o = { x with
      present := (x.presence seen).present, cut := c, ready := r
      setpoint := if x.cond = .occupied then x.setpoint else 0 } := by
  obtain ⟨c, hc⟩ := cooled_eq cfg hot exchanged o (x.presence seen)
  obtain ⟨r, hr⟩ := afterSurvey_eq cfg { x.presence seen with cut := c }
  exact ⟨c, r, by rw [Slot.finished, hc, hr]; rfl⟩

theorem finished_cut (cfg : Cfg) (seen hot exchanged : Bool) (o : ReadOutcome) (x : Slot) :
    (x.finished cfg seen hot exchanged o).cut = ((x.presence seen).cooled cfg hot exchanged o).cut := by
  obtain ⟨r, hr⟩ := afterSurvey_eq cfg ((x.presence seen).cooled cfg hot exchanged o)
  rw [Slot.finished, hr]

/-- A cut that is clear stays clear in a visit. -/
theorem finished_cut_of_clear {cfg : Cfg} {seen hot exchanged : Bool} {o : ReadOutcome} {x : Slot} (clear : x.cut = false) :
    (x.finished cfg seen hot exchanged o).cut = false := by
  rw [finished_cut]
  unfold Slot.cooled
  split
  · rfl
  · exact clear

theorem visit_slot_finished (cfg : Cfg) (d : Bool) (now : Word) (seen hot : Bool) (o : ReadOutcome) (sl : Slot) :
    (visit cfg d now seen hot o sl).slot = (visited d now seen o sl).slot.finished cfg seen hot
      (visited d now seen o sl).exchanged o := rfl

theorem visit_report (cfg : Cfg) (d : Bool) (now : Word) (seen hot : Bool) (o : ReadOutcome) (sl : Slot) :
    (visit cfg d now seen hot o sl).report = (visited d now seen o sl).report := rfl

/-- The fields a visit leaves to SEQ and PLN (R2, R6). -/
theorem visit_keeps (cfg : Cfg) (d : Bool) (now : Word) (seen hot : Bool) (o : ReadOutcome) (sl : Slot) :
    (visit cfg d now seen hot o sl).slot.role = sl.role ∧ (visit cfg d now seen hot o sl).slot.rid = sl.rid ∧
    (visit cfg d now seen hot o sl).slot.unlocked = sl.unlocked := by
  obtain ⟨c, r, finished⟩ := finished_eq cfg seen hot (visited d now seen o sl).exchanged o (visited d now seen o sl).slot
  have kept := visited_kept d now seen o sl
  simp only [Slot.kept, Prod.mk.injEq] at kept
  obtain ⟨role, rid, unlocked, -⟩ := kept
  rw [visit_slot_finished, finished]
  exact ⟨role, rid, unlocked⟩

/-! ### Visits by the condition of the slot -/

section
variable {d : Bool} {now : Word} {o : ReadOutcome} {sl : Slot}

theorem visited_empty_seen (cond : sl.cond = .empty) : visited d now true o sl =
    ⟨{ sl with absentCount := 0, doorClear := sl.doorClear || !d, cond := .settling, presentCount := 1 },
      some ⟨.settling, .settling, none, none⟩, false⟩ := by
  simp [visited, visitSeen, cond]

/-- A record that SETTLING reads is reported as an insertion (R12). -/
theorem visited_settling_read {p : Pack} (cond : sl.cond = .settling) (read : o = .valid p) :
    (visited d now true o sl).exchanged = false ∧
    (p.ok = true → (visited d now true o sl).slot.cond = .occupied ∧ (visited d now true o sl).slot.pack = some p ∧
      (visited d now true o sl).slot.goodAt = now ∧
      (visited d now true o sl).report = some ⟨.insertion, .occupied, none, some p⟩) ∧
    (p.ok = false → (visited d now true o sl).slot.cond = .fault ∧
      (visited d now true o sl).slot.reason = some .packFault ∧ (visited d now true o sl).slot.pack = none ∧
      (visited d now true o sl).report = some ⟨.insertion, .fault, some .packFault, some p⟩) := by
  subst read
  have run : visited d now true (.valid p) sl = takePack .insertion .insertion p now
      { sl with absentCount := 0, doorClear := sl.doorClear || !d, presentCount := min 3 (sl.presentCount + 1) } := by
    simp [visited, visitSeen, visitSettling, cond]
  rw [run]
  unfold takePack
  cases ok : p.ok with
  | true => exact ⟨rfl, fun _ => ⟨rfl, rfl, rfl, rfl⟩, nofun⟩
  | false => exact ⟨rfl, nofun, fun _ => ⟨rfl, rfl, rfl, rfl⟩⟩

/-- Without a record SETTLING goes on, and the third visit makes the slot UNREADABLE (R12). -/
theorem visited_settling_unread (cond : sl.cond = .settling) (unread : ∀ p, o ≠ .valid p) :
    (2 ≤ sl.presentCount → (visited d now true o sl).slot.cond = .unreadable ∧
      (visited d now true o sl).slot.presentCount = 3 ∧
      (visited d now true o sl).report = some ⟨.insertion, .unreadable, none, none⟩ ∧
      (visited d now true o sl).exchanged = false) ∧
    (sl.presentCount < 2 → (visited d now true o sl).slot.cond = .settling ∧
      (visited d now true o sl).slot.presentCount = sl.presentCount + 1 ∧ (visited d now true o sl).report = none ∧
      (visited d now true o sl).exchanged = false) := by
  let x : Slot := { sl with
    cond := .settling
    absentCount := 0
    doorClear := sl.doorClear || !d
    presentCount := min 3 (sl.presentCount + 1) }
  have run : visited d now true o sl =
      if 3 ≤ sl.presentCount + 1 then ⟨{ x with cond := .unreadable }, some ⟨.insertion, .unreadable, none, none⟩, false⟩
      else ⟨x, none, false⟩ := by
    unfold visited visitSeen
    rw [if_pos rfl, cond]
    cases o with
    | valid p => exact absurd rfl (unread p)
    | _ => rfl
  rw [run]
  refine ⟨fun h => ?_, fun h => ?_⟩
  · rw [if_pos (by omega)]
    exact ⟨rfl, by simp [x]; omega, rfl, rfl⟩
  · rw [if_neg (by omega)]
    exact ⟨rfl, by simp [x]; omega, rfl, rfl⟩

/-- A visit of an OCCUPIED slot that sees presence is one of its pack (R13). -/
theorem visited_occupied (cond : sl.cond = .occupied) : visited d now true o sl =
    visitOccupied now o { sl with absentCount := 0, doorClear := sl.doorClear || !d } := by
  unfold visited visitSeen
  rw [if_pos rfl, cond]

/-- The known pack read again (R13). -/
theorem visited_occupied_same {p q : Pack} (cond : sl.cond = .occupied) (read : o = .valid p) (pack : sl.pack = some q)
    (same : q.id = p.id) :
    (visited d now true o sl).exchanged = false ∧
    (p.ok = true → (visited d now true o sl).slot.cond = .occupied ∧ (visited d now true o sl).slot.pack = some p ∧
      (visited d now true o sl).slot.goodAt = now ∧ (visited d now true o sl).report = none) ∧
    (p.ok = false → (visited d now true o sl).slot.cond = .fault ∧
      (visited d now true o sl).slot.reason = some .packFault ∧ (visited d now true o sl).slot.pack = none) := by
  subst read
  rw [visited_occupied cond]
  unfold visitOccupied
  dsimp only
  rw [if_pos (show sl.pack.map (fun q => q.id) = some p.id by rw [pack]; exact congrArg some same)]
  cases ok : p.ok with
  | true => exact ⟨rfl, fun _ => ⟨rfl, rfl, rfl, rfl⟩, nofun⟩
  | false => exact ⟨rfl, nofun, fun _ => ⟨rfl, rfl, rfl⟩⟩

/-- Another pack read: the removal of the first is confirmed (R13, R14). -/
theorem visited_occupied_other {p q : Pack} (cond : sl.cond = .occupied) (read : o = .valid p) (pack : sl.pack = some q)
    (other : q.id ≠ p.id) : visited d now true o sl =
      confirmRemoval true { sl with absentCount := 0, doorClear := sl.doorClear || !d } := by
  subst read
  rw [visited_occupied cond]
  unfold visitOccupied
  dsimp only
  rw [if_neg (show ¬ sl.pack.map (fun q => q.id) = some p.id by rw [pack]; simpa using other)]

/-- No record read of the pack: the slot is FAULT after 30 s (R13). -/
theorem visited_occupied_unread (cond : sl.cond = .occupied) (unread : ∀ p, o ≠ .valid p) :
    (visited d now true o sl).exchanged = false ∧
    (30 ≤ ageOf now sl.goodAt → (visited d now true o sl).slot.cond = .fault ∧
      (visited d now true o sl).slot.reason = some .unreadableTimeout ∧ (visited d now true o sl).slot.pack = none) ∧
    (¬ 30 ≤ ageOf now sl.goodAt → (visited d now true o sl).slot.cond = .occupied ∧
      (visited d now true o sl).slot.pack = sl.pack ∧ (visited d now true o sl).slot.goodAt = sl.goodAt ∧
      (visited d now true o sl).slot.absentCount = 0) := by
  let x : Slot := { sl with absentCount := 0, doorClear := sl.doorClear || !d }
  have run : visited d now true o sl = if 30 ≤ ageOf now sl.goodAt then
      ⟨x.faulted .unreadableTimeout, some ⟨.fault, .fault, some .unreadableTimeout, none⟩, false⟩
      else ⟨x, none, false⟩ := by
    rw [visited_occupied cond]
    cases o with
    | valid p => exact absurd rfl (unread p)
    | _ => rfl
  rw [run]
  by_cases late : 30 ≤ ageOf now sl.goodAt
  · rw [if_pos late]
    exact ⟨rfl, fun _ => ⟨rfl, rfl, rfl⟩, fun h => absurd late h⟩
  · rw [if_neg late]
    exact ⟨rfl, fun h => absurd h late, fun _ => ⟨cond, rfl, rfl, rfl⟩⟩

/-- A record read where none was (R15). -/
theorem visited_unreadable_read {p : Pack} (cond : sl.cond = .unreadable) (read : o = .valid p) :
    (visited d now true o sl).exchanged = false ∧
    (p.ok = true → (visited d now true o sl).slot.cond = .occupied ∧ (visited d now true o sl).slot.pack = some p ∧
      (visited d now true o sl).slot.goodAt = now) ∧
    (p.ok = false → (visited d now true o sl).slot.cond = .fault ∧
      (visited d now true o sl).slot.reason = some .packFault ∧ (visited d now true o sl).slot.pack = none) := by
  subst read
  have run : visited d now true (.valid p) sl = takePack .condition .fault p now
      { sl with absentCount := 0, doorClear := sl.doorClear || !d } := by
    simp [visited, visitSeen, cond]
  rw [run]
  unfold takePack
  cases ok : p.ok with
  | true => exact ⟨rfl, fun _ => ⟨rfl, rfl, rfl⟩, nofun⟩
  | false => exact ⟨rfl, nofun, fun _ => ⟨rfl, rfl, rfl⟩⟩

theorem visited_unreadable_unread (cond : sl.cond = .unreadable) (unread : ∀ p, o ≠ .valid p) :
    visited d now true o sl =
      ⟨{ sl with cond := .unreadable, absentCount := 0, doorClear := sl.doorClear || !d }, none, false⟩ := by
  unfold visited visitSeen
  rw [if_pos rfl, cond]
  cases o with
  | valid p => exact absurd rfl (unread p)
  | _ => rfl

theorem visited_fault_seen (cond : sl.cond = .fault) :
    visited d now true o sl =
      ⟨{ sl with cond := .fault, absentCount := 0, doorClear := sl.doorClear || !d }, none, false⟩ := by
  unfold visited visitSeen
  rw [if_pos rfl, cond]

/-! #### Visits that see no presence -/

theorem visited_empty_absent (cond : sl.cond = .empty) : visited d now false o sl =
    ⟨{ sl with cond := .empty, absentCount := min 2 (sl.absentCount + 1), presentCount := 0 }, none, false⟩ := by
  unfold visited visitAbsent
  rw [if_neg (by simp), cond]

theorem visited_settling_absent (cond : sl.cond = .settling) : visited d now false o sl =
    ⟨{ sl with cond := .empty, presentCount := 0, absentCount := 1 }, none, false⟩ := by
  unfold visited visitAbsent
  rw [if_neg (by simp), cond]

/-- The first absent visit of a slot that holds or held a pack is counted only (R14, R15, R16). -/
theorem visited_absent_first (cond : sl.cond = .occupied ∨ sl.cond = .unreadable ∨ sl.cond = .fault)
    (first : sl.absentCount = 0) : visited d now false o sl = ⟨{ sl with absentCount := 1 }, none, false⟩ := by
  unfold visited visitAbsent
  rw [if_neg (by simp)]
  rcases cond with h | h | h <;> simp [h, first]

theorem visited_occupied_removed (cond : sl.cond = .occupied) (again : 1 ≤ sl.absentCount) :
    visited d now false o sl = confirmRemoval false { sl with absentCount := 2 } := by
  have two : min 2 (sl.absentCount + 1) = 2 := by omega
  unfold visited visitAbsent
  simp [cond, two]

theorem visited_unreadable_removed (cond : sl.cond = .unreadable) (again : 1 ≤ sl.absentCount) :
    visited d now false o sl =
      ⟨Slot.emptied { sl with absentCount := 2 }, some ⟨.removal, .empty, none, none⟩, false⟩ := by
  have two : min 2 (sl.absentCount + 1) = 2 := by omega
  unfold visited visitAbsent
  simp [cond, two]

theorem visited_fault_removed (cond : sl.cond = .fault) (again : 1 ≤ sl.absentCount) :
    (sl.reason ≠ some .tamper → visited d now false o sl =
      ⟨Slot.emptied { sl with absentCount := 2 }, some ⟨.removal, .empty, none, none⟩, false⟩) ∧
    (sl.reason = some .tamper → sl.doorCycle = true → visited d now false o sl =
      ⟨Slot.emptied { sl with absentCount := 2 }, some ⟨.cleared, .empty, none, none⟩, false⟩) ∧
    (sl.reason = some .tamper → sl.doorCycle = false → visited d now false o sl =
      ⟨{ sl with absentCount := 2 }, none, false⟩) := by
  have two : min 2 (sl.absentCount + 1) = 2 := by omega
  unfold visited visitAbsent
  refine ⟨fun h => ?_, fun h k => ?_, fun h k => ?_⟩
  · simp [cond, two, h]
  · simp [cond, two, h, k]
  · simp [cond, two, h, k]

/-- The removal of a pack that is reported as one (R14 to R16). -/
theorem visited_removed (again : 1 ≤ sl.absentCount)
    (cond : sl.cond = .occupied ∨ sl.cond = .unreadable ∨ (sl.cond = .fault ∧ sl.reason ≠ some .tamper)) :
    ∃ r, (visited d now false o sl).report = some r ∧ r.kind = .removal ∧
      (visited d now false o sl).exchanged = false ∧ (visited d now false o sl).slot.pack = none := by
  rcases cond with h | h | ⟨h, reason⟩
  · rw [visited_occupied_removed h again]
    unfold confirmRemoval
    split
    · exact ⟨_, rfl, rfl, rfl, rfl⟩
    · exact ⟨_, rfl, rfl, rfl, rfl⟩
  · rw [visited_unreadable_removed h again]
    exact ⟨_, rfl, rfl, rfl, rfl⟩
  · rw [(visited_fault_removed h again).1 reason]
    exact ⟨_, rfl, rfl, rfl, rfl⟩

end

/-! ### The counts of a visit (R5, R12) -/

theorem afterVisit_counters_of_unseen {st : SurveyStep} {levels : List Bool} {hot : Bool} {sl : Slot} {s : State}
    (report : (visited s.sul.doorOpen s.rhs.seconds false (stepOutcome st false levels) sl).report ≠
      some ⟨.insertion, .unreadable, none, none⟩) :
    (afterVisit st false levels hot sl s).counters = s.counters := by
  have none : stepOutcome st false levels = .noRead := rfl
  unfold afterVisit countUnreadable
  rw [visit_report, decide_eq_false report, none]
  rfl

end Sys2Proof.Machine
end


section
/-! PROOF. What the reports of a survey step do to the active swap (O46; 9.6, "Steps against events"). -/

namespace Sys2Proof.Machine

open Sys2Proof

/-! ### The rest of a step's event -/

theorem trails_beginRegular (a : State) : Trails a (beginRegular a) :=
  trails_of_eq (by simp) (beginRegular_focus a) (by simp) (by simp) (by simp) (by simp) (by simp)

theorem trails_afterPass (n : Nat) (a : State) : Trails a (afterPass n a) :=
  trails_of_eq (by simp) (afterPass_focus n a) (by simp) (by simp) (by simp) (by simp) (by simp)

theorem trails_startGap (a : State) : Trails a (startGap a) :=
  trails_of_eq (by simp) rfl (by simp) (by simp) (by simp) (by simp) (by simp)

theorem trails_afterFocus (a : State) : Trails a (afterFocus a) :=
  trails_of_eq (by simp) (afterFocus_focus a) (by simp) (by simp) (by simp) (by simp) (by simp)

/-- The report of the first pass leaves a swap that does not wait for it. -/
theorem trails_reportPassEnd {a : State} (started : ∀ w, a.seq.active = some w → w.step ≠ .startingWait) :
    Trails a (reportPassEnd a) := by
  unfold reportPassEnd
  split
  · exact trails_refl a
  · rw [takeFirstPass_of_started (s := { a with svy.firstPassDone := true }) started]
    exact { active := rfl, timer := rfl, focus := rfl, rhs := rfl, lif := rfl, counters := rfl,
            slot := fun _ y h => ⟨y.visited, h⟩, entry := fun _ e h => ⟨e.state, h, fun _ => rfl⟩, quiet := fun _ => id }

theorem trails_visitedMark (n : Nat) (a : State) : Trails a (modSlot n (fun sl => { sl with visited := true }) a) where
  active := rfl
  timer := rfl
  focus := rfl
  rhs := rfl
  lif := rfl
  counters := rfl
  slot m y h := by
    by_cases here : n = m
    · subst here
      exact ⟨true, by simp [modSlot, h]⟩
    · exact ⟨y.visited, by simp [modSlot, here, h]⟩
  entry _ e h := ⟨e.state, h, fun _ => rfl⟩
  quiet _ := id

theorem trails_nextStep (st : SurveyStep) {a : State}
    (started : ∀ w, a.seq.active = some w → w.step ≠ .startingWait) : Trails a (nextStep st a) := by
  have regular (n : Nat) : Trails a (afterRegular n a) := by
    unfold afterRegular
    repeat' split
    · exact trails_beginStep _ _ _
    · exact trails_beginRegular a
    · exact ((trails_reportPassEnd started).trans (trails_startGap _)).trans (trails_afterPass n _)
  unfold nextStep
  repeat' split
  · exact regular _
  · exact (trails_visitedMark _ _).trans (trails_beginStep _ _ _)
  · exact regular _
  · exact trails_afterFocus a

/-- The end of the step's event, from the state `s` in which it began. -/
def stepDone (st : SurveyStep) (seen : Bool) (levels : List Bool) (hot : Bool) (s : State) : State :=
  settle (nextStep st (applyStep st seen levels hot (stepEnding st seen s)))

/-- SEQ's part of a step stands to the end of the event. -/
theorem trails_stepDone {st : SurveyStep} {seen : Bool} {levels : List Bool} {hot : Bool} {s a : State}
    (run : applyStep st seen levels hot (stepEnding st seen s) = setReplan a)
    (started : ∀ w, a.seq.active = some w → w.step ≠ .startingWait) : Trails a (stepDone st seen levels hot s) := by
  unfold stepDone
  rw [run]
  exact ((trails_setReplan a).trans (trails_nextStep st started)).trans (trails_settle _)

/-! ### The report of a step -/

/-- The visit of a step whose slot stands as `x`: its record, as the condition machine leaves it. -/
def stepVisit (st : SurveyStep) (seen : Bool) (levels : List Bool) (x : Slot) (s : State) : Visit :=
  visited s.sul.doorOpen s.rhs.seconds seen (stepOutcome st seen levels) x

section
variable {st : SurveyStep} {seen hot : Bool} {levels : List Bool} {x : Slot} {s a : State}

/-- The state in which a step's report is given: the visit's record written, its outcome counted. -/
abbrev stepVisited (st : SurveyStep) (seen : Bool) (levels : List Bool) (hot : Bool) (x : Slot) (s : State) : State :=
  afterVisit st seen levels hot x (stepEnding st seen s)

/-- The visit's record as it is written. -/
def stepRecord (st : SurveyStep) (seen : Bool) (levels : List Bool) (hot : Bool) (x : Slot) (s : State) : Slot :=
  (stepVisit st seen levels x s).slot.finished s.sul.cfg seen hot (stepVisit st seen levels x s).exchanged
    (stepOutcome st seen levels)

theorem stepVisited_fields : (stepVisited st seen levels hot x s).core = s.core ∧
    (stepVisited st seen levels hot x s).lif = s.lif ∧ (stepVisited st seen levels hot x s).alw = s.alw ∧
    (stepVisited st seen levels hot x s).ofe = s.ofe ∧ (stepVisited st seen levels hot x s).seq = s.seq ∧
    (stepVisited st seen levels hot x s).rhs = s.rhs ∧ (stepVisited st seen levels hot x s).sul = s.sul ∧
    (stepVisited st seen levels hot x s).svy.focus = s.svy.focus ∧
    (stepVisited st seen levels hot x s).slots = s.slots.modify st.slot (fun _ => stepRecord st seen levels hot x s) := by
  obtain ⟨core, lif, svy, alw, -, ofe, seq, rhs, sul, slots⟩ :=
    afterVisit_frame st seen levels hot x (stepEnding st seen s)
  exact ⟨core, lif, alw, ofe, seq, rhs, sul, by rw [svy]; rfl, slots⟩

theorem stepVisited_course : InCourse s (stepVisited st seen levels hot x s) := by
  obtain ⟨-, lif, -, -, seq, rhs, sul, -⟩ :=
    stepVisited_fields (st := st) (seen := seen) (levels := levels) (hot := hot) (x := x) (s := s)
  exact ⟨sul, lif, congrArg Seq.queue seq, congrArg Rhs.seconds rhs⟩

variable (slot : s.slots[st.slot]? = some x)
include slot

theorem stepVisited_slot : (stepVisited st seen levels hot x s).slots[st.slot]? =
    some (stepRecord st seen levels hot x s) := by
  obtain ⟨-, -, -, -, -, -, -, -, slots⟩ :=
    stepVisited_fields (st := st) (seen := seen) (levels := levels) (hot := hot) (x := x) (s := s)
  rw [slots]
  simp [slot]

omit slot in
theorem stepVisited_other {m : Nat} (other : m ≠ st.slot) :
    (stepVisited st seen levels hot x s).slots[m]? = s.slots[m]? := by
  obtain ⟨-, -, -, -, -, -, -, -, slots⟩ :=
    stepVisited_fields (st := st) (seen := seen) (levels := levels) (hot := hot) (x := x) (s := s)
  rw [slots]
  simp [other.symm]

/-- A step whose visit exchanges no pack. -/
theorem applyStep_whole (whole : (stepVisit st seen levels x s).exchanged = false) :
    applyStep st seen levels hot (stepEnding st seen s) = setReplan (rejudge st.slot
      (handReport st.slot (stepVisit st seen levels x s).report (stepVisited st seen levels hot x s))) := by
  have kept (u : State) : settleExchange st.slot (visit s.sul.cfg s.sul.doorOpen s.rhs.seconds seen hot
      (stepOutcome st seen levels) x) u = u := if_neg (by
    rw [visit_exchanged]
    exact Bool.not_eq_true _ ▸ whole)
  refine (applyStep_eq (s := stepEnding st seen s) slot).trans ?_
  exact congrArg (fun u => setReplan (rejudge st.slot u)) (kept _)

/-- A step whose visit makes a report and no exchange. -/
theorem applyStep_reported {r : Report} (report : (stepVisit st seen levels x s).report = some r)
    (whole : (stepVisit st seen levels x s).exchanged = false)
    (taken : takeReport st.slot r (stepVisited st seen levels hot x s) = a) (judged : rejudge st.slot a = a) :
    applyStep st seen levels hot (stepEnding st seen s) = setReplan a := by
  rw [applyStep_whole slot whole, report]
  exact congrArg setReplan ((congrArg (rejudge st.slot) taken).trans judged)

/-- A step whose visit makes no report. -/
theorem applyStep_unreported (report : (stepVisit st seen levels x s).report = none)
    (whole : (stepVisit st seen levels x s).exchanged = false)
    (judged : rejudge st.slot (stepVisited st seen levels hot x s) = a) :
    applyStep st seen levels hot (stepEnding st seen s) = setReplan a := by
  rw [applyStep_whole slot whole, report]
  exact congrArg setReplan judged

end

theorem rejudge_of_step {n : Nat} {w : Swap} {a : State} (active : a.seq.active = some w)
    (rests : w.step ≠ .releaseWait ∨ w.release ≠ n) : rejudge n a = a := by
  unfold rejudge
  rw [active]
  exact if_neg (fun h => rests.elim (fun k => k h.1) (fun k => k h.2))

theorem rejudge_of_idle {n : Nat} {a : State} (idle : a.seq.active = none) : rejudge n a = a := by
  unfold rejudge
  rw [idle]

end Sys2Proof.Machine
end


section
/-! PROOF. The release slot judged after an accepted return: what becomes of the accepted slot and of the entry (O46, O56;
R149, R152). -/

namespace Sys2Proof.Machine

open Sys2Proof

/-! ### No swap that waits for the first pass -/

/-- No active swap waits for the first pass. -/
def Started (s : State) : Prop := ∀ w, s.seq.active = some w → w.step ≠ .startingWait

theorem started_of_idle {s : State} (idle : s.seq.active = none) : Started s := by
  intro w hw
  rw [idle] at hw
  cases hw

theorem started_of_active {s : State} {w : Swap} (active : s.seq.active = some w) (step : w.step ≠ .startingWait) :
    Started s := by
  intro y hy
  cases active.symm.trans hy
  exact step

theorem started_of_step {f : Swap → Swap} {st : SwapStep} (step : ∀ x, (f x).step = st) (late : st ≠ .startingWait)
    (s : State) : Started (writeProgress (modSwap f s)) := by
  intro y hy
  have swapped : (modSwap f s).seq.active = some y := by
    simpa using hy
  obtain ⟨x, -, rfl⟩ := Option.map_eq_some_iff.1 swapped
  rw [step]
  exact late

theorem started_endSwap {o : Outcome} {a : Option AbortReason} {after : EntryAfter} {w : Swap} {u : State}
    (rest : u.seq.queue = []) : Started (endSwap o a after w u) := by
  rw [endSwap_of_none rest]
  exact started_of_idle (by rw [swapEnding_seq])

theorem started_openRelease (n : Nat) (w : Swap) (u : State) : Started (openRelease n w u) :=
  started_of_step (st := .releaseOpen) (by exact fun _ => rfl) (by simp) _

theorem started_giveBack (r : AbortReason) (w : Swap) {u : State} (rest : u.seq.queue = []) :
    Started (giveBack r w u) := by
  have ended : Started (endGiveBack r w (setReplan u)) := started_endSwap (by simpa using rest)
  unfold giveBack
  repeat' split
  · exact started_of_step (st := .giveBack) (by exact fun _ => rfl) (by simp) _
  all_goals exact ended

theorem started_substitute (w : Swap) (e : Entry) {u : State} (rest : u.seq.queue = []) :
    Started (substitute w e u) := by
  unfold substitute
  split
  · exact started_openRelease _ _ _
  · exact started_giveBack _ _ rest

/-! ### The accepted slot and the entry -/

section
variable {s u : State} {w : Swap} {e e' : Entry} {d : Nat} {ds x y : Slot} (judges : Judges s u w e e' d ds x)
  (slot : u.slots[w.release]? = some y)
include judges slot

/-- The ways RELEASE_READY goes on while the accepted return's slot is FREE and not EMPTY (R152). -/
theorem releaseReady_cases (free : ds.role = .free) (full : ds.cond ≠ .empty) :
    releaseReady w u = openRelease w.release w u ∨ releaseReady w u = openWait e' u ∨
    (∃ r, releaseReady w u = openGiveBack d r w u) ∨
    ∃ n z, releaseReady w u = openRelease n w (movedTo n w u) ∧ n ≠ d ∧ u.slots[n]? = some z := by
  obtain ⟨active, dock, -, entry, packClass, -, ⟨z, hz, role, cond⟩, -, course, -, -⟩ := judges
  have given (r : AbortReason) : giveBack r w u = openGiveBack d r w u := by
    unfold giveBack
    rw [dock]
    dsimp only
    rw [show u.slot? d = some z from hz]
    exact if_pos ⟨role.trans free, fun h => full (cond.symm.trans h)⟩
  unfold releaseReady
  rw [entry, show u.slot? w.release = some y from slot]
  dsimp only
  repeat' split
  · exact .inl rfl
  · exact .inr (.inl rfl)
  · exact .inr (.inr (.inl ⟨_, given _⟩))
  · rcases substituteFor_cases u.sul.cfg e'.packClass d u.slots with ⟨none, -⟩ | ⟨n, z, found, place, other, -⟩
    · refine .inr (.inr (.inl ⟨.noPack, ?_⟩))
      unfold substitute
      rw [dock, none]
      exact given _
    · exact .inr (.inr (.inr ⟨n, z, substitute_of_some dock found, other, place⟩))

/-- The entry keeps the id of the returned pack; the accepted slot is as it was, or it is given back. -/
theorem releaseReady_keeps (free : ds.role = .free) (full : ds.cond ≠ .empty) :
    Started (releaseReady w u) ∧
    (∀ z, (releaseReady w u).seq.active = some z → z.step = .releaseWait → z.release = w.release) ∧
    (∃ e'', (releaseReady w u).entry? w.rid = some e'' ∧ e''.returnedId = e'.returnedId) ∧
    ((∃ z, (releaseReady w u).seq.active = some z ∧ z.step = .giveBack) ∨
      (releaseReady w u).slots[d]? = u.slots[d]?) := by
  have cases' := releaseReady_cases judges slot free full
  obtain ⟨active, dock, apart, entry, -⟩ := judges
  rcases cases' with run | run | ⟨r, run⟩ | ⟨n, z, run, other, place⟩
  · rw [run, openRelease_eq active dock slot]
    refine ⟨started_of_active rfl (by simp [Swap.opened]), ?_, ⟨e', entry, rfl⟩, .inr ?_⟩
    · rintro z ⟨⟩ step
      cases step
    · exact List.getElem?_modify_ne _ _ apart.symm
  · rw [run, openWait_eq active e' dock]
    refine ⟨started_of_active rfl (by simp), ?_, ⟨e', entry, rfl⟩, .inr rfl⟩
    rintro z ⟨⟩ -
    rfl
  · rw [run, openGiveBack_eq active r dock]
    refine ⟨started_of_active rfl (by simp), ?_, ⟨e', entry, rfl⟩, .inl ⟨_, rfl, rfl⟩⟩
    rintro z ⟨⟩ step
    cases step
  · have active' : (movedTo n w u).seq.active = some w := by simpa [movedTo] using active
    rw [run, openRelease_eq active' dock (movedTo_slot place)]
    refine ⟨started_of_active rfl (by simp [Swap.opened]), ?_, ⟨_, movedTo_entry entry, rfl⟩, .inr ?_⟩
    · rintro z ⟨⟩ step
      cases step
    · refine (List.getElem?_modify_ne _ _ other).trans ?_
      rw [show (movedTo n w u).slots = (freeRelease w (setRole n .releasing (some w.rid) u)).slots by simp [movedTo],
        freeRelease_slot apart]
      simp [setRole, modSlot, other]

end

/-! ### Conditions and packs stand while SVY takes no part -/

/-- The condition and the pack of each slot. -/
def packsOf (s : State) : List (Cond × Option Pack) := s.slots.map (fun sl => (sl.cond, sl.pack))

theorem Write.packs_eq {seq : Prop} {s t : State} (h : Write seq False s t) : packsOf t = packsOf s := by
  cases h with
  | slots l each =>
    simp only [packsOf]
    refine List.forall₂_eq_eq_eq ▸ List.forall₂_map_left_iff.2 (List.forall₂_map_right_iff.2 (each.flip.imp ?_))
    intro a b w
    obtain ⟨cond, pack, -⟩ := w.cond.resolve_left id
    rw [cond, pack]
  | pause => simp [packsOf, zeroAllSetpoints, Slot.zeroed, Slot.refreshed]
  | stationState new =>
    by_cases hold : new = .holdup
    · rw [packsOf, plannerHandOff_slots_holdup (by exact hold)]
      simp [packsOf, zeroAllSetpoints, Slot.zeroed, Slot.refreshed]
    · rw [packsOf, plannerHandOff_slots (by exact hold)]
      rfl
  | _ => simp [packsOf]

theorem Writes.packs_eq {seq : Prop} {s t : State} (h : Writes seq False s t) : packsOf t = packsOf s :=
  h.keeps (P := fun u => packsOf u = packsOf s) (fun _ _ w k => w.packs_eq.trans k) rfl

theorem pack_of_packs {s t : State} {n : Nat} {x : Slot} (h : packsOf t = packsOf s) (place : s.slots[n]? = some x) :
    ∃ y, t.slots[n]? = some y ∧ y.cond = x.cond ∧ y.pack = x.pack := by
  have there := congrArg (fun l => l[n]?) h
  simp only [packsOf, List.getElem?_map, place, Option.map_some] at there
  obtain ⟨y, hy, same⟩ := Option.map_eq_some_iff.1 there
  obtain ⟨cond, pack⟩ := Prod.mk.inj same
  exact ⟨y, hy, cond, pack⟩

end Sys2Proof.Machine
end


section
/-! PROOF. The reports of a survey step on the slot the active swap watches (O46; R148 to R158). -/

namespace Sys2Proof.Machine

open Sys2Proof

section
variable {s : State} {st : SurveyStep} {w : Swap} {e : Entry} {d : Nat} {ds rs : Slot} {seen : Bool}
  {levels : List Bool} {hot : Bool} (rest : s.seq.queue = []) (active : s.seq.active = some w)
  (entry : s.entry? w.rid = some e) (dock : w.dock = some d) (apart : d ≠ w.release)
  (accepted : s.slots[d]? = some ds) (place : s.slots[w.release]? = some rs) (own : rs.rid = some w.rid)

/-- The state in which the report is given has the swap of `s`. -/
theorem stepVisited_active {x : Slot} (active : s.seq.active = some w) :
    (stepVisited st seen levels hot x s).seq.active = some w := by
  obtain ⟨-, -, -, -, seq, -⟩ :=
    stepVisited_fields (st := st) (seen := seen) (levels := levels) (hot := hot) (x := x) (s := s)
  exact (congrArg Seq.active seq).trans active

theorem stepVisited_entry {x : Slot} (entry : s.entry? w.rid = some e) :
    (stepVisited st seen levels hot x s).entry? w.rid = some e := by
  obtain ⟨-, -, -, ofe, -⟩ :=
    stepVisited_fields (st := st) (seen := seen) (levels := levels) (hot := hot) (x := x) (s := s)
  exact (entry?_congr (congrArg Ofe.book ofe) _).trans entry

theorem stepRecord_fields {x : Slot} :
    (stepRecord st seen levels hot x s).cond = (stepVisit st seen levels x s).slot.cond ∧
    (stepRecord st seen levels hot x s).pack = (stepVisit st seen levels x s).slot.pack ∧
    (stepRecord st seen levels hot x s).role = x.role ∧ (stepRecord st seen levels hot x s).rid = x.rid ∧
    (stepRecord st seen levels hot x s).unlocked = x.unlocked := by
  obtain ⟨c, r, finished⟩ := finished_eq s.sul.cfg seen hot (stepVisit st seen levels x s).exchanged
    (stepOutcome st seen levels) (stepVisit st seen levels x s).slot
  obtain ⟨role, rid, unlocked⟩ := visit_keeps s.sul.cfg s.sul.doorOpen s.rhs.seconds seen hot
    (stepOutcome st seen levels) x
  exact ⟨by rw [stepRecord, finished], by rw [stepRecord, finished], role, rid, unlocked⟩

/-! ### The dock settles (R148) -/

include active dock accepted in
theorem step_settles (step : w.step = .returnOpen) (here : st.slot = d) (empty : ds.cond = .empty) (present : seen = true) :
    (stepDone st seen levels hot s).seq.active = some { w with step := .returnCheck, resume := none } ∧
    (stepDone st seen levels hot s).seq.timer = some (.check, 10000) ∧
    (stepDone st seen levels hot s).rhs =
      { s.rhs with progress := some ⟨w.rid, .returnCheck, d, w.release, w.returned⟩ } ∧
    (stepDone st seen levels hot s).svy.focus = s.svy.focus ∧ (stepDone st seen levels hot s).lif = s.lif := by
  subst here present
  let u := stepVisited st true levels hot ds s
  have active' : u.seq.active = some w := stepVisited_active active
  have opened := openCheck_eq active' dock
  have visit : stepVisit st true levels ds s = _ := visited_empty_seen empty
  have taken : takeReport st.slot ⟨.settling, .settling, none, none⟩ u = openCheck u := by
    simp [takeReport, active', step, dock]
  have run : applyStep st true levels hot (stepEnding st true s) = setReplan (openCheck u) :=
    applyStep_reported accepted (by rw [visit]) (by rw [visit]) taken
      (by rw [opened]; exact rejudge_of_step rfl (.inl (by simp)))
  have trail := trails_stepDone run (by rw [opened]; exact started_of_active rfl (by simp))
  obtain ⟨-, lif, -, -, -, rhs, -, focus, -⟩ :=
    stepVisited_fields (st := st) (seen := true) (levels := levels) (hot := hot) (x := ds) (s := s)
  rw [opened] at trail
  refine ⟨trail.active, trail.timer, trail.rhs.trans ?_, trail.focus.trans focus, trail.lif.trans lif⟩
  exact congrArg (fun r : Rhs => { r with progress := some ⟨w.rid, .returnCheck, st.slot, w.release, w.returned⟩ }) rhs

/-! ### The return judged (R149, R150) -/

theorem takeReport_of_check {u : State} {n : Nat} {r : Report} (active : u.seq.active = some w)
    (step : w.step = .returnCheck) (dock : w.dock = some n) (kind : r.kind = .insertion) :
    takeReport n r u = judgeReturn r.cond r.pack n w u := by
  unfold takeReport
  rw [active]
  dsimp only
  rw [step]
  exact if_pos ⟨dock, kind⟩

include active dock accepted in
/-- A return that is not accepted (R150). -/
theorem step_rejects {r : Report} (step : w.step = .returnCheck) (here : st.slot = d)
    (report : (stepVisit st seen levels ds s).report = some r)
    (whole : (stepVisit st seen levels ds s).exchanged = false) (kind : r.kind = .insertion)
    (judged : judgeReturn r.cond r.pack d w (stepVisited st seen levels hot ds s) =
      openReject d (stepVisited st seen levels hot ds s)) : RejectsOut s (stepDone st seen levels hot s) w d := by
  subst here
  let u := stepVisited st seen levels hot ds s
  have active' : u.seq.active = some w := stepVisited_active active
  have opened := openReject_eq active' dock
  have taken : takeReport st.slot r u = openReject st.slot u := by
    refine (takeReport_of_check active' step dock kind).trans judged
  have run : applyStep st seen levels hot (stepEnding st seen s) = setReplan (openReject st.slot u) :=
    applyStep_reported accepted report whole taken (by rw [opened]; exact rejudge_of_step rfl (.inl (by simp)))
  have trail := trails_stepDone run (by rw [opened]; exact started_of_active rfl (by simp))
  exact rejectsOut_openReject active' dock (stepVisited_slot accepted) stepVisited_course trail

/-- The state in which the release slot is judged after an accepted return (R149). -/
def returnTaken (p : Pack) (w : Swap) (u : State) : State :=
  modEntry w.rid (fun e => { e with returnedId := some p.id })
    (setFocus none (closeDock w { u with seq.timer := none, seq.active := some { w with returned := some p.id } }))

theorem acceptReturn_eq (p : Pack) (w : Swap) (u : State) :
    acceptReturn p w u = releaseReady { w with returned := some p.id } (returnTaken p w u) := rfl

/-- The judgement after an accepted return, from a state `u` in which the dock stands as `y` (R149, R152). -/
theorem judges_returnTaken {u : State} {p : Pack} {y : Slot} (entry' : u.entry? w.rid = some e) (course : InCourse s u) (dock : w.dock = some d) (apart : d ≠ w.release)
    (there : u.slots[d]? = some y) (full : y.cond = .occupied)
    (others : ∀ m : Nat, m ≠ d → u.slots[m]? = s.slots[m]? ∨
      (NoBay s.sul.cfg e.packClass u.slots[m]? ∧ NoBay s.sul.cfg e.packClass s.slots[m]?))
    (released : u.slots[w.release]? = some rs) (own : rs.rid = some w.rid) :
    Judges s (returnTaken p w u) { w with returned := some p.id } e { e with returnedId := some p.id } d
      { ds with cond := .occupied, role := .free } rs ∧
    (returnTaken p w u).slots[d]? = some { y with role := .free, rid := none, unlocked := false } ∧
    (returnTaken p w u).slots[w.release]? = some rs := by
  have slots : (returnTaken p w u).slots = u.slots.modify d (fun x => { x with role := .free, rid := none, unlocked := false }) := by
    show (closeDock w { u with seq.timer := none, seq.active := some { w with returned := some p.id } }).slots = _
    rw [closeDock_eq dock]
  have dock' : (returnTaken p w u).slots[d]? = some { y with role := .free, rid := none, unlocked := false } := by
    rw [slots]
    simp [there]
  have aside {m : Nat} (other : m ≠ d) : (returnTaken p w u).slots[m]? = u.slots[m]? := by
    rw [slots]
    simp [other.symm]
  have release' := (aside apart.symm).trans released
  have closed : (closeDock w { u with seq.timer := none, seq.active := some { w with returned := some p.id } }) = _ :=
    closeDock_eq dock
  obtain ⟨sul, lif, queue, seconds⟩ := course
  refine ⟨⟨?_, dock, apart, ?_, rfl, rfl, ⟨_, dock', rfl, full⟩, fun m other => ?_, ⟨?_, ?_, ?_, ?_⟩, fun bare => ?_,
    fun held => ⟨rs, release', held, own⟩⟩, dock', release'⟩
  · show (closeDock w { u with seq.timer := none, seq.active := some { w with returned := some p.id } }).seq.active = _
    rw [closed]
  · refine (entry?_modEntry_same (by exact fun _ => rfl) _ _).trans ?_
    rw [entry?_congr (s := u) (by simp), entry']
    rfl
  · rw [aside other]
    exact others m other
  · simp [returnTaken, sul]
  · simp [returnTaken, lif]
  · simp [returnTaken, queue]
  · simp [returnTaken, seconds]
  · rcases bare with h | h
    · exact absurd rfl h
    · cases h

include active entry dock apart accepted place own in
/-- A return that is accepted (R149, R152). -/
theorem step_accepts {p : Pack} (step : w.step = .returnCheck) (here : st.slot = d)
    (report : (stepVisit st seen levels ds s).report = some ⟨.insertion, .occupied, none, some p⟩)
    (whole : (stepVisit st seen levels ds s).exchanged = false)
    (cond : (stepVisit st seen levels ds s).slot.cond = .occupied)
    (pack : (stepVisit st seen levels ds s).slot.pack = some p) (good : acceptable s.sul.cfg e p = true) :
    ReleaseJudged s (stepDone st seen levels hot s) { w with returned := some p.id } e d
      { ds with cond := .occupied, role := .free } rs ∧
    (∃ y, (stepDone st seen levels hot s).slots[d]? = some y ∧ y.cond = .occupied ∧ y.pack = some p) ∧
    (∃ e', (stepDone st seen levels hot s).entry? w.rid = some e' ∧ e'.returnedId = some p.id) ∧
    (∀ x, (stepDone st seen levels hot s).seq.active = some x → x.step ≠ .giveBack →
      LockedFree (stepDone st seen levels hot s) d) := by
  subst here
  let u := stepVisited st seen levels hot ds s
  have active' : u.seq.active = some w := stepVisited_active active
  have entry' : u.entry? w.rid = some e := stepVisited_entry entry
  obtain ⟨cond', pack', -⟩ := stepRecord_fields (st := st) (seen := seen) (levels := levels) (hot := hot) (s := s) (x := ds)
  obtain ⟨judges, dock', release'⟩ := judges_returnTaken (ds := ds) (p := p) entry' stepVisited_course dock apart
    (stepVisited_slot accepted) (cond'.trans cond) (fun m other => .inl (stepVisited_other other))
    ((stepVisited_other apart.symm).trans place) own
  let a := releaseReady { w with returned := some p.id } (returnTaken p w u)
  obtain ⟨started, waits, ⟨e'', entry'', returned⟩, stays⟩ := releaseReady_keeps judges release' rfl (by simp)
  have taken : takeReport st.slot ⟨.insertion, .occupied, none, some p⟩ u = a := by
    have sul : u.sul = s.sul := stepVisited_course.sul
    have judged : judgeReturn .occupied (some p) st.slot w u = acceptReturn p w u := by
      unfold judgeReturn
      rw [entry']
      dsimp only
      rw [sul, if_pos ⟨rfl, good⟩]
    exact (takeReport_of_check active' step dock rfl).trans (judged.trans (acceptReturn_eq p w u))
  have settled : rejudge st.slot a = a := by
    cases now : a.seq.active with
    | none => exact rejudge_of_idle now
    | some z =>
      refine rejudge_of_step now ?_
      by_cases h : z.step = .releaseWait
      · exact .inr (waits z now h ▸ apart.symm)
      · exact .inl h
  have trail := trails_stepDone (applyStep_reported accepted report whole taken settled) started
  refine ⟨releaseJudged_of_judges judges release' rfl rfl rfl trail, ?_, ?_, fun x hx notGiven => ?_⟩
  · have packs : packsOf a = packsOf (returnTaken p w u) :=
      (releaseReady_writes (svy := False) _ Writes.refl).packs_eq
    obtain ⟨y, hy, ycond, ypack⟩ := pack_of_packs packs dock'
    obtain ⟨v, hv⟩ := trail.slot _ _ hy
    exact ⟨_, hv, ycond.trans (cond'.trans cond), ypack.trans (pack'.trans pack)⟩
  · obtain ⟨q, hq, -⟩ := trail.entry _ _ entry''
    exact ⟨_, hq, returned⟩
  · rcases stays with ⟨z, hz, given⟩ | same
    · cases hx.symm.trans (trail.active.trans hz)
      exact absurd given notGiven
    · obtain ⟨v, hv⟩ := trail.slot _ _ (same.trans dock')
      exact ⟨_, hv, rfl, rfl, rfl⟩

/-! ### The removal of a pack (R151, R154, R155, R158) -/

/-- The second absent visit of a slot that holds a pack, or held one. -/
def RemovalSeen (x : Slot) : Prop := 1 ≤ x.absentCount ∧
  (x.cond = .occupied ∨ x.cond = .unreadable ∨ (x.cond = .fault ∧ x.reason ≠ some .tamper))

/-- A removal on the slot the swap watches ends it from the state `v` (R151, R154, R158). -/
theorem step_ends {x : Slot} {v : State} {o : Outcome} {a : Option AbortReason} {after : EntryAfter}
    (rest : s.seq.queue = []) (entry : s.entry? w.rid = some e) (slot : s.slots[st.slot]? = some x)
    (removed : RemovalSeen x) (ending : EndingOf (stepVisited st false levels hot x s) v)
    (taken : ∀ r : Report, r.kind = .removal →
      takeReport st.slot r (stepVisited st false levels hot x s) = endSwap o a after w v) :
    SwapEnded s (stepDone st false levels hot s) w o a after.state ∧
    ∀ (n : Nat) (y : Slot), v.slots[n]? = some y →
      ∃ b, (stepDone st false levels hot s).slots[n]? = some { y with visited := b } := by
  obtain ⟨r, report, kind, whole, -⟩ := visited_removed (d := s.sul.doorOpen) (now := s.rhs.seconds)
    (o := stepOutcome st false levels) removed.1 removed.2
  have course := stepVisited_course (st := st) (seen := false) (levels := levels) (hot := hot) (x := x) (s := s)
  have queue : v.seq.queue = [] := (ending.course.queue.trans course.queue).trans rest
  have counters : v.counters = s.counters := by
    refine ending.counters.trans (afterVisit_counters_of_unseen (s := stepEnding st false s) (fun h => ?_))
    cases Option.some.inj (report.symm.trans h)
    cases kind
  have trail := trails_stepDone (applyStep_reported (hot := hot) slot report whole (taken r kind)
    (by rw [endSwap_of_none queue]; exact rejudge_of_idle (by rw [swapEnding_seq]))) (started_endSwap queue)
  refine ⟨swapEnded_endSwap queue (entry?_of_ending ending (stepVisited_entry entry)) ?_ counters trail, fun n y hy => ?_⟩
  · exact ⟨ending.sul.trans course.sul, ending.lif.trans course.lif, ending.course.queue.trans course.queue,
      ending.course.seconds.trans course.seconds⟩
  · refine trail.slot n y ?_
    rw [endSwap_of_none queue, (swapEnding_frame _ _ _ _ _).2.1]
    exact hy

include rest active entry dock accepted in
theorem step_takes_back (step : w.step = .rejectOut) (here : st.slot = d) (removed : RemovalSeen ds) :
    SwapEnded s (stepDone st false levels hot s) w .aborted (some .returnRejected) .held ∧
    LockedFree (stepDone st false levels hot s) d := by
  subst here
  let u := stepVisited st false levels hot ds s
  have active' : u.seq.active = some w := stepVisited_active active
  obtain ⟨ended, slots⟩ := step_ends (v := closeDock w { u with seq.timer := none }) rest entry accepted removed
    (endingOf_closeDock w u) (o := .aborted) (a := some .returnRejected) (after := .held) (fun r kind => by
      unfold takeReport
      rw [active']
      dsimp only
      rw [step]
      exact if_pos ⟨dock, kind⟩)
  obtain ⟨b, hb⟩ := slots st.slot _ (closeDock_slot (s := u) dock (stepVisited_slot accepted))
  exact ⟨ended, _, hb, rfl, rfl, rfl⟩

include rest active entry place in
theorem step_collects (step : w.step = .releaseOpen) (here : st.slot = w.release) (removed : RemovalSeen rs) :
    SwapEnded s (stepDone st false levels hot s) w .done none .done ∧
    LockedFree (stepDone st false levels hot s) w.release := by
  rw [← here] at place ⊢
  let u := stepVisited st false levels hot rs s
  have active' : u.seq.active = some w := stepVisited_active active
  obtain ⟨ended, slots⟩ := step_ends (v := setRole st.slot .free none (setLatch st.slot false { u with seq.timer := none }))
    rest entry place removed (endingOf_lockRelease st.slot u) (o := .done) (a := none) (after := .done) (fun r kind => by
      unfold takeReport
      rw [active']
      dsimp only
      rw [step]
      exact if_pos ⟨here.symm, kind⟩)
  obtain ⟨b, hb⟩ := slots st.slot { stepRecord st false levels hot rs s with role := .free, rid := none, unlocked := false } (by
    rw [setRole_modify, List.getElem?_modify_eq]
    exact congrArg (Option.map _) (stepVisited_slot (hot := hot) (levels := levels) (seen := false) place))
  exact ⟨ended, _, hb, rfl, rfl, rfl⟩

include rest active entry dock apart accepted place own in
theorem step_gives_back {r : AbortReason} (step : w.step = .giveBack) (here : st.slot = d) (removed : RemovalSeen ds)
    (abort : w.abort = some r) :
    SwapEnded s (stepDone st false levels hot s) w .aborted (some r) .aborted ∧
    LockedFree (stepDone st false levels hot s) d ∧
    (rs.role = .held → ∃ z, (stepDone st false levels hot s).slots[w.release]? = some z ∧ z.role = .free ∧
      z.rid = none) := by
  subst here
  let u := stepVisited st false levels hot ds s
  have active' : u.seq.active = some w := stepVisited_active active
  let v := freeRelease w (closeDock w { u with seq.timer := none })
  obtain ⟨ended, slots⟩ := step_ends (v := v) rest entry accepted removed
    (endingOf_freeRelease (endingOf_closeDock w u) w) (o := .aborted) (a := some r) (after := .aborted) (fun q kind => by
      unfold takeReport
      rw [active']
      dsimp only
      rw [step]
      refine (if_pos ⟨dock, kind⟩).trans ?_
      rw [abort]
      rfl)
  have there : v.slots[st.slot]? = _ :=
    (freeRelease_slot apart _).trans (closeDock_slot (s := u) dock (stepVisited_slot accepted))
  obtain ⟨b, hb⟩ := slots st.slot _ there
  refine ⟨ended, ⟨_, hb, rfl, rfl, rfl⟩, fun held => ?_⟩
  have kept : u.slots[w.release]? = some rs := (stepVisited_other apart.symm).trans place
  have freed : v.slots[w.release]? = some { rs with role := .free, rid := none } := by
    rw [show v = slotsLeft st.slot w.release u from freeRelease_closeDock (s := u) dock apart kept held own]
    simp [slotsLeft, apart, kept]
  obtain ⟨b, hb⟩ := slots _ _ freed
  exact ⟨_, hb, rfl, rfl⟩

include rest active entry dock apart accepted place own in
theorem step_substitutes (step : w.step = .releaseWait) (here : st.slot = w.release) (removed : RemovalSeen rs)
    (role : rs.role = .held) : Substituted s (stepDone st false levels hot s) w e d ds rs := by
  have slot : s.slots[st.slot]? = some rs := here ▸ place
  let u := stepVisited st false levels hot rs s
  have active' : u.seq.active = some w := stepVisited_active active
  have entry' : u.entry? w.rid = some e := stepVisited_entry entry
  obtain ⟨r, report, kind, whole, bare⟩ := visited_removed (d := s.sul.doorOpen) (now := s.rhs.seconds)
    (o := stepOutcome st false levels) removed.1 removed.2
  obtain ⟨-, pack', role', rid', latch'⟩ :=
    stepRecord_fields (st := st) (seen := false) (levels := levels) (hot := hot) (s := s) (x := rs)
  have there : u.slots[w.release]? = some (stepRecord st false levels hot rs s) := here ▸ stepVisited_slot slot
  have unable {k : PackClass} : sound u.sul.cfg k (stepRecord st false levels hot rs s) = false ∧
      releasable u.sul.cfg k (stepRecord st false levels hot rs s) = false := by
    unfold sound releasable
    rw [pack'.trans bare]
    exact ⟨rfl, rfl⟩
  have taken : takeReport st.slot r u = substitute w e u := by
    unfold takeReport
    rw [active']
    dsimp only
    rw [step]
    dsimp only
    rw [if_pos here.symm, judgeWaiting_of_some (e' := e) entry' there, if_neg (by simp [unable]), if_neg (by simp [unable])]
  have queue : u.seq.queue = [] := stepVisited_course.queue.trans rest
  have settled : rejudge st.slot (substitute w e u) = substitute w e u := by
    refine rejudge_of_not_waiting (fun z hz wait => ?_)
    rcases movedOn_substitute w e u z hz with h | h | h
    · simp [wait] at h
    · cases wait.symm.trans h
    · cases wait.symm.trans h.1
  have trail := trails_stepDone (applyStep_reported slot report whole taken settled) (started_substitute w e queue)
  have counters : u.counters = s.counters := afterVisit_counters_of_unseen (s := stepEnding st false s) (fun h => by
    cases Option.some.inj (report.symm.trans h)
    cases kind)
  refine substituted_of_judges ⟨active', dock, apart, entry', rfl, rfl,
    ⟨ds, (stepVisited_other (here ▸ apart)).trans accepted, rfl, rfl⟩, fun m _ => ?_, stepVisited_course,
    fun _ => ⟨Option.isSome_of_eq_some entry', counters, fun m y hy => ?_⟩,
    fun held => ⟨_, there, role'.trans held, rid'.trans own⟩⟩ trail
  · by_cases same : m = w.release
    · subst same
      refine .inr ⟨fun y hy h => ?_, fun y hy h => ?_⟩
      · cases there.symm.trans hy
        cases (role'.trans role).symm.trans h.1
      · cases place.symm.trans hy
        cases role.symm.trans h.1
    · exact .inl (stepVisited_other (here ▸ same))
  · by_cases same : m = w.release
    · subst same
      cases place.symm.trans hy
      exact ⟨_, there, latch'⟩
    · exact ⟨y, (stepVisited_other (here ▸ same)).trans hy, rfl⟩

/-! ### The visit of the slot a swap waits for (R155) -/

include active entry dock place in
theorem step_waits {p q : Pack} (step : w.step = .releaseWait) (here : st.slot = w.release) (cond : rs.cond = .occupied)
    (attempt : stepOutcome st true levels = .valid p) (pack : rs.pack = some q) (same : q.id = p.id) :
    (releasable s.sul.cfg e.packClass { rs with pack := some p } = true →
      ReleaseOpened s (stepDone st true levels hot s) w d w.release { rs with pack := some p }) ∧
    (releasable s.sul.cfg e.packClass { rs with pack := some p } = false →
      sound s.sul.cfg e.packClass { rs with pack := some p } = true →
      (stepDone st true levels hot s).seq.active = some w ∧ (stepDone st true levels hot s).seq.timer = s.seq.timer ∧
      (stepDone st true levels hot s).rhs = s.rhs ∧ (stepDone st true levels hot s).lif = s.lif) := by
  have slot : s.slots[st.slot]? = some rs := here ▸ place
  let u := stepVisited st true levels hot rs s
  let y := stepRecord st true levels hot rs s
  have active' : u.seq.active = some w := stepVisited_active active
  have entry' : u.entry? w.rid = some e := stepVisited_entry entry
  have there : u.slots[w.release]? = some y := here ▸ stepVisited_slot slot
  obtain ⟨whole, good, -⟩ := visited_occupied_same (d := s.sul.doorOpen) (now := s.rhs.seconds) cond attempt pack same
  obtain ⟨cond', pack', -⟩ := stepRecord_fields (st := st) (seen := true) (levels := levels) (hot := hot) (s := s) (x := rs)
  -- what follows when the pack is sound, so that the visit makes no report and leaves the cut clear
  have judged (able : sound s.sul.cfg e.packClass { rs with pack := some p } = true) :
      y.cond = rs.cond ∧ y.pack = some p ∧ releasable s.sul.cfg e.packClass y =
        releasable s.sul.cfg e.packClass { rs with pack := some p } ∧ sound s.sul.cfg e.packClass y = true ∧
      ∀ a, judgeWaiting w u = a → applyStep st true levels hot (stepEnding st true s) = setReplan a := by
    obtain ⟨p', hp, -, ok, clear, -⟩ := sound_iff.1 able
    obtain rfl : p = p' := Option.some.inj hp
    obtain ⟨occupied, read, -, report⟩ := good ok
    have kept := visited_kept s.sul.doorOpen s.rhs.seconds true (stepOutcome st true levels) rs
    simp only [Slot.kept, Prod.mk.injEq] at kept
    have cut : y.cut = rs.cut := (finished_cut_of_clear (kept.2.2.2.2.1.trans clear)).trans clear.symm
    have ycond : y.cond = rs.cond := cond'.trans (occupied.trans cond.symm)
    have ypack : y.pack = some p := pack'.trans read
    refine ⟨ycond, ypack, releasable_congr (x := { rs with pack := some p }) ycond ypack cut,
      (sound_congr (x := { rs with pack := some p }) ycond ypack cut).trans able, fun a run => ?_⟩
    refine applyStep_unreported slot report whole ?_
    unfold rejudge
    rw [active']
    exact (if_pos ⟨step, here.symm⟩).trans run
  have decide' := judgeWaiting_of_some (w := w) (e' := e) entry' there
  rw [stepVisited_course.sul] at decide'
  refine ⟨fun able => ?_, fun unable able => ?_⟩
  · obtain ⟨ycond, ypack, releases, -, run⟩ := judged (releasable_iff.1 able).1
    rw [releases, if_pos able] at decide'
    have trail := trails_stepDone (run _ decide') (started_openRelease _ _ _)
    exact releaseOpened_openRelease active' dock there ycond ypack stepVisited_course trail
  · obtain ⟨-, -, releases, sound', run⟩ := judged able
    rw [releases, if_neg (by simp [unable]), if_pos sound'] at decide'
    have trail := trails_stepDone (run _ decide') (started_of_active active' (by simp [step]))
    obtain ⟨-, lif, -, -, seq, rhs, -⟩ :=
      stepVisited_fields (st := st) (seen := true) (levels := levels) (hot := hot) (x := rs) (s := s)
    exact ⟨trail.active.trans active', trail.timer.trans (congrArg Seq.timer seq), trail.rhs.trans rhs, trail.lif.trans lif⟩

end

end Sys2Proof.Machine
end


section
/-! PROOF. The step timers and the reports of a survey step, assembled (O46). -/

namespace Sys2Proof.Machine

open Sys2Proof

/-! ### GIVE_BACK by the wait timer (R154, R155) -/

theorem giveBack_of_place {u : State} {w : Swap} {r : AbortReason} {d : Nat} {y : Slot} (dock : w.dock = some d)
    (place : u.slots[d]? = some y) :
    giveBack r w u = if y.role = .free ∧ y.cond ≠ .empty then openGiveBack d r w u
      else endGiveBack r w (setReplan u) := by
  unfold giveBack
  rw [dock]
  dsimp only
  rw [show u.slot? d = some y from place]

theorem endingOf_giveBack (w : Swap) (s : State) :
    EndingOf s (freeRelease w (setReplan { s with seq.timer := none })) := by
  constructor <;> simp

/-! ### The read of a step (R5) -/

theorem stepOutcome_of_read {st : SurveyStep} (levels : List Bool) (readable : st.readable = true) :
    stepOutcome st true levels = readReply (linkChars levels) := by
  simp [stepOutcome, attempts, readable]

theorem stepOutcome_unread {st : SurveyStep} {levels : List Bool} (unread : ∀ p, readReply (linkChars levels) ≠ .valid p)
    (seen : Bool) (p : Pack) : stepOutcome st seen levels ≠ .valid p := by
  unfold stepOutcome
  split
  · exact unread p
  · simp

theorem acceptable_iff {cfg : Cfg} {e : Entry} {p : Pack} :
    acceptable cfg e p = true ↔ p.cls = e.returnClass ∧ p.ok = true ∧ p.temp < (cfg.hotLimit : Int) := by
  simp [acceptable, and_assoc]

/-! ### The CLOSE (R57) -/

theorem outcomeCode_eq (o : Outcome) : byteOf o.code = codeIn [Outcome.done, .lapsed, .uncollected, .aborted] o := by
  cases o <;> decide

/-- The reason byte: the marks of the two ids above the abort reason. -/
theorem closeReasonByte_eq (abort : Option AbortReason) (released returned : Option Word) :
    closeReasonByte abort released returned =
      (BitVec.ofNat 8 (128 * released.isSome.toNat + 64 * returned.isSome.toNat) ||| codeIn [none,
        some AbortReason.cancelled, some .returnTimeout, some .returnRejected, some .noPack,
        some .releaseWaitExceeded] abort) := by
  unfold closeReasonByte
  generalize released.isSome = a
  generalize returned.isSome = b
  revert a b
  cases abort with
  | none => decide
  | some r => cases r <;> decide

theorem closeId_eq (id : Option Word) : bytes32 (id.getD 0) = fourBytes ((id.map (fun w => w.toNat)).getD 0) := by
  rw [bytes32_eq]
  cases id <;> rfl

theorem closeFrame_eq (rid : ReqId) (o : Outcome) (abort : Option AbortReason) (released returned : Option Word) :
    closeFrame rid o abort released returned = ⟨0x0C#8, .close, 0x3F#8, closeBytes rid o abort released returned⟩ := by
  unfold closeFrame
  rw [outcomeCode_eq, closeReasonByte_eq, closeId_eq, closeId_eq]
  rfl

/-! ### Assembly -/

/-- Settles O46: the timers by their endings, the survey's reports by the step of the swap. -/
theorem stepTimersEndTheirSteps : Obligations.StepTimersEndTheirSteps := by
  refine ⟨fun cfg k sl => ⟨sound_iff, releasable_iff, fun p pack => ?_⟩, closeFrame_eq, ?alone, ?queued, ?reports⟩
  · unfold substituteScore scoreOf
    rw [pack]
    simp
  case alone =>
    intro s w e ms d ds rs works rest active entry dock apart accepted place own idle lockedFree free
    refine ⟨?_, checkTimer_rejects works active dock accepted,
      checkTimer_ends works rest active entry dock accepted,
      fun step timer role => removalTimer_abandons works rest active entry dock apart accepted place step timer role own,
      fun r step timer abort => ?_, fun step timer role full => ?_, fun step timer bare => ?_, fun step timer => ?_⟩
    · intro step timer role unreleased unreturned c
      obtain ⟨ended, seq, slots, alw, sul⟩ := ends_alone (o := .aborted) (a := some .returnTimeout) (after := .aborted)
        (endingOf_freeRelease (endingOf_closeDock w s) w) entry rest
      obtain ⟨-, -, progress, focus, ⟨e', found, state, -⟩, holds, lif, counters⟩ := ended
      have close : closeFrame w.rid .aborted (some .returnTimeout) w.released w.returned = c := by
        rw [unreleased, unreturned]
        rfl
      rw [close] at lif counters
      refine ⟨_, e', exec_returnTimerExpiry works active step timer, seq, slots.trans ?_, focus, progress,
        holds (by simp [EntryAfter.state]), found, state, lif, counters, alw, sul⟩
      rw [freeRelease_closeDock dock apart place role own]
      rfl
    · obtain ⟨ended, -, slots, -⟩ := ends_alone (o := .aborted) (a := some r) (after := .aborted)
        (endingOf_freeRelease (endingOf_closeDock w s) w) entry rest
      refine ⟨_, exec_removalTimerExpiry_given works active step timer abort, ended,
        { ds with role := .free, rid := none, unlocked := false }, ?_, rfl, rfl, rfl⟩
      refine (congrArg (·[d]?) slots).trans ?_
      exact (freeRelease_slot apart _).trans (closeDock_slot dock accepted)
    · have run := exec_waitTimerExpiry works active step timer
      rw [giveBack_of_place (u := { s with seq.timer := none }) dock accepted, if_pos ⟨role, full⟩,
        openGiveBack_eq (u := { s with seq.timer := none }) active _ dock] at run
      refine ⟨_, run, ?_⟩
      simp [settle_focus, giveBackStep]
    · refine ⟨_, exec_waitTimerExpiry works active step timer, ?_⟩
      exact (giveBackEntered_giveBack (s := s) (u := { s with seq.timer := none }) (ds := ds) (x := rs) active dock
        ⟨ds, accepted, rfl, rfl⟩ ⟨rfl, rfl, rfl, rfl⟩
        (fun _ => ⟨Option.isSome_of_eq_some entry, rfl, fun _ y h => ⟨y, h, rfl⟩⟩)
        (fun held => ⟨rs, place, held, own⟩) (trails_settle _)).2 bare rest
    · obtain ⟨ended, seq, slots, alw, sul⟩ := ends_alone (o := .uncollected) (a := none) (after := .done)
        (endingOf_lockRelease w.release s) entry rest
      obtain ⟨-, -, progress, focus, ⟨e', found, state, -⟩, holds, -, counters⟩ := ended
      refine ⟨_, e', exec_collectTimerExpiry works active step timer, seq, slots.trans ?_, focus, progress,
        holds (by simp [EntryAfter.state]), found, state, counters, alw, sul⟩
      rw [setRole_modify]
  case queued =>
    intro s w e ms d ds rs works unique active absent entry dock apart accepted place own idle lockedFree free
    refine ⟨fun step timer role => ?_, fun r step timer abort role => ?_, fun step timer bare role => ?_,
      fun step timer => ?_⟩
    · obtain ⟨⟨e', found, state⟩, looked, alw, sul⟩ := ends_before_queue (o := .aborted) (a := some .returnTimeout)
        (after := .aborted) (endingOf_freeRelease (endingOf_closeDock w s) w) entry unique absent
      refine ⟨_, e', exec_returnTimerExpiry works active step timer, found, state, ?_, alw, sul⟩
      rw [freeRelease_closeDock dock apart place role own] at looked ⊢
      exact looked
    · obtain ⟨⟨e', found, state⟩, looked, alw, sul⟩ := ends_before_queue (o := .aborted) (a := some r)
        (after := .aborted) (endingOf_freeRelease (endingOf_closeDock w s) w) entry unique absent
      refine ⟨_, e', exec_removalTimerExpiry_given works active step timer abort, found, state, ?_, alw, sul⟩
      unfold endGiveBack
      rw [freeRelease_closeDock dock apart place role own] at looked ⊢
      exact looked
    · obtain ⟨⟨e', found, state⟩, looked, alw, sul⟩ := ends_before_queue (o := .aborted)
        (a := some .releaseWaitExceeded) (after := .aborted) (endingOf_giveBack w s) entry unique absent
      have no : ¬ (ds.role = .free ∧ ds.cond ≠ .empty) := by tauto
      have run := exec_waitTimerExpiry works active step timer
      rw [giveBack_of_place (u := { s with seq.timer := none }) dock accepted, if_neg no] at run
      refine ⟨_, e', run, found, state, ?_, alw, sul⟩
      have slots : (freeRelease w (setReplan { s with seq.timer := none })).slots = s.slots.modify w.release free := by
        rw [freeRelease_of_held (s := setReplan { s with seq.timer := none }) place role own]
        rfl
      rw [← slots]
      exact looked
    · obtain ⟨⟨e', found, state⟩, looked, alw, sul⟩ := ends_before_queue (o := .uncollected) (a := none)
        (after := .done) (endingOf_lockRelease w.release s) entry unique absent
      refine ⟨_, e', exec_collectTimerExpiry works active step timer, found, state, ?_, alw, sul⟩
      rw [setRole_modify] at looked
      exact looked
  case reports =>
    intro s st w e d ds rs seen levels hot works step rest active entry dock apart accepted place own read removed
    refine ⟨stepDone st seen levels hot s, exec_surveyStepEnd works step seen levels hot, by simp [stepDone, stepEnding],
      by simp [stepDone, stepEnding], step_settles active dock accepted,
      fun p at_check here settling present readable valid => ⟨fun cls ok cool => ?_, fun bad => ?_⟩,
      fun at_check here settling present visits unread => ?_, fun rejects here gone => ?_,
      fun p q waits here occupied present readable valid pack same => ?_, fun waits here gone role => ?_,
      fun opened here gone => ?_, fun r gives here gone abort => ?_⟩
    · subst present
      have outcome : stepOutcome st true levels = .valid p := (stepOutcome_of_read levels readable).trans valid
      obtain ⟨whole, taken, -⟩ := visited_settling_read (d := s.sul.doorOpen) (now := s.rhs.seconds) settling outcome
      obtain ⟨cond, pack, -, report⟩ := taken ok
      exact step_accepts active entry dock apart accepted place own at_check here report whole cond pack
        (acceptable_iff.2 ⟨cls, ok, cool⟩)
    · subst present
      have outcome : stepOutcome st true levels = .valid p := (stepOutcome_of_read levels readable).trans valid
      obtain ⟨whole, taken, faulted⟩ :=
        visited_settling_read (d := s.sul.doorOpen) (now := s.rhs.seconds) settling outcome
      have entry' := stepVisited_entry (st := st) (seen := true) (levels := levels) (hot := hot) (x := ds) entry
      have refused {c : Cond} : judgeReturn c (some p) d w (stepVisited st true levels hot ds s) =
          openReject d (stepVisited st true levels hot ds s) := by
        unfold judgeReturn
        rw [entry', stepVisited_course.sul]
        exact if_neg (fun h => bad (acceptable_iff.1 h.2))
      cases ok : p.ok with
      | true =>
        obtain ⟨-, -, -, report⟩ := taken ok
        exact step_rejects active dock accepted at_check here report whole rfl refused
      | false =>
        obtain ⟨-, -, -, report⟩ := faulted ok
        exact step_rejects active dock accepted at_check here report whole rfl refused
    · subst present
      obtain ⟨third, -⟩ := visited_settling_unread (d := s.sul.doorOpen) (now := s.rhs.seconds) settling
        (stepOutcome_unread (st := st) unread true)
      obtain ⟨-, -, report, whole⟩ := third visits
      refine step_rejects active dock accepted at_check here report whole rfl ?_
      unfold judgeReturn
      rw [stepVisited_entry entry]
    · obtain ⟨rfl, again⟩ := gone
      exact step_takes_back rest active entry dock accepted rejects here again
    · subst present
      exact step_waits active entry dock place waits here occupied ((stepOutcome_of_read levels readable).trans valid)
        pack same
    · obtain ⟨rfl, again⟩ := gone
      exact step_substitutes rest active entry dock apart accepted place own waits here again role
    · obtain ⟨rfl, again⟩ := gone
      exact step_collects rest active entry place opened here again
    · obtain ⟨rfl, again⟩ := gone
      exact step_gives_back rest active entry dock apart accepted place own gives here again abort

end Sys2Proof.Machine
end


section
/-! PROOF. The contact link and its replies (O47; R5, R9 to R11). -/

namespace Sys2Proof.Machine

open Sys2Proof

/-! ### Characters on the link (R9) -/

theorem foldl_linkLevel_char (b : Byte) (acc : List Byte) :
    (linkChar b).foldl linkLevel (.rest, acc) = (.rest, acc ++ [b]) := by
  have spelled : byteOf (bitsNumber (lsbBits b).reverse) = b := by
    rw [reverse_lsbBits, bitsNumber_msbBits, byteOf_toNat]
  have eight := length_lsbBits b
  match bits : lsbBits b, eight with
  | [b0, b1, b2, b3, b4, b5, b6, b7], _ =>
    rw [bits] at spelled
    simp only [linkChar, bits, List.cons_append, List.nil_append, List.foldl_cons, List.foldl_nil, linkLevel]
    simpa using spelled

theorem linkChars_flatMap (chars : List Byte) : linkChars (chars.flatMap linkChar) = chars := by
  have spells : ∀ acc, (chars.flatMap linkChar).foldl linkLevel (.rest, acc) = (.rest, acc ++ chars) := by
    induction chars with
    | nil => simp
    | cons b chars ih =>
      intro acc
      rw [List.flatMap_cons, List.foldl_append, foldl_linkLevel_char, ih]
      simp
  exact congrArg Prod.snd (spells [])

/-! ### The reply (R10, R11) -/

theorem be16_toNat (hi lo : Byte) : (be16 hi lo).toNat = hi.toNat * 256 + lo.toNat := by
  unfold be16
  rw [BitVec.toNat_append, ← Nat.shiftLeft_add_eq_or_of_lt lo.isLt, Nat.shiftLeft_eq]

theorem be32_toNat (b0 b1 b2 b3 : Byte) :
    (be32 b0 b1 b2 b3).toNat = ((b0.toNat * 256 + b1.toNat) * 256 + b2.toNat) * 256 + b3.toNat := by
  have low := be16_toNat b2 b3
  have high := be16_toNat b0 b1
  unfold be16 at low high
  unfold be32
  rw [BitVec.toNat_append, ← Nat.shiftLeft_add_eq_or_of_lt (BitVec.isLt _), Nat.shiftLeft_eq, low, high]
  omega

theorem packRead_packOf {chars : List Byte} {k : PackClass} (cls : k.val = (chars.getD 4 0).toNat) :
    PackRead chars (packOf chars k) := by
  refine ⟨be32_toNat _ _ _ _, cls, ?_, rfl, rfl, be16_toNat _ _, ?_⟩
  · exact congrArg (min 1000) (be16_toNat _ _)
  · simp [packOf, ← BitVec.toNat_inj]

theorem readReply_of_short {chars : List Byte} (short : chars.length < 13) : readReply chars = .noReply := by
  simp [readReply, short]

theorem getD_take {chars : List Byte} {i : Nat} (h : i < 13) : (chars.take 13).getD i 0 = chars.getD i 0 := by
  simp [List.getD_eq_getElem?_getD, h]

theorem readReply_of_long {chars : List Byte} (long : 13 ≤ chars.length) : readReply chars =
    if crc8 (chars.take 12) ≠ chars.getD 12 0 then .badCrc
    else (packClass? (chars.getD 4 0)).elim .invalid (fun k => .valid (packOf (chars.take 13) k)) := by
  have twelve : (chars.take 13).take 12 = chars.take 12 := by rw [List.take_take]; rfl
  unfold readReply
  dsimp only
  rw [if_neg (by rw [List.length_take]; omega), twelve, getD_take (by omega), getD_take (by omega)]
  cases packClass? (chars.getD 4 0) <;> rfl

theorem packOf_take (chars : List Byte) (k : PackClass) : packOf (chars.take 13) k = packOf chars k := by
  unfold packOf
  simp [List.getD_eq_getElem?_getD]

/-- The clauses of O47 about the reply. -/
theorem readReply_cases (chars : List Byte) :
    (chars.length < 13 → readReply chars = .noReply) ∧
    (13 ≤ chars.length → crc8 (chars.take 12) ≠ chars.getD 12 0 → readReply chars = .badCrc) ∧
    (13 ≤ chars.length → crc8 (chars.take 12) = chars.getD 12 0 →
      (4 ≤ (chars.getD 4 0).toNat → readReply chars = .invalid) ∧
      ((chars.getD 4 0).toNat < 4 → ∃ p, readReply chars = .valid p ∧ PackRead chars p)) := by
  refine ⟨readReply_of_short, fun long bad => ?_, fun long good => ⟨fun other => ?_, fun known => ?_⟩⟩
  · rw [readReply_of_long long, if_pos bad]
  · rw [readReply_of_long long, if_neg (not_not.2 good)]
    have none : packClass? (chars.getD 4 0) = Option.none := by
      unfold packClass?
      exact dif_neg (by omega)
    rw [none]
    rfl
  · rw [readReply_of_long long, if_neg (not_not.2 good)]
    have some' : packClass? (chars.getD 4 0) = some ⟨(chars.getD 4 0).toNat, known⟩ := by
      unfold packClass?
      exact dif_pos known
    rw [some', Option.elim_some, packOf_take]
    exact ⟨_, rfl, packRead_packOf rfl⟩

end Sys2Proof.Machine
end


section
/-! PROOF. What a survey step makes of the slot it visits, of the others and of the counters (O47; 1.4). -/

namespace Sys2Proof.Machine

open Sys2Proof

/-! ### What the walk leaves -/

theorem beginRegular_link (s : State) : (beginRegular s).svy.link = s.svy.link := by
  unfold beginRegular
  split
  · rw [beginStep_svy]
  · rfl

theorem afterPass_link (n : Nat) (s : State) : (afterPass n s).svy.link = s.svy.link := by
  unfold afterPass
  repeat' split
  · rw [beginStep_svy]
  · rfl
  · rw [beginStep_svy]
  · exact beginRegular_link _

theorem nextStep_link (st : SurveyStep) (s : State) : (nextStep st s).svy.link = s.svy.link := by
  have regularly (n : Nat) : (afterRegular n s).svy.link = s.svy.link := by
    unfold afterRegular
    repeat' split
    · rw [beginStep_svy]
    · exact beginRegular_link s
    · rw [afterPass_link]
      exact (reportPassEnd_fields s).2.2.2.2.1
  unfold nextStep
  split
  · split
    · exact regularly _
    · rw [beginStep_svy]
      rfl
  · exact regularly _
  · unfold afterFocus
    repeat' split
    · exact beginRegular_link s
    · exact beginRegular_link _
    · rw [beginStep_svy]
    · rfl

theorem settle_link (s : State) : (settle s).svy.link = s.svy.link := by
  rw [settle_svy]
  unfold beginGapFocus
  repeat' split
  · rw [beginStep_svy]
  all_goals rfl

/-- With a swap that does not wait for the first pass, or none, the walk writes no more than the visited mark besides SVY's
own fields. -/
theorem nextStep_leaves (st : SurveyStep) {a : State} (started : Started a) : (nextStep st a).pln = a.pln ∧
    ∀ m : Nat, m ≠ st.slot → (nextStep st a).slots[m]? = a.slots[m]? := by
  have reported : (reportPassEnd a).pln = a.pln ∧ (reportPassEnd a).slots = a.slots := by
    unfold reportPassEnd
    split
    · exact ⟨rfl, rfl⟩
    · rw [takeFirstPass_of_started (s := { a with svy.firstPassDone := true }) started]
      exact ⟨rfl, rfl⟩
  have regularly (n : Nat) : (afterRegular n a).pln = a.pln ∧ (afterRegular n a).slots = a.slots := by
    unfold afterRegular
    repeat' split
    · simp
    · simp
    · simp [reported]
  unfold nextStep
  split
  · split
    · exact ⟨(regularly _).1, fun _ _ => by rw [(regularly _).2]⟩
    · exact ⟨by simp, fun m other => by simp [modSlot, other.symm]⟩
  · exact ⟨(regularly _).1, fun _ _ => by rw [(regularly _).2]⟩
  · exact ⟨by simp, fun _ _ => by simp⟩

/-! ### The record the step leaves -/

section
variable {st : SurveyStep} {seen hot : Bool} {levels : List Bool} {sl : Slot} {s : State}

/-- The record the step leaves in its slot: the visit's, or after an exchange that of a slot in SETTLING (R13). -/
def stepResult (st : SurveyStep) (seen : Bool) (levels : List Bool) (hot : Bool) (sl : Slot) (s : State) : Slot :=
  if (stepVisit st seen levels sl s).exchanged then (stepRecord st seen levels hot sl s).resettled
  else stepRecord st seen levels hot sl s

/-- The state in which the survey goes on, with no swap on the slot. -/
def stepWritten (st : SurveyStep) (seen : Bool) (levels : List Bool) (hot : Bool) (sl : Slot) (s : State) : State :=
  setReplan { stepVisited st seen levels hot sl s with
    slots := s.slots.modify st.slot (fun _ => stepResult st seen levels hot sl s) }

theorem applyStep_of_deaf_eq (slot : s.slots[st.slot]? = some sl)
    (deaf : ∀ u : State, u.seq.active = s.seq.active → DeafTo st.slot u) :
    applyStep st seen levels hot (stepEnding st seen s) = stepWritten st seen levels hot sl s := by
  obtain ⟨-, -, -, -, -, -, -, -, slots⟩ :=
    stepVisited_fields (st := st) (seen := seen) (levels := levels) (hot := hot) (x := sl) (s := s)
  refine (applyStep_of_deaf (s := stepEnding st seen s) slot deaf).trans (congrArg setReplan ?_)
  rw [visit_exchanged]
  show (if (stepVisit st seen levels sl s).exchanged then _ else _) = _
  unfold stepResult
  split
  · unfold modSlot
    rw [slots, List.modify_modify_eq]
    rfl
  · rw [← slots]

theorem applyStep_unwatched_eq (slot : s.slots[st.slot]? = some sl) (h : Unwatched st.slot s) :
    applyStep st seen levels hot (stepEnding st seen s) = stepWritten st seen levels hot sl s :=
  applyStep_of_deaf_eq slot fun _ active => deafTo_of_unwatched (unwatched_congr h active)

/-- Everything of the step's end that O47 names besides the slot's record. -/
theorem stepDone_unwatched (works : operates s = true) (slot : s.slots[st.slot]? = some sl) (h : Unwatched st.slot s) :
    (∃ b, (stepDone st seen levels hot s).slots[st.slot]? =
      some { stepResult st seen levels hot sl s with visited := b }) ∧
    (∀ m, m ≠ st.slot → (stepDone st seen levels hot s).slots[m]? = s.slots[m]?) ∧
    (stepDone st seen levels hot s).pln.pass.isSome = true ∧ (stepDone st seen levels hot s).lif = s.lif ∧
    (stepDone st seen levels hot s).alw = s.alw ∧ (stepDone st seen levels hot s).rhs = s.rhs ∧
    (stepDone st seen levels hot s).sul = s.sul ∧ (stepDone st seen levels hot s).seq.active = s.seq.active ∧
    (stepDone st seen levels hot s).svy.link = linkSent st seen ∧
    (stepDone st seen levels hot s).counters = (stepVisited st seen levels hot sl s).counters := by
  obtain ⟨-, lif, -, -, seq, rhs, -⟩ :=
    stepVisited_fields (st := st) (seen := seen) (levels := levels) (hot := hot) (x := sl) (s := s)
  let a := stepWritten st seen levels hot sl s
  have started : Started a := by
    intro w hw
    exact (h w ((congrArg Seq.active seq).symm.trans hw)).1
  have trail : Trails a (stepDone st seen levels hot s) := by
    unfold stepDone
    rw [applyStep_unwatched_eq slot h]
    exact (trails_nextStep st started).trans (trails_settle _)
  have done : stepDone st seen levels hot s = settle (nextStep st a) := by
    unfold stepDone
    rw [applyStep_unwatched_eq slot h]
  obtain ⟨pln, others⟩ := nextStep_leaves st started
  have there : a.slots[st.slot]? = some (stepResult st seen levels hot sl s) := by
    simp [a, stepWritten, slot]
  refine ⟨trail.slot _ _ there, fun m other => ?_, ?_, trail.lif.trans lif, ?_, trail.rhs.trans rhs, ?_,
    trail.active.trans (congrArg Seq.active seq), ?_, trail.counters⟩
  · rw [done, (settle_frame _).2.2.1, others m other]
    simp [a, stepWritten, other.symm]
  · rw [done]
    refine settle_pass_isSome ?_ (.inl ?_)
    · rw [← works]
      exact operates_congr (by simp [a, stepWritten, stepEnding]) (by simp [a, stepWritten, stepEnding])
    · rw [pln]
      rfl
  · rw [done]
    simp [a, stepWritten, stepEnding]
  · rw [done]
    simp [a, stepWritten, stepEnding]
  · rw [done, settle_link, nextStep_link]
    show (stepVisited st seen levels hot sl s).svy.link = _
    rw [(afterVisit_frame _ _ _ _ _ _).2.2.1]
    rfl

/-! ### Its fields -/

/-- A visit without an exchange leaves the condition machine's record, the setpoint 0 unless it is OCCUPIED. -/
theorem stepResult_of_whole (whole : (stepVisit st seen levels sl s).exchanged = false) : ∃ c r,
    stepResult st seen levels hot sl s = { (stepVisit st seen levels sl s).slot with
      present := ((stepVisit st seen levels sl s).slot.presence seen).present, cut := c, ready := r
      setpoint := if (stepVisit st seen levels sl s).slot.cond = .occupied
        then (stepVisit st seen levels sl s).slot.setpoint else 0 } := by
  unfold stepResult
  rw [whole, if_neg (by simp)]
  exact finished_eq _ _ _ _ _ _

theorem stepResult_of_exchanged (exchanged : (stepVisit st seen levels sl s).exchanged = true) : ∃ c r,
    stepResult st seen levels hot sl s = Slot.resettled { (stepVisit st seen levels sl s).slot with
      present := ((stepVisit st seen levels sl s).slot.presence seen).present, cut := c, ready := r
      setpoint := if (stepVisit st seen levels sl s).slot.cond = .occupied
        then (stepVisit st seen levels sl s).slot.setpoint else 0 } := by
  unfold stepResult
  rw [exchanged, if_pos rfl]
  obtain ⟨c, r, h⟩ := finished_eq s.sul.cfg seen hot (stepVisit st seen levels sl s).exchanged
    (stepOutcome st seen levels) (stepVisit st seen levels sl s).slot
  exact ⟨c, r, congrArg Slot.resettled h⟩

theorem stepResult_cut : (stepResult st seen levels hot sl s).cut =
    (((stepVisit st seen levels sl s).slot.presence seen).cooled s.sul.cfg hot
      (stepVisit st seen levels sl s).exchanged (stepOutcome st seen levels)).cut := by
  rw [← finished_cut]
  unfold stepResult
  split <;> rfl

end

end Sys2Proof.Machine
end


section
/-! PROOF. The conditions a survey step moves, assembled (O47; R5, R6, R12 to R17, R20, R93). -/

namespace Sys2Proof.Machine

open Sys2Proof

section
variable {st : SurveyStep} {seen hot : Bool} {levels : List Bool} {sl : Slot} {s : State}

/-! ### The door-clear mark and the cut -/

/-- A visit that sees presence with the door closed sets the door-clear mark, and no other visit moves it (R13, R18). -/
theorem visited_doorClear (d : Bool) (now : Word) (o : ReadOutcome) :
    (visited d now seen o sl).slot.doorClear = (sl.doorClear || (seen && !d)) := by
  cases seen with
  | true =>
    simp only [visited, visitSeen, visitSettling, visitOccupied, takePack, confirmRemoval, if_true]
    repeat' split
    all_goals simp [Slot.occupiedBy, Slot.faulted, Slot.emptied]
  | false =>
    simp only [visited, visitAbsent, confirmRemoval, Bool.false_eq_true, if_false]
    repeat' split
    all_goals simp [Slot.faulted, Slot.emptied]

theorem stepResult_doorClear :
    (stepResult st seen levels hot sl s).doorClear = (sl.doorClear || (seen && !s.sul.doorOpen)) := by
  have mark : (stepVisit st seen levels sl s).slot.doorClear = (sl.doorClear || (seen && !s.sul.doorOpen)) :=
    visited_doorClear _ _ _
  cases exchanged : (stepVisit st seen levels sl s).exchanged with
  | true =>
    obtain ⟨c, r, run⟩ := stepResult_of_exchanged (hot := hot) exchanged
    rw [run]
    exact mark
  | false =>
    obtain ⟨c, r, run⟩ := stepResult_of_whole (hot := hot) exchanged
    rw [run]
    exact mark

/-- The fields a step leaves to SEQ. -/
theorem stepResult_kept : (stepResult st seen levels hot sl s).role = sl.role ∧
    (stepResult st seen levels hot sl s).rid = sl.rid ∧
    (stepResult st seen levels hot sl s).unlocked = sl.unlocked := by
  obtain ⟨-, -, role, rid, unlocked⟩ :=
    stepRecord_fields (st := st) (seen := seen) (levels := levels) (hot := hot) (s := s) (x := sl)
  unfold stepResult
  split <;> exact ⟨role, rid, unlocked⟩

/-- The cut as the step leaves it: cleared when the comparator is low, no pack was exchanged, and the slot is EMPTY or its
record is cool (R20). -/
theorem stepResult_cut_eq : (stepResult st seen levels hot sl s).cut =
    if hot = false ∧ (stepVisit st seen levels sl s).exchanged = false ∧
      (((stepVisit st seen levels sl s).slot.cond = .occupied ∧
        coolRecord s.sul.cfg (stepOutcome st seen levels) = true) ∨
        (stepVisit st seen levels sl s).slot.cond = .empty) then false else sl.cut := by
  have kept : (stepVisit st seen levels sl s).slot.cut = sl.cut := by
    have h := visited_kept s.sul.doorOpen s.rhs.seconds seen (stepOutcome st seen levels) sl
    simp only [Slot.kept, Prod.mk.injEq] at h
    exact h.2.2.2.2.1
  rw [stepResult_cut, ← kept]
  generalize stepVisit st seen levels sl s = v
  have same : (!hot && !v.exchanged && (decide ((v.slot.presence seen).cond = .occupied) &&
        coolRecord s.sul.cfg (stepOutcome st seen levels) || decide ((v.slot.presence seen).cond = .empty))) = true ↔
      hot = false ∧ v.exchanged = false ∧ ((v.slot.cond = .occupied ∧
        coolRecord s.sul.cfg (stepOutcome st seen levels) = true) ∨ v.slot.cond = .empty) := by
    simp [and_assoc, Slot.presence]
  unfold Slot.cooled
  split
  · next h => rw [if_pos (same.1 h)]
  · next h =>
    rw [if_neg (fun k => h (same.2 k))]
    rfl

/-- The condition as the step leaves it. -/
theorem stepResult_cond : (stepResult st seen levels hot sl s).cond =
    if (stepVisit st seen levels sl s).exchanged then .settling else (stepVisit st seen levels sl s).slot.cond := by
  unfold stepResult
  split
  · rfl
  · exact (stepRecord_fields (st := st) (seen := seen) (levels := levels) (hot := hot) (s := s) (x := sl)).1

/-! ### The counts -/

/-- Only a third visit of a SETTLING slot reports it UNREADABLE (R12). -/
theorem settling_of_unreadable_report {d : Bool} {now : Word} {o : ReadOutcome}
    (report : (visited d now seen o sl).report = some ⟨.insertion, .unreadable, none, none⟩) :
    sl.cond = .settling ∧ (visited d now seen o sl).slot.cond = .unreadable ∧
      (visited d now seen o sl).exchanged = false := by
  revert report
  cases cond : sl.cond <;> cases seen <;>
    simp only [visited, visitSeen, visitAbsent, visitSettling, visitOccupied, takePack, confirmRemoval, cond, if_true,
      Bool.false_eq_true, if_false] <;> repeat' split
  all_goals simp

theorem countOutcome_counters_congr {a b : State} (o : ReadOutcome) (h : a.counters = b.counters) :
    (countOutcome o a).counters = (countOutcome o b).counters := by
  cases o <;> simp [countOutcome, bump, h]

/-- The counts of a step: its outcome's, and the slot's that becomes UNREADABLE (R5, R12). -/
theorem stepVisited_counters : (stepVisited st seen levels hot sl s).counters =
    (bumpIf (decide ((stepVisit st seen levels sl s).report = some ⟨.insertion, .unreadable, none, none⟩)) .unreadable
      (countOutcome (stepOutcome st seen levels) s)).counters :=
  bumpIf_counters_congr _ _ (countOutcome_counters_congr _ rfl)

theorem countOutcome_length (o : ReadOutcome) (s : State) (full : s.counters.length = 32) :
    (countOutcome o s).counters.length = 32 := by
  cases o <;> simp [countOutcome, bump, full]

/-- The counters of reads that fail (R5). -/
theorem count_countOutcome (o : ReadOutcome) (full : s.counters.length = 32) :
    (countOutcome o s).count .linkCrc = (if o = .badCrc then satInc (s.count .linkCrc) else s.count .linkCrc) ∧
    (countOutcome o s).count .noReply =
      (if o = .noReply ∨ o = .invalid then satInc (s.count .noReply) else s.count .noReply) ∧
    (countOutcome o s).count .unreadable = s.count .unreadable := by
  cases o with
  | valid p => exact ⟨rfl, rfl, rfl⟩
  | noRead => exact ⟨rfl, rfl, rfl⟩
  | badCrc => exact ⟨count_bump_same full, count_bump_other (by decide) s, count_bump_other (by decide) s⟩
  | noReply => exact ⟨count_bump_other (by decide) s, count_bump_same full, count_bump_other (by decide) s⟩
  | invalid => exact ⟨count_bump_other (by decide) s, count_bump_same full, count_bump_other (by decide) s⟩

theorem count_stepVisited (full : s.counters.length = 32) :
    (stepVisited st seen levels hot sl s).count .linkCrc = (if stepOutcome st seen levels = .badCrc
      then satInc (s.count .linkCrc) else s.count .linkCrc) ∧
    (stepVisited st seen levels hot sl s).count .noReply =
      (if stepOutcome st seen levels = .noReply ∨ stepOutcome st seen levels = .invalid
        then satInc (s.count .noReply) else s.count .noReply) ∧
    (stepVisited st seen levels hot sl s).count .unreadable =
      (if (stepVisit st seen levels sl s).report = some ⟨.insertion, .unreadable, none, none⟩
        then satInc (s.count .unreadable) else s.count .unreadable) := by
  let u := countOutcome (stepOutcome st seen levels) s
  obtain ⟨crc, reply, unreadable⟩ := count_countOutcome (stepOutcome st seen levels) full
  have counted (k : Counter) := count_congr
    (stepVisited_counters (st := st) (seen := seen) (levels := levels) (hot := hot) (sl := sl) (s := s)) k
  by_cases report : (stepVisit st seen levels sl s).report = some ⟨.insertion, .unreadable, none, none⟩
  · have run : bumpIf (decide ((stepVisit st seen levels sl s).report = some ⟨.insertion, .unreadable, none, none⟩))
        .unreadable u = bump .unreadable u := by simp [report, bumpIf]
    rw [counted, counted, counted, run, if_pos report, ← crc, ← reply, ← unreadable]
    exact ⟨count_bump_other (by decide) u, count_bump_other (by decide) u,
      count_bump_same (countOutcome_length _ _ full)⟩
  · have run : bumpIf (decide ((stepVisit st seen levels sl s).report = some ⟨.insertion, .unreadable, none, none⟩))
        .unreadable u = u := by simp [report, bumpIf]
    rw [counted, counted, counted, run, if_neg report]
    exact ⟨crc, reply, unreadable⟩

end

end Sys2Proof.Machine
end


section
/-! PROOF. A survey step by the condition of its slot (O47; R9, R12 to R17, R91, R93). -/

namespace Sys2Proof.Machine

open Sys2Proof

section
variable {st : SurveyStep} {seen hot : Bool} {levels : List Bool} {sl : Slot} {s : State} {p q : Pack}

/-! ### The record after a visit without an exchange -/

theorem stepResult_fields (whole : (stepVisit st seen levels sl s).exchanged = false) :
    (stepResult st seen levels hot sl s).cond = (stepVisit st seen levels sl s).slot.cond ∧
    (stepResult st seen levels hot sl s).pack = (stepVisit st seen levels sl s).slot.pack ∧
    (stepResult st seen levels hot sl s).goodAt = (stepVisit st seen levels sl s).slot.goodAt ∧
    (stepResult st seen levels hot sl s).reason = (stepVisit st seen levels sl s).slot.reason ∧
    (stepResult st seen levels hot sl s).presentCount = (stepVisit st seen levels sl s).slot.presentCount ∧
    (stepResult st seen levels hot sl s).absentCount = (stepVisit st seen levels sl s).slot.absentCount := by
  obtain ⟨c, r, run⟩ := stepResult_of_whole (hot := hot) whole
  rw [run]
  exact ⟨rfl, rfl, rfl, rfl, rfl, rfl⟩

/-- Charging stops where no pack is OCCUPIED (R93). -/
theorem stepResult_setpoint_zero (idle : (stepVisit st seen levels sl s).slot.cond ≠ .occupied) :
    (stepResult st seen levels hot sl s).setpoint = 0 := by
  cases exchanged : (stepVisit st seen levels sl s).exchanged with
  | true =>
    obtain ⟨c, r, run⟩ := stepResult_of_exchanged (hot := hot) exchanged
    rw [run]
    exact if_neg idle
  | false =>
    obtain ⟨c, r, run⟩ := stepResult_of_whole (hot := hot) exchanged
    rw [run]
    exact if_neg idle

/-- The ready estimate of a slot that the step leaves with a pack (R91). -/
theorem stepResult_ready (whole : (stepVisit st seen levels sl s).exchanged = false)
    (cond : (stepResult st seen levels hot sl s).cond = .occupied)
    (pack : (stepResult st seen levels hot sl s).pack = some p) :
    (stepResult st seen levels hot sl s).ready =
      readyEstimate (s.sul.cfg.figures p.cls) p.soc (stepResult st seen levels hot sl s).setpoint := by
  have now : (stepResult st seen levels hot sl s).ready = (stepResult st seen levels hot sl s).readyNow s.sul.cfg := by
    unfold stepResult
    rw [whole, if_neg (by simp)]
    exact afterSurvey_ready s.sul.cfg _
  rw [now]
  unfold Slot.readyNow
  rw [if_pos cond, pack]

/-! ### EMPTY -/

theorem step_of_empty_seen (cond : sl.cond = .empty) :
    (stepResult st true levels hot sl s).cond = .settling ∧ (stepResult st true levels hot sl s).present = true ∧
    (stepResult st true levels hot sl s).presentCount = 1 ∧ (stepResult st true levels hot sl s).absentCount = 0 ∧
    (stepResult st true levels hot sl s).setpoint = 0 := by
  have v : stepVisit st true levels sl s = _ := visited_empty_seen cond
  obtain ⟨c, r, run⟩ := stepResult_of_whole (hot := hot) (congrArg Visit.exchanged v)
  rw [run, v]
  exact ⟨rfl, rfl, rfl, rfl, rfl⟩

theorem step_of_empty_absent (cond : sl.cond = .empty) :
    (stepResult st false levels hot sl s).cond = .empty ∧ (stepResult st false levels hot sl s).present = false := by
  have v : stepVisit st false levels sl s = _ := visited_empty_absent cond
  obtain ⟨c, r, run⟩ := stepResult_of_whole (hot := hot) (congrArg Visit.exchanged v)
  rw [run, v]
  exact ⟨rfl, if_pos (.inr rfl)⟩

/-! ### SETTLING -/

section
variable (readable : st.readable = true) (read : readReply (linkChars levels) = .valid p)
include readable read

theorem stepOutcome_valid : stepOutcome st true levels = .valid p := (stepOutcome_of_read levels readable).trans read

theorem step_of_settling_read (cond : sl.cond = .settling) (ok : p.ok = true) :
    (stepResult st true levels hot sl s).cond = .occupied ∧ (stepResult st true levels hot sl s).pack = some p ∧
    (stepResult st true levels hot sl s).goodAt = s.rhs.seconds ∧
    (stepResult st true levels hot sl s).ready =
      readyEstimate (s.sul.cfg.figures p.cls) p.soc (stepResult st true levels hot sl s).setpoint := by
  obtain ⟨whole, good, -⟩ := visited_settling_read (d := s.sul.doorOpen) (now := s.rhs.seconds) cond
    (stepOutcome_valid readable read)
  obtain ⟨occupied, pack, goodAt, -⟩ := good ok
  obtain ⟨fcond, fpack, fgood, -⟩ := stepResult_fields (hot := hot) (s := s) whole
  exact ⟨fcond.trans occupied, fpack.trans pack, fgood.trans goodAt,
    stepResult_ready whole (fcond.trans occupied) (fpack.trans pack)⟩

theorem step_of_settling_bad (cond : sl.cond = .settling) (bad : p.ok = false) :
    (stepResult st true levels hot sl s).cond = .fault ∧
    (stepResult st true levels hot sl s).reason = some .packFault ∧
    (stepResult st true levels hot sl s).pack = none := by
  obtain ⟨whole, -, fault⟩ := visited_settling_read (d := s.sul.doorOpen) (now := s.rhs.seconds) cond
    (stepOutcome_valid readable read)
  obtain ⟨faulty, reason, pack, -⟩ := fault bad
  obtain ⟨fcond, fpack, -, freason, -⟩ := stepResult_fields (hot := hot) (s := s) whole
  exact ⟨fcond.trans faulty, freason.trans reason, fpack.trans pack⟩

end

theorem step_of_settling_unread (cond : sl.cond = .settling) (unread : ∀ p, readReply (linkChars levels) ≠ .valid p) :
    (2 ≤ sl.presentCount → (stepResult st true levels hot sl s).cond = .unreadable ∧
      (stepResult st true levels hot sl s).presentCount = 3 ∧
      (stepVisit st true levels sl s).report = some ⟨.insertion, .unreadable, none, none⟩) ∧
    (sl.presentCount < 2 → (stepResult st true levels hot sl s).cond = .settling ∧
      (stepResult st true levels hot sl s).presentCount = sl.presentCount + 1) := by
  obtain ⟨third, before⟩ := visited_settling_unread (d := s.sul.doorOpen) (now := s.rhs.seconds) cond
    (stepOutcome_unread (st := st) unread true)
  refine ⟨fun h => ?_, fun h => ?_⟩
  · obtain ⟨unreadable, count, report, whole⟩ := third h
    obtain ⟨fcond, -, -, -, fcount, -⟩ := stepResult_fields (hot := hot) (s := s) whole
    exact ⟨fcond.trans unreadable, fcount.trans count, report⟩
  · obtain ⟨settling, count, -, whole⟩ := before h
    obtain ⟨fcond, -, -, -, fcount, -⟩ := stepResult_fields (hot := hot) (s := s) whole
    exact ⟨fcond.trans settling, fcount.trans count⟩

theorem step_of_settling_absent (cond : sl.cond = .settling) :
    (stepResult st false levels hot sl s).cond = .empty ∧ (stepResult st false levels hot sl s).present = false := by
  have v : stepVisit st false levels sl s = _ := visited_settling_absent cond
  obtain ⟨c, r, run⟩ := stepResult_of_whole (hot := hot) (congrArg Visit.exchanged v)
  rw [run, v]
  exact ⟨rfl, rfl⟩

/-! ### OCCUPIED -/

/-- The tamper test of a slot whose door-clear mark the visit has written (R13, R14). -/
theorem tampered_seen (d : Bool) : tampered { sl with absentCount := 0, doorClear := sl.doorClear || !d } = true ↔
    sl.unlocked = false ∧ (sl.doorClear = true ∨ d = false) ∧ sl.role ≠ .releasing := by
  simp [tampered, and_assoc]

theorem step_of_occupied_same (readable : st.readable = true) (read : readReply (linkChars levels) = .valid p)
    (cond : sl.cond = .occupied) (pack : sl.pack = some q) (same : q.id = p.id) :
    (p.ok = true → (stepResult st true levels hot sl s).cond = .occupied ∧
      (stepResult st true levels hot sl s).pack = some p ∧
      (stepResult st true levels hot sl s).goodAt = s.rhs.seconds) ∧
    (p.ok = false → (stepResult st true levels hot sl s).cond = .fault ∧
      (stepResult st true levels hot sl s).reason = some .packFault ∧
      (stepResult st true levels hot sl s).pack = none) := by
  obtain ⟨whole, good, fault⟩ := visited_occupied_same (d := s.sul.doorOpen) (now := s.rhs.seconds) cond
    (stepOutcome_valid readable read) pack same
  obtain ⟨fcond, fpack, fgood, freason, -⟩ := stepResult_fields (hot := hot) (s := s) whole
  refine ⟨fun ok => ?_, fun bad => ?_⟩
  · obtain ⟨occupied, taken, goodAt, -⟩ := good ok
    exact ⟨fcond.trans occupied, fpack.trans taken, fgood.trans goodAt⟩
  · obtain ⟨faulty, reason, gone⟩ := fault bad
    exact ⟨fcond.trans faulty, freason.trans reason, fpack.trans gone⟩

theorem step_of_occupied_other (readable : st.readable = true) (read : readReply (linkChars levels) = .valid p)
    (cond : sl.cond = .occupied) (pack : sl.pack = some q) (other : q.id ≠ p.id) :
    ((sl.unlocked = false ∧ (sl.doorClear = true ∨ s.sul.doorOpen = false) ∧ sl.role ≠ .releasing) →
      (stepResult st true levels hot sl s).cond = .fault ∧
      (stepResult st true levels hot sl s).reason = some .tamper ∧
      (stepResult st true levels hot sl s).pack = none ∧
      (stepResult st true levels hot sl s).doorCycle = false) ∧
    (¬ (sl.unlocked = false ∧ (sl.doorClear = true ∨ s.sul.doorOpen = false) ∧ sl.role ≠ .releasing) →
      (stepResult st true levels hot sl s).cond = .settling ∧ (stepResult st true levels hot sl s).pack = none ∧
      (stepResult st true levels hot sl s).presentCount = 1 ∧
      (stepResult st true levels hot sl s).absentCount = 0 ∧
      (stepResult st true levels hot sl s).present = true ∧
      (stepResult st true levels hot sl s).setpoint = 0) := by
  have v : stepVisit st true levels sl s = _ :=
    visited_occupied_other (d := s.sul.doorOpen) (now := s.rhs.seconds) cond (stepOutcome_valid readable read) pack other
  unfold confirmRemoval at v
  rw [← tampered_seen]
  refine ⟨fun tamper => ?_, fun fair => ?_⟩
  · rw [if_pos tamper] at v
    obtain ⟨c, r, run⟩ := stepResult_of_whole (hot := hot) (congrArg Visit.exchanged v)
    rw [run, v]
    exact ⟨rfl, rfl, rfl, rfl⟩
  · rw [if_neg fair] at v
    obtain ⟨c, r, run⟩ := stepResult_of_exchanged (hot := hot) (congrArg Visit.exchanged v)
    rw [run, v]
    exact ⟨rfl, rfl, rfl, rfl, rfl, rfl⟩

theorem thirty_le_ageOf (now t : Word) : 30 ≤ ageOf now t ↔ 30 ≤ (now - t).toNat := by
  show 30 ≤ min 65535 (now - t).toNat ↔ _
  omega

theorem step_of_occupied_unread (cond : sl.cond = .occupied) (unread : ∀ p, readReply (linkChars levels) ≠ .valid p) :
    (30 ≤ (s.rhs.seconds - sl.goodAt).toNat → (stepResult st true levels hot sl s).cond = .fault ∧
      (stepResult st true levels hot sl s).reason = some .unreadableTimeout ∧
      (stepResult st true levels hot sl s).pack = none ∧ (stepResult st true levels hot sl s).setpoint = 0) ∧
    ((s.rhs.seconds - sl.goodAt).toNat < 30 → (stepResult st true levels hot sl s).cond = .occupied ∧
      (stepResult st true levels hot sl s).pack = sl.pack ∧
      (stepResult st true levels hot sl s).goodAt = sl.goodAt ∧
      (stepResult st true levels hot sl s).absentCount = 0) := by
  obtain ⟨whole, late, young⟩ := visited_occupied_unread (d := s.sul.doorOpen) (now := s.rhs.seconds) cond
    (stepOutcome_unread (st := st) unread true)
  obtain ⟨fcond, fpack, fgood, freason, -, fabsent⟩ := stepResult_fields (hot := hot) (s := s) whole
  rw [thirty_le_ageOf] at late young
  refine ⟨fun h => ?_, fun h => ?_⟩
  · obtain ⟨faulty, reason, gone⟩ := late h
    refine ⟨fcond.trans faulty, freason.trans reason, fpack.trans gone, stepResult_setpoint_zero ?_⟩
    exact fun occupied => nomatch faulty.symm.trans occupied
  · obtain ⟨occupied, pack, goodAt, absent⟩ := young (by omega)
    exact ⟨fcond.trans occupied, fpack.trans pack, fgood.trans goodAt, fabsent.trans absent⟩

/-- The first absent visit of a slot that held a pack (R14, R15, R16). -/
theorem step_of_absent_first (cond : sl.cond = .occupied ∨ sl.cond = .unreadable ∨ sl.cond = .fault)
    (first : sl.absentCount = 0) : (stepResult st false levels hot sl s).cond = sl.cond ∧
      (stepResult st false levels hot sl s).pack = sl.pack ∧
      (stepResult st false levels hot sl s).reason = sl.reason ∧
      (stepResult st false levels hot sl s).absentCount = 1 := by
  have v : stepVisit st false levels sl s = _ := visited_absent_first cond first
  obtain ⟨fcond, fpack, -, freason, -, fabsent⟩ := stepResult_fields (hot := hot) (congrArg Visit.exchanged v)
  rw [v] at fcond fpack freason fabsent
  exact ⟨fcond, fpack, freason, fabsent⟩

theorem step_of_occupied_removed (cond : sl.cond = .occupied) (again : 1 ≤ sl.absentCount) :
    (sl.unlocked = false → sl.doorClear = true → sl.role ≠ .releasing →
      (stepResult st false levels hot sl s).cond = .fault ∧
      (stepResult st false levels hot sl s).reason = some .tamper ∧
      (stepResult st false levels hot sl s).pack = none ∧ (stepResult st false levels hot sl s).setpoint = 0) ∧
    ((sl.unlocked = true ∨ sl.doorClear = false ∨ sl.role = .releasing) →
      (stepResult st false levels hot sl s).cond = .empty ∧ (stepResult st false levels hot sl s).pack = none ∧
      (stepResult st false levels hot sl s).setpoint = 0) := by
  have v : stepVisit st false levels sl s = _ :=
    visited_occupied_removed (d := s.sul.doorOpen) (now := s.rhs.seconds) cond again
  unfold confirmRemoval at v
  refine ⟨fun locked clear role => ?_, fun fair => ?_⟩
  · rw [if_pos (by simp [tampered, locked, clear, role])] at v
    obtain ⟨c, r, run⟩ := stepResult_of_whole (hot := hot) (congrArg Visit.exchanged v)
    rw [run, v]
    exact ⟨rfl, rfl, rfl, rfl⟩
  · rw [if_neg (by rcases fair with h | h | h <;> simp [tampered, h])] at v
    obtain ⟨c, r, run⟩ := stepResult_of_whole (hot := hot) (congrArg Visit.exchanged v)
    rw [run, v]
    exact ⟨rfl, rfl, rfl⟩

/-! ### UNREADABLE -/

theorem step_of_unreadable_read (readable : st.readable = true) (read : readReply (linkChars levels) = .valid p)
    (cond : sl.cond = .unreadable) :
    (p.ok = true → (stepResult st true levels hot sl s).cond = .occupied ∧
      (stepResult st true levels hot sl s).pack = some p ∧
      (stepResult st true levels hot sl s).goodAt = s.rhs.seconds) ∧
    (p.ok = false → (stepResult st true levels hot sl s).cond = .fault ∧
      (stepResult st true levels hot sl s).reason = some .packFault ∧
      (stepResult st true levels hot sl s).pack = none) := by
  obtain ⟨whole, good, fault⟩ := visited_unreadable_read (d := s.sul.doorOpen) (now := s.rhs.seconds) cond
    (stepOutcome_valid readable read)
  obtain ⟨fcond, fpack, fgood, freason, -⟩ := stepResult_fields (hot := hot) (s := s) whole
  refine ⟨fun ok => ?_, fun bad => ?_⟩
  · obtain ⟨occupied, taken, goodAt⟩ := good ok
    exact ⟨fcond.trans occupied, fpack.trans taken, fgood.trans goodAt⟩
  · obtain ⟨faulty, reason, gone⟩ := fault bad
    exact ⟨fcond.trans faulty, freason.trans reason, fpack.trans gone⟩

theorem step_of_unreadable_unread (cond : sl.cond = .unreadable)
    (unread : ∀ p, readReply (linkChars levels) ≠ .valid p) :
    (stepResult st true levels hot sl s).cond = .unreadable ∧
    (stepResult st true levels hot sl s).absentCount = 0 := by
  have v : stepVisit st true levels sl s = _ := visited_unreadable_unread cond (stepOutcome_unread unread true)
  obtain ⟨fcond, -, -, -, -, fabsent⟩ := stepResult_fields (hot := hot) (congrArg Visit.exchanged v)
  rw [v] at fcond fabsent
  exact ⟨fcond, fabsent⟩

theorem step_of_unreadable_removed (cond : sl.cond = .unreadable) (again : 1 ≤ sl.absentCount) :
    (stepResult st false levels hot sl s).cond = .empty ∧ (stepResult st false levels hot sl s).pack = none := by
  have v : stepVisit st false levels sl s = _ := visited_unreadable_removed cond again
  obtain ⟨fcond, fpack, -⟩ := stepResult_fields (hot := hot) (congrArg Visit.exchanged v)
  rw [v] at fcond fpack
  exact ⟨fcond, fpack⟩

/-! ### FAULT -/

theorem step_of_fault_seen (cond : sl.cond = .fault) :
    (stepResult st true levels hot sl s).cond = .fault ∧
    (stepResult st true levels hot sl s).reason = sl.reason ∧
    (stepResult st true levels hot sl s).absentCount = 0 := by
  have v : stepVisit st true levels sl s = _ := visited_fault_seen cond
  obtain ⟨fcond, -, -, freason, -, fabsent⟩ := stepResult_fields (hot := hot) (congrArg Visit.exchanged v)
  rw [v] at fcond freason fabsent
  exact ⟨fcond, freason, fabsent⟩

theorem step_of_fault_absent (cond : sl.cond = .fault) (again : 1 ≤ sl.absentCount) :
    ((sl.reason ≠ some .tamper ∨ sl.doorCycle = true) → (stepResult st false levels hot sl s).cond = .empty ∧
      (stepResult st false levels hot sl s).reason = none) ∧
    (sl.reason = some .tamper → sl.doorCycle = false → (stepResult st false levels hot sl s).cond = .fault ∧
      (stepResult st false levels hot sl s).reason = some .tamper ∧
      (stepResult st false levels hot sl s).absentCount = 2) := by
  obtain ⟨plain, cycled, standing⟩ := visited_fault_removed (d := s.sul.doorOpen) (now := s.rhs.seconds)
    (o := stepOutcome st false levels) cond again
  have emptied {k : ReportKind} (v : stepVisit st false levels sl s =
      ⟨Slot.emptied { sl with absentCount := 2 }, some ⟨k, .empty, none, none⟩, false⟩) :
      (stepResult st false levels hot sl s).cond = .empty ∧ (stepResult st false levels hot sl s).reason = none := by
    obtain ⟨fcond, -, -, freason, -⟩ := stepResult_fields (hot := hot) (congrArg Visit.exchanged v)
    rw [v] at fcond freason
    exact ⟨fcond, freason⟩
  refine ⟨fun cleared => ?_, fun tamper still => ?_⟩
  · by_cases tamper : sl.reason = some .tamper
    · exact emptied (cycled tamper (cleared.resolve_left (fun h => h tamper)))
    · exact emptied (plain tamper)
  · have v : stepVisit st false levels sl s = _ := standing tamper still
    obtain ⟨fcond, -, -, freason, -, fabsent⟩ := stepResult_fields (hot := hot) (congrArg Visit.exchanged v)
    rw [v] at fcond freason fabsent
    exact ⟨fcond.trans cond, freason.trans tamper, fabsent⟩

/-! ### The thermal cut (R20) -/

theorem stepResult_cut_of_hot (high : hot = true) : (stepResult st seen levels hot sl s).cut = sl.cut := by
  rw [stepResult_cut_eq, if_neg (by simp [high])]

theorem cond_of_stepResult (other : (stepResult st seen levels hot sl s).cond ≠ .settling) :
    (stepVisit st seen levels sl s).exchanged = false ∧
    (stepVisit st seen levels sl s).slot.cond = (stepResult st seen levels hot sl s).cond := by
  rw [stepResult_cond] at other ⊢
  split at other
  · exact absurd rfl other
  · next h => exact ⟨by simpa using h, (if_neg h).symm⟩

theorem stepResult_cut_of_empty (low : hot = false) (empty : (stepResult st seen levels hot sl s).cond = .empty) :
    (stepResult st seen levels hot sl s).cut = false := by
  obtain ⟨whole, cond⟩ := cond_of_stepResult (by rw [empty]; decide)
  rw [stepResult_cut_eq, if_pos ⟨low, whole, .inr (cond.trans empty)⟩]

theorem stepResult_cut_of_read (low : hot = false) (occupied : (stepResult st seen levels hot sl s).cond = .occupied)
    (read : stepOutcome st seen levels = .valid p) : (stepResult st seen levels hot sl s).cut =
      if p.temp ≤ (s.sul.cfg.hotLimit : Int) - 5 then false else sl.cut := by
  obtain ⟨whole, cond⟩ := cond_of_stepResult (by rw [occupied]; decide)
  rw [stepResult_cut_eq, read]
  simp [low, whole, cond.trans occupied, coolRecord]

theorem stepResult_cut_of_unread (filled : (stepResult st seen levels hot sl s).cond ≠ .empty)
    (unread : (stepResult st seen levels hot sl s).cond = .occupied → ∀ p, stepOutcome st seen levels ≠ .valid p) :
    (stepResult st seen levels hot sl s).cut = sl.cut := by
  rw [stepResult_cut_eq, if_neg]
  rintro ⟨-, whole, h⟩
  have cond := (stepResult_fields (hot := hot) whole).1
  rcases h with ⟨occupied, cool⟩ | empty
  · obtain ⟨p, read⟩ : ∃ p, stepOutcome st seen levels = .valid p := by
      generalize stepOutcome st seen levels = o at cool
      cases o with
      | valid p => exact ⟨p, rfl⟩
      | _ => cases cool
    exact unread (cond.trans occupied) p read
  · exact filled (cond.trans empty)

/-! ### The link and the counts (R5, R9, R12) -/

theorem readCommand_levels :
    linkChar readCommand = [false, true, false, true, false, false, true, false, true, true] := by decide

theorem attempts_iff : attempts st seen = true ↔ seen = true ∧ st.readable = true := by simp [attempts]

theorem step_of_attempt (h : seen = true ∧ st.readable = true) :
    linkSent st seen = some (st.slot, [false, true, false, true, false, false, true, false, true, true]) ∧
    stepOutcome st seen levels = readReply (linkChars levels) := by
  unfold linkSent stepOutcome
  rw [if_pos (attempts_iff.2 h), if_pos (attempts_iff.2 h), readCommand_levels]
  exact ⟨rfl, rfl⟩

theorem step_of_no_attempt (h : ¬ (seen = true ∧ st.readable = true)) :
    linkSent st seen = none ∧ stepOutcome st seen levels = .noRead := by
  unfold linkSent stepOutcome
  rw [if_neg (fun k => h (attempts_iff.1 k)), if_neg (fun k => h (attempts_iff.1 k))]
  exact ⟨rfl, rfl⟩

theorem report_of_unreadable (h : sl.cond = .unreadable ∨ (stepResult st seen levels hot sl s).cond ≠ .unreadable) :
    (stepVisit st seen levels sl s).report ≠ some ⟨.insertion, .unreadable, none, none⟩ := by
  intro report
  obtain ⟨settling, unreadable, whole⟩ := settling_of_unreadable_report report
  rcases h with h | h
  · cases settling.symm.trans h
  · exact h ((stepResult_fields whole).1.trans unreadable)

end

end Sys2Proof.Machine
end


section
/-! PROOF. What a survey step makes of its slot (O47). -/

namespace Sys2Proof.Machine

open Sys2Proof

/-- Settles O47: the visit's record by the condition of the slot, the walk that leaves it but for the visited mark, and
the contact link's characters. -/
theorem surveyStepMovesTheCondition : Obligations.SurveyStepMovesTheCondition := by
  unfold Obligations.SurveyStepMovesTheCondition
  refine ⟨fun s st sl seen levels hot works step slot unwatched => ?_, linkChars_flatMap, readReply_cases⟩
  obtain ⟨⟨b, there⟩, others, pass, lif, alw, rhs, sul, active, link, counted⟩ :=
    stepDone_unwatched (seen := seen) (levels := levels) (hot := hot) works slot unwatched
  obtain ⟨role, rid, unlocked⟩ :=
    stepResult_kept (st := st) (seen := seen) (hot := hot) (levels := levels) (sl := sl) (s := s)
  have counts (full : s.counters.length = 32) :=
    count_stepVisited (st := st) (seen := seen) (levels := levels) (hot := hot) (sl := sl) full
  have same (c : Counter) := count_congr counted c
  refine ⟨stepDone st seen levels hot s, { stepResult st seen levels hot sl s with visited := b },
    exec_surveyStepEnd works step seen levels hot, there, ?_, ?_, ?_, ?_, ?_, ?_, ?_, ?_, ?_, ?_, ?_, ?_, ?_, ?_, ?_,
    stepResult_cut_of_hot, stepResult_cut_of_empty, ?_, ?_, ?_, ?_, ?_, ?_, stepResult_doorClear, role, rid, unlocked,
    others, pass, lif, alw, rhs, sul, active⟩
  · rintro cond rfl
    exact step_of_empty_seen cond
  · rintro cond rfl
    exact step_of_empty_absent cond
  · rintro p cond ⟨rfl, readable⟩ read ok
    exact step_of_settling_read readable read cond ok
  · rintro p cond ⟨rfl, readable⟩ read bad
    exact step_of_settling_bad readable read cond bad
  · rintro cond rfl unread
    obtain ⟨third, before⟩ := step_of_settling_unread (hot := hot) (st := st) (s := s) cond unread
    refine ⟨fun h => ?_, before⟩
    obtain ⟨unreadable, count, report⟩ := third h
    exact ⟨unreadable, count, fun full => (same _).trans ((counts full).2.2.trans (if_pos report))⟩
  · rintro cond rfl
    exact step_of_settling_absent cond
  · rintro p q cond ⟨rfl, readable⟩ read pack
    obtain known | other := eq_or_ne q.id p.id
    · obtain ⟨good, fault⟩ := step_of_occupied_same (hot := hot) (s := s) readable read cond pack known
      exact ⟨fun _ => good, fun _ => fault, fun h => absurd known h⟩
    · exact ⟨fun h => absurd h other, fun h => absurd h other,
        fun _ => step_of_occupied_other readable read cond pack other⟩
  · rintro cond rfl unread
    obtain ⟨late, young⟩ := step_of_occupied_unread (hot := hot) (st := st) (s := s) cond unread
    exact ⟨late, young⟩
  · rintro cond rfl first
    obtain ⟨occupied, pack, -, absent⟩ :=
      step_of_absent_first (hot := hot) (st := st) (s := s) (levels := levels) (.inl cond) first
    exact ⟨occupied.trans cond, pack, absent⟩
  · rintro cond rfl again
    exact step_of_occupied_removed cond again
  · rintro p cond ⟨rfl, readable⟩ read
    exact step_of_unreadable_read readable read cond
  · rintro cond rfl unread
    exact step_of_unreadable_unread cond unread
  · rintro cond rfl
    refine ⟨fun first => ?_, step_of_unreadable_removed cond⟩
    obtain ⟨unreadable, -, -, absent⟩ :=
      step_of_absent_first (hot := hot) (st := st) (s := s) (levels := levels) (.inr (.inl cond)) first
    exact ⟨unreadable.trans cond, absent⟩
  · rintro cond rfl
    exact step_of_fault_seen cond
  · rintro cond rfl
    refine ⟨fun first => ?_, fun again => (step_of_fault_absent cond again).1,
      fun again => (step_of_fault_absent cond again).2⟩
    obtain ⟨fault, -, reason, absent⟩ :=
      step_of_absent_first (hot := hot) (st := st) (s := s) (levels := levels) (.inr (.inr cond)) first
    exact ⟨fault.trans cond, reason, absent⟩
  · rintro p low occupied attempt read
    have cut := stepResult_cut_of_read low occupied ((step_of_attempt attempt).2.trans read)
    exact ⟨fun cool => cut.trans (if_pos cool), fun warm => cut.trans (if_neg (by omega))⟩
  · refine fun filled unread => stepResult_cut_of_unread filled fun occupied p => ?_
    rcases unread occupied with idle | other
    · rw [(step_of_no_attempt idle).2]
      nofun
    · exact stepOutcome_unread other seen p
  · exact fun attempt => link.trans (step_of_attempt (levels := levels) attempt).1
  · refine fun idle => ⟨link.trans (step_of_no_attempt (levels := levels) idle).1, fun full => ?_⟩
    obtain ⟨crc, reply, -⟩ := counts full
    rw [(step_of_no_attempt idle).2] at crc reply
    exact ⟨(same _).trans crc, (same _).trans reply⟩
  · intro attempt full
    obtain ⟨crc, reply, -⟩ := counts full
    rw [(step_of_attempt attempt).2] at crc reply
    exact ⟨(same _).trans crc, (same _).trans reply⟩
  · exact fun full known => (same _).trans ((counts full).2.2.trans (if_neg (report_of_unreadable known)))

end Sys2Proof.Machine
end


section
/-! PROOF. Caps, tiers, the walk and the greedy fill of a planning pass (O50; R79 to R88). -/

namespace Sys2Proof.Machine

open Sys2Proof

/-! ### Caps and tiers (R79 to R81, R84) -/

section
variable {cfg : Cfg}

theorem capOf_of_vacant {x : SnapSlot} (vacant : x.cond ≠ .occupied) : capOf cfg x = 0 := by
  unfold capOf
  split
  · exact if_neg vacant
  · rfl

/-- The tier of a slot with a pack (R80, R81). -/
theorem tierOf_of_pack {x : SnapSlot} {k : Pack} (pack : x.pack = some k) : tierOf cfg x =
    if x.cond = .occupied ∧ k.ok = true ∧ x.cut = false ∧ x.role ≠ .releasing ∧ k.soc < (cfg.figures k.cls).ceiling then
      if k.soc < (cfg.figures k.cls).release then (if x.role = .held ∨ x.waiting = true then .a else .b) else .c
    else .none := by
  unfold tierOf
  rw [pack]

theorem tierOf_of_vacant {x : SnapSlot} (vacant : x.cond ≠ .occupied) : tierOf cfg x = .none := by
  cases pack : x.pack with
  | none =>
    unfold tierOf
    rw [pack]
  | some k => rw [tierOf_of_pack pack, if_neg (fun h => vacant h.1)]

theorem capAndTier (x : SnapSlot) : CapAndTier cfg x := by
  refine ⟨fun vacant => ⟨capOf_of_vacant vacant, tierOf_of_vacant vacant⟩, fun k occupied pack => ?_⟩
  rw [tierOf_of_pack pack]
  refine ⟨?_, fun other => if_neg fun h => other h.2, fun candidate full => ?_, fun candidate low => ⟨?_, ?_⟩⟩
  · unfold capOf
    rw [pack]
    exact if_pos occupied
  · rw [if_pos ⟨occupied, candidate⟩, if_neg (by omega)]
  · intro promised
    rw [if_pos ⟨occupied, candidate⟩, if_pos low, if_pos promised]
  · intro unpromised
    rw [if_pos ⟨occupied, candidate⟩, if_pos low, if_neg unpromised]

/-- A sum over the elements of a test, written over the whole list. -/
theorem sum_map_filter_eq {α : Type} (keep : α → Bool) (f : α → Nat) (l : List α) :
    ((l.filter keep).map f).sum = (l.map (fun x => if keep x then f x else 0)).sum := by
  induction l with
  | nil => rfl
  | cons x l ih => by_cases h : keep x <;> simp [h, ih]

theorem wantedOf_of_other {sn : Snapshot} (other : sn.station ≠ .holdup) :
    wantedOf cfg sn = (sn.slots.map (fun x => if tierOf cfg x = .none then 0 else capOf cfg x)).sum := by
  unfold wantedOf
  rw [if_neg other, sum_map_filter_eq]
  simp

theorem urgentOf_of_other {sn : Snapshot} (other : sn.station ≠ .holdup) :
    urgentOf cfg sn = (sn.slots.map (fun x => if tierOf cfg x = .a then capOf cfg x else 0)).sum := by
  unfold urgentOf
  rw [if_neg other, sum_map_filter_eq]
  simp

theorem urgentOf_le_wantedOf (sn : Snapshot) : urgentOf cfg sn ≤ wantedOf cfg sn := by
  by_cases holdup : sn.station = .holdup
  · simp [urgentOf, holdup]
  · rw [urgentOf_of_other holdup, wantedOf_of_other holdup]
    refine List.sum_le_sum fun x _ => ?_
    by_cases a : tierOf cfg x = .a
    · simp [a]
    · simp [a]

/-! ### The walk (R82, R83, R85) -/

theorem aheadInA_iff {x y : Numbered} : AheadInA x y ↔ y.1.waiting.toNat < x.1.waiting.toNat ∨
    (x.1.waiting.toNat = y.1.waiting.toNat ∧ (deadlineKey x < deadlineKey y ∨ (deadlineKey x = deadlineKey y ∧
      (riderKey x < riderKey y ∨ (riderKey x = riderKey y ∧ x.2 < y.2))))) := by
  cases hx : x.1.waiting <;> cases hy : y.1.waiting <;> simp [AheadInA, hx, hy]

theorem beforeA_iff {x y : Numbered} : beforeA x y = true ↔ AheadInA x y := by
  rw [aheadInA_iff]
  unfold beforeA
  have bit : x.1.waiting ≠ y.1.waiting → (x.1.waiting = true ↔ y.1.waiting.toNat < x.1.waiting.toNat) ∧
      x.1.waiting.toNat ≠ y.1.waiting.toNat := by
    cases x.1.waiting <;> cases y.1.waiting <;> simp
  split
  · next h =>
    obtain ⟨first, differ⟩ := bit h
    rw [first]
    omega
  · next h =>
    rw [not_not.1 h]
    repeat' split
    all_goals
      rw [decide_eq_true_eq]
      omega

theorem beforeB_iff {x y : Numbered} : beforeB x y = true ↔ AheadInB x y := by
  unfold beforeB AheadInB
  split
  all_goals
    simp only [decide_eq_true_eq]
    omega

/-- A sort by a strict order that ties no two slot numbers leaves a walk of rising slot numbers in that order. -/
theorem sortBy_numbered {before : Numbered → Numbered → Bool} {ahead : Numbered → Numbered → Prop} {l : List Numbered}
    (tests : ∀ x y, before x y = true ↔ ahead x y) (trans : ∀ x y z, ahead x y → ahead y z → ahead x z)
    (total : ∀ x y : Numbered, y.2 < x.2 → ¬ ahead x y → ahead y x) (rises : l.Pairwise (fun x y => x.2 < y.2)) :
    (sortBy before l).Pairwise ahead := by
  refine sortBy_pairwise before ahead l trans (rises.imp fun {y x} lower => ⟨(tests x y).1, fun no => ?_⟩)
  exact total x y lower fun h => by simp [(tests x y).2 h] at no

theorem inTier_rises (sn : Snapshot) (t : Tier) : (inTier cfg sn t).Pairwise (fun x y => x.2 < y.2) := by
  unfold inTier
  refine List.Pairwise.filter _ ?_
  have rises : (sn.slots.zipIdx.map Prod.snd).Pairwise (· < ·) := by
    simp only [List.zipIdx_map_snd]
    exact List.pairwise_lt_range'
  exact List.pairwise_map.1 rises

theorem mem_inTier {sn : Snapshot} {t : Tier} (x : Numbered) :
    x ∈ inTier cfg sn t ↔ sn.slots[x.2]? = some x.1 ∧ tierOf cfg x.1 = t := by
  unfold inTier
  rw [List.mem_filter, List.mem_zipIdx_iff_getElem?, decide_eq_true_eq]

theorem walkFollowsTheTiers (cfg : Cfg) (sn : Snapshot) : WalkFollowsTheTiers cfg sn := by
  refine ⟨sortBy beforeA (inTier cfg sn .a), sortBy beforeB (inTier cfg sn .b), inTier cfg sn .c, rfl,
    fun x => ((sortBy_perm _ _).mem_iff.trans (mem_inTier x)), ?_,
    fun x => ((sortBy_perm _ _).mem_iff.trans (mem_inTier x)), ?_, mem_inTier, inTier_rises sn .c⟩
  · refine sortBy_numbered (fun _ _ => beforeA_iff) (fun x y z => ?_) (fun x y lower => ?_) (inTier_rises sn .a)
    · simp only [aheadInA_iff]
      omega
    · simp only [aheadInA_iff]
      omega
  · refine sortBy_numbered (fun _ _ => beforeB_iff) (fun x y z => ?_) (fun x y lower => ?_) (inTier_rises sn .b)
    · unfold AheadInB
      omega
    · unfold AheadInB
      omega

/-- A walked slot is one of the snapshot, with its cap. -/
theorem mem_walkOf {sn : Snapshot} {n cap : Nat} (walked : (n, cap) ∈ walkOf cfg sn) :
    ∃ x, sn.slots[n]? = some x ∧ cap = capOf cfg x ∧ tierOf cfg x ≠ .none := by
  obtain ⟨a, b, c, walk, inA, -, inB, -, inC, -⟩ := walkFollowsTheTiers cfg sn
  rw [walk, List.mem_map] at walked
  obtain ⟨x, mem, same⟩ := walked
  cases same
  rw [List.mem_append, List.mem_append] at mem
  rcases mem with (mem | mem) | mem
  · obtain ⟨place, tier⟩ := (inA x).1 mem
    exact ⟨x.1, place, rfl, by simp [tier]⟩
  · obtain ⟨place, tier⟩ := (inB x).1 mem
    exact ⟨x.1, place, rfl, by simp [tier]⟩
  · obtain ⟨place, tier⟩ := (inC x).1 mem
    exact ⟨x.1, place, rfl, by simp [tier]⟩

/-- No slot is walked twice. -/
theorem walkOf_distinct (cfg : Cfg) (sn : Snapshot) : ((walkOf cfg sn).map (fun x => x.1)).Nodup := by
  have numbers (t : Tier) : ((inTier cfg sn t).map (fun x => x.2)).Nodup :=
    List.pairwise_map.2 ((inTier_rises sn t).imp fun lower => Nat.ne_of_lt lower)
  have sorted (before : Numbered → Numbered → Bool) (t : Tier) :
      ((sortBy before (inTier cfg sn t)).map (fun x => x.2)).Nodup :=
    ((sortBy_perm _ _).map _).nodup_iff.2 (numbers t)
  have tier {t : Tier} {before : Numbered → Numbered → Bool} {n : Nat}
      (mem : n ∈ (sortBy before (inTier cfg sn t)).map (fun x => x.2)) : (sn.slots[n]?).map (tierOf cfg) = some t := by
    obtain ⟨x, member, rfl⟩ := List.mem_map.1 mem
    obtain ⟨place, same⟩ := (mem_inTier x).1 ((sortBy_perm _ _).mem_iff.1 member)
    rw [place]
    exact congrArg some same
  have last {n : Nat} (mem : n ∈ (inTier cfg sn .c).map (fun x => x.2)) : (sn.slots[n]?).map (tierOf cfg) = some .c := by
    obtain ⟨x, member, rfl⟩ := List.mem_map.1 mem
    obtain ⟨place, same⟩ := (mem_inTier x).1 member
    rw [place]
    exact congrArg some same
  unfold walkOf
  rw [List.map_map]
  show (((sortBy beforeA (inTier cfg sn .a) ++ sortBy beforeB (inTier cfg sn .b)) ++ inTier cfg sn .c).map
    (fun x => x.2)).Nodup
  rw [List.map_append, List.map_append, List.nodup_append', List.nodup_append']
  refine ⟨⟨sorted _ _, sorted _ _, fun n inA inB => ?_⟩, numbers _, fun n inAB inC => ?_⟩
  · cases (tier inA).symm.trans (tier inB)
  · rcases List.mem_append.1 inAB with inA | inB
    · cases (tier inA).symm.trans (last inC)
    · cases (tier inB).symm.trans (last inC)

end

/-! ### The greedy fill (R85) -/

theorem planSum_fill_le (m r : Nat) (walk : List (Nat × Nat)) : planSum (fill m r walk) ≤ r := by
  induction walk generalizing r with
  | nil => exact Nat.zero_le _
  | cons x walk ih =>
    have rest := ih (r - if min r x.2 < m then 0 else min r x.2)
    simp only [fill, planSum, List.map_cons, List.sum_cons] at rest ⊢
    split at rest <;> split <;> omega

/-- A filled slot is planned at 0, or between P_min and its cap (R85, R90). -/
theorem mem_fill {m r n amount : Nat} {walk : List (Nat × Nat)} (filled : (n, amount) ∈ fill m r walk) :
    ∃ cap, (n, cap) ∈ walk ∧ (amount = 0 ∨ (m ≤ amount ∧ amount ≤ cap)) := by
  induction walk generalizing r with
  | nil => cases filled
  | cons x walk ih =>
    obtain ⟨k, cap⟩ := x
    simp only [fill, List.mem_cons] at filled
    rcases filled with same | later
    · cases same
      refine ⟨cap, List.mem_cons_self, ?_⟩
      split <;> omega
    · obtain ⟨c, mem, bounds⟩ := ih later
      exact ⟨c, List.mem_cons_of_mem _ mem, bounds⟩

/-- What a plan gives a slot is one of its amounts, or 0. -/
theorem planned_cases (plan : List (Nat × Nat)) (n : Nat) : planned plan n = 0 ∨ (n, planned plan n) ∈ plan := by
  induction plan with
  | nil => exact .inl rfl
  | cons x plan ih =>
    obtain ⟨k, amount⟩ := x
    rw [planned_cons]
    by_cases same : k = n
    · rw [if_pos same, same]
      exact .inr List.mem_cons_self
    · rw [if_neg same]
      exact ih.imp_right (List.mem_cons_of_mem _)

/-- The setpoints that a plan gives to the slots up to a number sum to no more than the plan's sum. -/
theorem sum_planned_le (plan : List (Nat × Nat)) (k : Nat) :
    ((List.range k).map (planned plan)).sum ≤ planSum plan := by
  induction plan with
  | nil =>
    rw [List.sum_eq_zero fun x mem => ?_]
    · exact Nat.zero_le _
    · obtain ⟨n, -, rfl⟩ := List.mem_map.1 mem
      rfl
  | cons x plan ih =>
    obtain ⟨n, amount⟩ := x
    have each : ((List.range k).map (planned ((n, amount) :: plan))).sum ≤
        ((List.range k).map (fun m => (if n = m then amount else 0) + planned plan m)).sum :=
      List.sum_le_sum fun m _ => by
        rw [planned_cons]
        split <;> omega
    have one : ((List.range k).map (fun m => if n = m then amount else 0)).sum ≤ amount := by
      clear each ih
      induction k with
      | zero => exact Nat.zero_le _
      | succ k ih =>
        rw [List.range_succ, List.map_append, List.sum_append]
        by_cases same : n = k
        · have before : ((List.range k).map (fun m => if n = m then amount else 0)).sum = 0 :=
            List.sum_eq_zero fun x mem => by
              obtain ⟨m, lower, rfl⟩ := List.mem_map.1 mem
              rw [List.mem_range] at lower
              exact if_neg (by omega)
          subst same
          simp [before]
        · simpa [same] using ih
    rw [List.sum_map_add] at each
    show _ ≤ amount + planSum plan
    omega

/-- The amounts that a plan of distinct slots gives are the planned ones. -/
theorem sum_planned_of_distinct {plan : List (Nat × Nat)} (distinct : (plan.map (fun x => x.1)).Nodup) :
    (plan.map (fun x => planned plan x.1)).sum = planSum plan := by
  induction plan with
  | nil => rfl
  | cons x plan ih =>
    rw [List.map_cons, List.nodup_cons] at distinct
    obtain ⟨new, rest⟩ := distinct
    rw [List.map_cons, List.sum_cons, planned_cons, if_pos rfl]
    show _ = x.2 + planSum plan
    rw [← ih rest]
    congr 2
    refine List.map_congr_left fun y mem => ?_
    rw [planned_cons, if_neg]
    intro same
    exact new (same ▸ List.mem_map_of_mem mem)

/-- The fill gives each walked slot the smaller of its cap and what the slots before it leave, or 0 below P_min (R85). -/
theorem fillsFrom_fill (m r : Nat) {walk : List (Nat × Nat)} (distinct : (walk.map (fun x => x.1)).Nodup) :
    FillsFrom m walk (fill m r walk) r := by
  refine ⟨?_, fun n other => planned_of_not_mem _ _ ?_⟩
  · induction walk generalizing r with
    | nil => simp
    | cons x walk ih =>
      obtain ⟨n, cap⟩ := x
      rw [List.map_cons, List.nodup_cons] at distinct
      obtain ⟨new, rest⟩ := distinct
      let amount := if min r cap < m then 0 else min r cap
      have run : fill m r ((n, cap) :: walk) = (n, amount) :: fill m (r - amount) walk := rfl
      have later {y : Nat × Nat} (mem : y ∈ walk) :
          planned (fill m r ((n, cap) :: walk)) y.1 = planned (fill m (r - amount) walk) y.1 := by
        rw [run, planned_cons, if_neg]
        rintro rfl
        exact new (List.mem_map.2 ⟨y, mem, rfl⟩)
      have first : planned (fill m r ((n, cap) :: walk)) n = amount := by rw [run, planned_cons, if_pos rfl]
      rintro (- | k) n' cap' place
      · cases place
        exact first
      · have mem : (n', cap') ∈ walk := List.mem_of_getElem? place
        have sum : ((walk.take k).map (fun x => planned (fill m r ((n, cap) :: walk)) x.1)).sum =
            ((walk.take k).map (fun x => planned (fill m (r - amount) walk) x.1)).sum :=
          congrArg List.sum (List.map_congr_left fun y taken => later (List.mem_of_mem_take taken))
        have step := ih (r - amount) rest k n' cap' place
        rw [List.take_succ_cons, List.map_cons, List.sum_cons, sum, first, later mem, step, Nat.sub_sub]
  · rw [fill_numbers]
    intro mem
    obtain ⟨x, walked, same⟩ := List.mem_map.1 mem
    exact other x walked same

/-! ### The plan and its limit (R85, R86, R88) -/

section
variable {cfg : Cfg} {sn : Snapshot}

theorem mayCharge_iff {st : StationState} {pause : Bool} :
    mayCharge st pause = true ↔ pause = false ∧ (st = .active ∨ st = .withdrawn) := by
  simp [mayCharge]

theorem planOf_of_charging (h : mayCharge sn.station sn.pause = true) :
    planOf cfg sn = fill cfg.minPower sn.grant (walkOf cfg sn) := if_pos h

theorem planOf_of_forbidden (h : mayCharge sn.station sn.pause = false) : planOf cfg sn = [] :=
  if_neg (by simp [h])

/-- Where it is not empty, the plan is a fill of the walk. -/
theorem limitPlan_cases (endGrant : Nat) :
    limitPlan cfg sn endGrant = [] ∨ ∃ r, limitPlan cfg sn endGrant = fill cfg.minPower r (walkOf cfg sn) := by
  unfold limitPlan
  split
  · exact .inr ⟨_, rfl⟩
  · cases may : mayCharge sn.station sn.pause with
    | true => exact .inr ⟨_, planOf_of_charging may⟩
    | false => exact .inl (planOf_of_forbidden may)

/-- The plan's sum as the walk gives it. -/
theorem sum_planned_walk :
    ((walkOf cfg sn).map (fun x => planned (planOf cfg sn) x.1)).sum = planSum (planOf cfg sn) := by
  cases may : mayCharge sn.station sn.pause with
  | true =>
    rw [planOf_of_charging may]
    have distinct : ((fill cfg.minPower sn.grant (walkOf cfg sn)).map (fun x => x.1)).Nodup := by
      rw [fill_numbers]
      exact walkOf_distinct cfg sn
    have numbers (f : Nat → Nat) : (walkOf cfg sn).map (fun x => f x.1) =
        (fill cfg.minPower sn.grant (walkOf cfg sn)).map (fun x => f x.1) := by
      have h := congrArg (List.map f) (fill_numbers cfg.minPower sn.grant (walkOf cfg sn))
      simpa only [List.map_map, Function.comp_def] using h.symm
    rw [numbers (planned _)]
    exact sum_planned_of_distinct distinct
  | false =>
    rw [planOf_of_forbidden may]
    exact List.sum_eq_zero fun x mem => by
      obtain ⟨y, -, rfl⟩ := List.mem_map.1 mem
      rfl

theorem planFillsTheGrant (endGrant : Nat) : PlanFillsTheGrant cfg sn endGrant := by
  refine ⟨fun charges => ?_, fun forbidden n => ?_, fun exceeds => ?_, fun within n => ?_⟩
  · rw [planOf_of_charging (mayCharge_iff.2 charges)]
    exact fillsFrom_fill _ _ (walkOf_distinct cfg sn)
  · rw [planOf_of_forbidden (by simpa using fun h => forbidden (mayCharge_iff.1 h))]
    rfl
  · rw [sum_planned_walk] at exceeds
    rw [limitPlan, if_pos exceeds]
    exact fillsFrom_fill _ _ (walkOf_distinct cfg sn)
  · rw [sum_planned_walk] at within
    rw [limitPlan, if_neg (by omega)]

theorem planSum_limitPlan_le (endGrant : Nat) : planSum (limitPlan cfg sn endGrant) ≤ endGrant := by
  unfold limitPlan
  split
  · exact planSum_fill_le _ _ _
  · omega

/-- A planned setpoint is 0 or lies between P_min and the slot's cap (R85, R90). -/
theorem planned_limitPlan_bounds (endGrant n : Nat) : planned (limitPlan cfg sn endGrant) n = 0 ∨
    (cfg.minPower ≤ planned (limitPlan cfg sn endGrant) n ∧
      planned (limitPlan cfg sn endGrant) n ≤ ((sn.slots[n]?).map (capOf cfg)).getD 0) := by
  rcases planned_cases (limitPlan cfg sn endGrant) n with zero | mem
  · exact .inl zero
  · rcases limitPlan_cases (cfg := cfg) (sn := sn) endGrant with empty | ⟨r, filled⟩
    · rw [empty]
      exact .inl rfl
    · rw [filled] at mem ⊢
      obtain ⟨cap, walked, bounds⟩ := mem_fill mem
      obtain ⟨x, place, rfl, -⟩ := mem_walkOf walked
      rw [place]
      exact bounds

end

end Sys2Proof.Machine
end


section
/-! PROOF. The end of a planning pass (O50; R87 to R90, R72). -/

namespace Sys2Proof.Machine

open Sys2Proof

section
variable {s : State} {p : Pass}

/-- The figures stored and G recomputed (R87, R88). -/
def regranted (p : Pass) (s : State) : State := recomputeGrant (storeFigures p s)

theorem regranted_alw (p : Pass) (s : State) :
    (regranted p s).alw = { s.alw with grant := grantNow (storeFigures p s) } :=
  recomputeGrant_alw _

theorem regranted_pln (p : Pass) (s : State) : (regranted p s).pln = { (storeFigures p s).pln with
    replan := s.pln.replan || decide (grantNow (storeFigures p s) ≠ s.alw.grant) } := by
  unfold regranted
  by_cases same : grantNow (storeFigures p s) = (storeFigures p s).alw.grant
  · have old : grantNow (storeFigures p s) = s.alw.grant := same
    rw [recomputeGrant_of_same same, old]
    simp [storeFigures]
  · have new : grantNow (storeFigures p s) ≠ s.alw.grant := same
    rw [recomputeGrant_of_new same, decide_eq_true new, Bool.or_true]
    rfl

/-- A pass ends with nothing running. -/
theorem endPass_pln (p : Pass) (s : State) : (endPass p s).pln = (regranted p s).pln := by
  show (earlyDemand (writeSlots p (regranted p s))).pln = _
  simp [writeSlots]

theorem endPass_slots (p : Pass) (s : State) : (endPass p s).slots = s.slots.mapIdx (writePlan s.sul.cfg p.snap
    (limitPlan s.sul.cfg p.snap (grantNow (storeFigures p s))) (mayCharge s.sul.state s.lif.linePause)) := by
  have written : (endPass p s).slots = (writeSlots p (regranted p s)).slots := by
    show (earlyDemand (writeSlots p (regranted p s))).slots = _
    simp
  rw [written]
  unfold writeSlots
  rw [regranted_alw]
  simp [regranted, storeFigures]

/-- A moved W_d of which an early DEMAND tells (R72). -/
def MovedWanted (s : State) (wanted : Nat) : Prop :=
  (s.sul.state = .active ∨ s.sul.state = .withdrawn) ∧
    (s.alw.announced + 500 ≤ wanted ∨ wanted + 500 ≤ s.alw.announced)

theorem earlyDemand_of_still (still : ¬ MovedWanted s s.pln.wanted) : earlyDemand s = s := if_neg still

theorem earlyDemand_of_spaced (moved : MovedWanted s s.pln.wanted) (spaced : s.alw.spacingTimer.isSome = true) :
    earlyDemand s = { s with alw.earlyPending := true } := by
  refine (if_pos moved).trans (if_neg ?_)
  rw [Option.isNone_iff_eq_none, ← Option.not_isSome_iff_eq_none]
  exact fun h => h spaced

theorem earlyDemand_of_free (moved : MovedWanted s s.pln.wanted) (free : s.alw.spacingTimer = none) :
    earlyDemand s = produceDemand s :=
  (if_pos moved).trans (if_pos (by simp [free]))

/-- The figures a DEMAND takes from the state. -/
theorem demandFrame_congr {a b : State} (slots : a.slots = b.slots) (sul : a.sul = b.sul)
    (wanted : a.pln.wanted = b.pln.wanted) (urgent : a.pln.urgent = b.pln.urgent) (grant : a.alw.grant = b.alw.grant) :
    demandFrame a = demandFrame b := by
  simp only [demandFrame, demandWanted, demandUrgent, demandReady, emptyFree, State.views, slots, sul, wanted, urgent, grant]

/-! ### The grant (R67, R68) -/

theorem grantNow_of_charging (h : s.sul.state = .active ∨ s.sul.state = .withdrawn) :
    grantNow s = min (grantShare s.alw.allowance s.pln.wanted s.pln.urgent (countedPeers s.alw)) s.pln.wanted / 50 * 50 :=
  if_pos h

theorem grantNow_of_other (active : s.sul.state ≠ .active) (withdrawn : s.sul.state ≠ .withdrawn) : grantNow s = 0 :=
  if_neg fun h => h.elim active withdrawn

theorem grantNow_le_wanted (s : State) : grantNow s ≤ s.pln.wanted := by
  unfold grantNow floor50
  split
  · have := Nat.div_mul_le_self
      (min (grantShare s.alw.allowance s.pln.wanted s.pln.urgent (countedPeers s.alw)) s.pln.wanted) 50
    omega
  · omega

theorem grantNow_mod (s : State) : grantNow s % 50 = 0 := by
  unfold grantNow floor50
  split
  · exact Nat.mul_mod_left _ _
  · rfl

theorem countedPeers_eq (a : Alw) : countedPeers a =
    (a.peers.filterMap id).filter (fun p => decide (p.state = .present ∨ p.state = .stale)) := by
  refine List.filter_congr fun p _ => ?_
  cases p.state <;> rfl

/-! ### The slots (R89 to R91) -/

theorem writePlan_setpoint {cfg : Cfg} {sn : Snapshot} {plan : List (Nat × Nat)} {may : Bool} {n : Nat} {sl : Slot} :
    (writePlan cfg sn plan may n sl).setpoint = if may && !zeroedAtEnd sn.slots[n]? sl then planned plan n else 0 := rfl

theorem zeroedAtEnd_iff {x : Option SnapSlot} {sl : Slot} : zeroedAtEnd x sl = true ↔
    sl.cut = true ∨ sl.role = .releasing ∨ sl.cond ≠ .occupied ∨
      sl.pack.map (fun p => p.id) ≠ (x.bind (fun y => y.pack)).map (fun p => p.id) := by
  simp [zeroedAtEnd, or_assoc]

/-- The setpoints written under a plan sum to no more than the plan. -/
theorem sum_setpoints_le {cfg : Cfg} {sn : Snapshot} {plan : List (Nat × Nat)} {may : Bool} (slots : List Slot) :
    ((slots.mapIdx (writePlan cfg sn plan may)).map (fun sl => sl.setpoint)).sum ≤ planSum plan := by
  refine le_trans ?_ (sum_planned_le plan slots.length)
  have each : ∀ (l : List Slot) (k : Nat),
      ((l.mapIdx (fun n => writePlan cfg sn plan may (n + k))).map (fun sl => sl.setpoint)).sum ≤
        ((List.range' k l.length).map (planned plan)).sum := by
    intro l
    induction l with
    | nil => simp
    | cons sl l ih =>
      intro k
      have later := ih (k + 1)
      have shifted : (fun n => writePlan cfg sn plan may (n + 1 + k)) = (fun n => writePlan cfg sn plan may (n + (k + 1))) := by
        funext n
        rw [Nat.add_right_comm, Nat.add_assoc]
      rw [List.mapIdx_cons, List.map_cons, List.sum_cons, shifted, List.length_cons, List.range'_succ, List.map_cons, List.sum_cons]
      have here : (writePlan cfg sn plan may (0 + k) sl).setpoint ≤ planned plan k := by
        rw [writePlan_setpoint, Nat.zero_add]
        split <;> omega
      omega
  simpa [List.range_eq_range'] using each slots 0

end

/-- The state a pass end leaves is at work when the old one was. -/
theorem operates_endPass (p : Pass) (s : State) : operates (endPass p s) = operates s :=
  operates_congr (by simp) (by simp)

end Sys2Proof.Machine
end


section
/-! PROOF. A planning pass stays within the grant (O50). -/

namespace Sys2Proof.Machine

open Sys2Proof

section
variable {s : State} {p : Pass}

theorem exec_planningPassEnd (on : s.core = true) (runs : s.pln.pass = some p) :
    exec .planningPassEnd s = .next (settle (endPass p s)) := by
  show execPlanningPassEnd s = _
  unfold execPlanningPassEnd
  rw [runs]
  exact congrArg Host.Outcome.next (if_pos on)

theorem exec_planningPassEnd_of_none (h : s.core = false ∨ s.pln.pass = none) : exec .planningPassEnd s = .next s := by
  show execPlanningPassEnd s = _
  unfold execPlanningPassEnd
  split
  · next p runs =>
    rw [runs] at h
    rw [if_neg (by simpa using h)]
  · rfl

/-- The figures of a pass end stand after it. -/
theorem passEnd_figures (p : Pass) (s : State) :
    (settle (endPass p s)).pln.wanted = (if s.sul.state = .holdup then 0 else wantedOf s.sul.cfg p.snap) ∧
    (settle (endPass p s)).pln.urgent = (if s.sul.state = .holdup then 0 else urgentOf s.sul.cfg p.snap) ∧
    (endPass p s).pln.wanted = (settle (endPass p s)).pln.wanted := by
  obtain ⟨wanted, urgent⟩ := settle_figures (endPass p s)
  rw [wanted, urgent, endPass_pln, regranted_pln]
  exact ⟨rfl, rfl, rfl⟩

theorem endPass_grant (p : Pass) (s : State) : (endPass p s).alw.grant = grantNow (storeFigures p s) ∧
    (endPass p s).alw.allowance = s.alw.allowance ∧ (endPass p s).alw.peers = s.alw.peers := by
  let w := writeSlots p (regranted p s)
  have alw : w.alw = { s.alw with grant := grantNow (storeFigures p s) } := regranted_alw p s
  show (earlyDemand w).alw.grant = _ ∧ (earlyDemand w).alw.allowance = _ ∧ (earlyDemand w).alw.peers = _
  unfold earlyDemand produceDemand
  repeat' split
  · simp [alw]
  · simp [alw]
  · simp [alw]

theorem grantNow_endPass (p : Pass) (s : State) : grantNow (settle (endPass p s)) = grantNow (storeFigures p s) := by
  obtain ⟨-, allowance, peers⟩ := endPass_grant p s
  have pln := endPass_pln p s
  rw [regranted_pln] at pln
  rw [grantNow_settle]
  exact grantNow_congr (by simp [storeFigures]) allowance peers (by rw [pln]) (by rw [pln])

/-- The pass that follows begins when one was asked for, by a change of G too (R69, R77, R90). -/
theorem passEnd_pass (works : operates s = true) : (settle (endPass p s)).pln.pass.isSome = true ↔
    s.pln.replan = true ∨ grantNow (storeFigures p s) ≠ s.alw.grant := by
  have pln := endPass_pln p s
  rw [regranted_pln] at pln
  have none : (endPass p s).pln.pass = none := by
    rw [pln]
    rfl
  have asked : (endPass p s).pln.replan = (s.pln.replan || decide (grantNow (storeFigures p s) ≠ s.alw.grant)) := by
    rw [pln]
  rw [settle_pln, beginPass_pln, none, operates_endPass, asked]
  by_cases asks : s.pln.replan = true ∨ grantNow (storeFigures p s) ≠ s.alw.grant
  · rw [if_pos ⟨works, by simpa using asks, rfl⟩]
    simp [asks]
  · rw [if_neg (fun h => asks (by simpa using h.2.1)), none]
    simp [asks]

/-- What the end of a pass writes into a slot. -/
theorem passEnd_written (p : Pass) (s : State) : PlanWritten s (settle (endPass p s)) p.snap := by
  intro n sl place x charges zeroed
  let y := writePlan s.sul.cfg p.snap (limitPlan s.sul.cfg p.snap (grantNow (storeFigures p s)))
    (mayCharge s.sul.state s.lif.linePause) n sl
  have there : (settle (endPass p s)).slots[n]? = some y := by
    rw [(settle_frame _).2.2.1, endPass_slots, List.getElem?_mapIdx, place]
    rfl
  have grant : (settle (endPass p s)).alw.grant = grantNow (storeFigures p s) := by
    rw [(settle_frame _).2.2.2.1, (endPass_grant p s).1]
  have zero : (mayCharge s.sul.state s.lif.linePause && !zeroedAtEnd p.snap.slots[n]? sl) = true ↔ ¬ zeroed := by
    rw [Bool.and_eq_true, mayCharge_iff, Bool.not_eq_true', ← Bool.not_eq_true (zeroedAtEnd _ _), zeroedAtEnd_iff]
    exact ⟨fun h z => z.elim (fun k => k h.1) h.2,
      fun h => ⟨not_not.1 fun k => h (.inl k), fun k => h (.inr k)⟩⟩
  refine ⟨y, there, rfl, rfl, rfl, fun z => ?_, fun z => ?_⟩
  · exact writePlan_setpoint.trans (if_neg fun h => zero.1 h z)
  · rw [grant]
    exact writePlan_setpoint.trans (if_pos (zero.2 z))

/-- The setpoints of a pass end: within the grant, each 0 or between P_min and its cap (R88, R90). -/
theorem passEnd_setpoints (p : Pass) (s : State) :
    ((settle (endPass p s)).slots.map (fun sl => sl.setpoint)).sum ≤ (settle (endPass p s)).alw.grant ∧
    ∀ sl ∈ (settle (endPass p s)).slots,
      sl.setpoint = 0 ∨ (s.sul.cfg.minPower ≤ sl.setpoint ∧ sl.setpoint ≤ sl.cap) := by
  rw [(settle_frame _).2.2.1, (settle_frame _).2.2.2.1, (endPass_grant p s).1, endPass_slots]
  refine ⟨(sum_setpoints_le _).trans (planSum_limitPlan_le _), fun sl mem => ?_⟩
  obtain ⟨n, place⟩ := List.mem_iff_getElem?.1 mem
  rw [List.getElem?_mapIdx] at place
  obtain ⟨old, -, written⟩ := Option.map_eq_some_iff.1 place
  rw [← written, writePlan_setpoint]
  split
  · exact planned_limitPlan_bounds _ _
  · exact .inl rfl

/-- The fields of a slot that a pass does not write. -/
theorem passEnd_keeps (p : Pass) (s : State) :
    (settle (endPass p s)).slots.map (fun sl => { sl with setpoint := 0, cap := 0, tier := .none, ready := 0 }) =
      s.slots.map (fun sl => { sl with setpoint := 0, cap := 0, tier := .none, ready := 0 }) := by
  rw [(settle_frame _).2.2.1, endPass_slots]
  refine List.ext_getElem? fun n => ?_
  rw [List.getElem?_map, List.getElem?_map, List.getElem?_mapIdx, Option.map_map]
  rfl

/-- The early DEMAND of a pass end (R72). -/
theorem passEnd_demand (p : Pass) (s : State) :
    let t := settle (endPass p s)
    (¬ MovedWanted s t.pln.wanted → t.alw = { s.alw with grant := t.alw.grant } ∧ t.lif = s.lif ∧
      t.counters = s.counters) ∧
    (MovedWanted s t.pln.wanted → s.alw.spacingTimer.isSome = true →
      t.alw = { s.alw with grant := t.alw.grant, earlyPending := true } ∧ t.lif = s.lif ∧ t.counters = s.counters) ∧
    (MovedWanted s t.pln.wanted → s.alw.spacingTimer = none →
      t.alw = { s.alw with grant := t.alw.grant, announced := t.pln.wanted, spacingTimer := some 250,
                           earlyPending := false } ∧
      t.lif = (enqueue (demandFrame t) s).lif ∧ t.counters = (enqueue (demandFrame t) s).counters) := by
  intro t
  let w := writeSlots p (regranted p s)
  have walw : w.alw = { s.alw with grant := grantNow (storeFigures p s) } := regranted_alw p s
  have wlif : w.lif = s.lif := by simp [w, writeSlots, regranted, storeFigures]
  have wcounters : w.counters = s.counters := by simp [w, writeSlots, regranted, storeFigures]
  have wsul : w.sul = s.sul := by simp [w, writeSlots, regranted, storeFigures]
  have wpln : (endPass p s).pln = w.pln := by
    show (earlyDemand w).pln = _
    simp
  have wanted : t.pln.wanted = w.pln.wanted := by
    rw [← (passEnd_figures p s).2.2, wpln]
  have moved : MovedWanted w w.pln.wanted ↔ MovedWanted s t.pln.wanted := by
    unfold MovedWanted
    rw [wsul, walw, wanted]
  have lif : t.lif = (earlyDemand w).lif := (settle_frame _).2.1
  have alw : t.alw = (earlyDemand w).alw := (settle_frame _).2.2.2.1
  have counters : t.counters = (earlyDemand w).counters := (settle_frame _).2.2.2.2.2.2.2.1
  refine ⟨fun still => ?_, fun moves spaced => ?_, fun moves free => ?_⟩
  · have run : earlyDemand w = w := earlyDemand_of_still fun h => still (moved.1 h)
    rw [alw, lif, counters, run, walw]
    exact ⟨rfl, wlif, wcounters⟩
  · have run := earlyDemand_of_spaced (moved.2 moves) (by rw [walw]; exact spaced)
    rw [alw, lif, counters, run]
    exact ⟨by rw [walw], wlif, wcounters⟩
  · have run := earlyDemand_of_free (moved.2 moves) (by rw [walw]; exact free)
    have frame : demandFrame t = demandFrame w := by
      have slots : t.slots = w.slots := by simp [t, endPass, w, regranted]
      have sul : t.sul = w.sul := by simp [t, endPass, w, regranted]
      have urgent : t.pln.urgent = w.pln.urgent := by
        rw [(settle_figures _).2, wpln]
      exact demandFrame_congr slots sul wanted urgent (by rw [alw, run]; simp [produceDemand])
    have figure : demandWanted w = t.pln.wanted := by
      rw [wanted]
      refine if_neg ?_
      rw [wsul]
      rcases moves.1 with h | h <;> rw [h] <;> decide
    rw [alw, lif, counters, run, frame]
    refine ⟨?_, enqueue_lif_congr wlif _, enqueue_counters_congr wlif wcounters _⟩
    rw [← figure]
    simp [produceDemand, walw]

/-- Nothing else begins where nothing was due. -/
theorem passEnd_quiet (nothing : NothingDue s) :
    (settle (endPass p s)).ofe = s.ofe ∧ (settle (endPass p s)).svy = s.svy := by
  have ofe : (endPass p s).ofe = s.ofe := by simp
  have svy : (endPass p s).svy = s.svy := by simp
  refine ⟨(settle_ofe_of_notDue ?_).trans ofe, ?_⟩
  · intro works
    rw [operates_endPass] at works
    rw [ofe]
    exact evaluationNotDue_of_nothingDue nothing works
  · by_cases works : operates s = true
    · exact settle_svy_of_notDue works nothing svy
    · rw [settle_svy, beginGapFocus_of_nothing (.inl (by rw [operates_endPass]; simpa using works)), svy]

end

/-- The division of the allowance (R67, R68). -/
theorem grantShare_cases (a wd wu : Nat) (peers : List Peer) :
    (a ≤ urgentSum wu peers → 0 < urgentSum wu peers →
      grantShare a wd wu peers = a * wu / urgentSum wu peers ∧ a * wu / urgentSum wu peers ≤ wu) ∧
    ((urgentSum wu peers < a ∨ urgentSum wu peers = 0) → restSum wd wu peers = 0 → grantShare a wd wu peers = wu) ∧
    ((urgentSum wu peers < a ∨ urgentSum wu peers = 0) → 0 < restSum wd wu peers →
      grantShare a wd wu peers = wu + (a - urgentSum wu peers) * (wd - wu) / restSum wd wu peers) := by
  unfold grantShare
  refine ⟨fun short some => ⟨if_pos ⟨short, some⟩, ?_⟩, fun rich rest => ?_, fun rich rest => ?_⟩
  · exact Nat.div_le_of_le_mul (Nat.mul_le_mul_right _ short)
  · dsimp only
    rw [if_neg (by omega), if_pos rest, Nat.add_zero]
  · dsimp only
    rw [if_neg (by omega), if_neg (by omega)]

/-- Settles O50: the figures, the grant, the fill and the early DEMAND of a pass end. -/
theorem passEndStaysWithinTheGrant : Obligations.PassEndStaysWithinTheGrant := by
  unfold Obligations.PassEndStaysWithinTheGrant
  refine ⟨fun s p on runs => ?_, fun s idle => exec_planningPassEnd_of_none idle,
    fun cfg sn => ⟨fun x _ => capAndTier x, walkFollowsTheTiers cfg sn, fun endGrant => planFillsTheGrant endGrant,
      fun holdup => ⟨if_pos holdup, if_pos holdup⟩,
      fun other => ⟨wantedOf_of_other other, urgentOf_of_other other⟩⟩, fun s => ?_⟩
  · obtain ⟨within, bounded⟩ := passEnd_setpoints p s
    obtain ⟨wanted, urgent, -⟩ := passEnd_figures p s
    have grant : (settle (endPass p s)).alw.grant = grantNow (settle (endPass p s)) := by
      rw [grantNow_endPass, (settle_frame _).2.2.2.1, (endPass_grant p s).1]
    have sul : (settle (endPass p s)).sul = s.sul := by simp
    refine ⟨_, exec_planningPassEnd on runs, within, bounded, passEnd_written p s, ?_, wanted, urgent, grant, ?_, ?_, ?_,
      passEnd_keeps p s, passEnd_demand p s, fun works => ?_, passEnd_quiet, ?_⟩
    · rw [wanted, urgent]
      split
      · exact le_refl _
      · exact urgentOf_le_wantedOf _
    · rw [grant]
      exact grantNow_le_wanted _
    · rw [grant]
      exact grantNow_mod _
    · intro active withdrawn
      rw [grant]
      exact grantNow_of_other (by rw [sul]; exact active) (by rw [sul]; exact withdrawn)
    · rw [grant, grantNow_endPass]
      exact passEnd_pass works
    · apply state_ext <;> simp
  · intro counted a wd wu u d
    have counts : countedPeers s.alw = counted := countedPeers_eq s.alw
    refine ⟨grantNow_of_other, fun charging => ?_⟩
    obtain ⟨short, level, rich⟩ := grantShare_cases a wd wu counted
    rw [grantNow_of_charging charging, counts]
    refine ⟨fun less some => ?_, fun more none => ?_, fun more some => ?_⟩
    · obtain ⟨share, bound⟩ := short less some
      exact ⟨congrArg (fun g => min g wd / 50 * 50) share, bound⟩
    · exact congrArg (fun g => min g wd / 50 * 50) (level more none)
    · exact congrArg (fun g => min g wd / 50 * 50) (rich more some)

end Sys2Proof.Machine
end


section
/-! PROOF. The configuration image put in force (O55; 11.2, R178 to R180). -/

namespace Sys2Proof.Machine

open Sys2Proof

/-! ### The fields (R178) -/

theorem imageRows_eq : imageRows = fields := rfl

theorem fields_find {r : Field} (row : r ∈ fields) : fields.find? (fun f => f.offset == r.offset) = some r := by
  have all : ∀ r ∈ fields, fields.find? (fun f => f.offset == r.offset) = some r := by decide
  exact all r row

theorem fields_ranges {r : Field} (row : r ∈ fields) : r.lo ≤ r.hi := by
  have all : ∀ r ∈ fields, r.lo ≤ r.hi := by decide
  exact all r row

/-- The cause of the correction of the field at an offset (R178). -/
def imageCause (img : List Byte) (o : Nat) : Option ClampCause :=
  (fields.find? (fun f => f.offset == o)).bind (fun f => (settleField f (rawField img f)).2)

section
variable {img : List Byte} {r : Field}

theorem imageValue_of_row (row : r ∈ fields) : imageValue img r.offset = (settleField r (rawField img r)).1 := by
  unfold imageValue
  rw [fields_find row]

theorem imageCause_of_row (row : r ∈ fields) : imageCause img r.offset = (settleField r (rawField img r)).2 := by
  unfold imageCause
  rw [fields_find row]
  rfl

theorem valueRead_eq (img : List Byte) (r : Field) : valueRead img r = rawField img r := by
  unfold valueRead rawField byteAt imageByte
  rw [be16_toNat]

theorem settleField_of_default {raw d : Nat} (ones : raw = r.allOnes) (dflt : r.dflt = some d) :
    settleField r raw = (d, none) := by
  unfold settleField
  rw [if_pos ones, dflt]

theorem settleField_of_value {raw : Nat} (value : ¬ (raw = r.allOnes ∧ r.dflt.isSome = true)) : settleField r raw =
    if raw < r.lo then (r.lo, some .raised) else if r.hi < raw then (r.hi, some .lowered)
    else if raw / r.step * r.step ≠ raw then (raw / r.step * r.step, some .rounded) else (raw, none) := by
  have plain : (if raw = r.allOnes then r.dflt else none) = none := by
    split
    · next ones =>
      cases dflt : r.dflt with
      | none => rfl
      | some d => exact absurd ⟨ones, by rw [dflt]; rfl⟩ value
    · rfl
  unfold settleField
  rw [plain]

theorem broughtIntoRange (range : r.lo ≤ r.hi) (raw : Nat) :
    BroughtIntoRange r raw (settleField r raw).1 (settleField r raw).2 := by
  have split := Nat.div_add_mod' raw r.step
  refine ⟨fun ⟨ones, has⟩ => ?_, fun value => ?_⟩
  · obtain ⟨d, dflt⟩ := Option.isSome_iff_exists.1 has
    rw [settleField_of_default ones dflt]
    exact ⟨dflt, rfl⟩
  · rw [settleField_of_value value]
    refine ⟨fun low => ?_, fun high => ?_, fun low high => ⟨fun off => ?_, fun on => ?_⟩⟩
    · rw [if_pos low]
      exact ⟨rfl, rfl⟩
    · rw [if_neg (by omega), if_pos high]
      exact ⟨rfl, rfl⟩
    · rw [if_neg (by omega), if_neg (by omega), if_pos (by omega)]
      exact ⟨by omega, rfl⟩
    · rw [if_neg (by omega), if_neg (by omega), if_neg (by omega)]
      exact ⟨rfl, rfl⟩

theorem fieldClamp_eq (row : r ∈ fields) : fieldClamp img r = (imageCause img r.offset).map
    (fun c => ⟨r.offset, c, some (valueRead img r), some (imageValue img r.offset)⟩) := by
  rw [imageCause_of_row row, imageValue_of_row row, valueRead_eq]
  unfold fieldClamp
  generalize settleField r (rawField img r) = used
  obtain ⟨used, cause⟩ := used
  cases cause <;> rfl

/-- A value used lies in its row's range, unless it is the default. -/
theorem imageValue_range (row : r ∈ fields) (plain : r.dflt = none) :
    r.lo ≤ imageValue img r.offset ∧ imageValue img r.offset ≤ r.hi := by
  have range := fields_ranges row
  obtain ⟨-, value⟩ := broughtIntoRange range (rawField img r)
  rw [imageValue_of_row row]
  obtain ⟨low, high, within⟩ := value fun h => by
    have has := h.2
    rw [plain] at has
    cases has
  by_cases below : rawField img r < r.lo
  · rw [(low below).1]
    omega
  · by_cases above : r.hi < rawField img r
    · rw [(high above).1]
      omega
    · obtain ⟨off, on⟩ := within (by omega) (by omega)
      by_cases step : rawField img r % r.step = 0
      · rw [(on step).1]
        omega
      · have one : r.step = 1 := by
          have all : ∀ r ∈ fields, r.dflt = none → r.step = 1 := by decide
          exact all r row plain
        rw [one, Nat.mod_one] at step
        exact absurd rfl step

theorem fitted_range (img : List Byte) : 1 ≤ imageValue img 1 ∧ imageValue img 1 ≤ 8 :=
  imageValue_range (r := ⟨1, false, 1, 8, 1, none⟩) (by decide) rfl

theorem steps_range (img : List Byte) : 1 ≤ imageValue img 2 ∧ imageValue img 2 ≤ 16 :=
  imageValue_range (r := ⟨2, false, 1, 16, 1, none⟩) (by decide) rfl

end

/-! ### The steps read (R180) -/

theorem stepNibble_eq (img : List Byte) (i : Nat) : stepNibble img i =
    if i % 2 = 0 then byteAt img (3 + i / 2) / 16 else byteAt img (3 + i / 2) % 16 := by
  unfold stepNibble byteAt imageByte
  have byte := (img.getD (3 + i / 2) 0).isLt
  dsimp only
  split
  · rw [BitVec.extractLsb'_toNat, Nat.shiftRight_eq_div_pow]
    omega
  · rw [BitVec.extractLsb'_toNat, Nat.shiftRight_zero]

theorem readSteps_eq (img : List Byte) : readSteps img = (List.range (imageValue img 2)).map (fun i =>
    if i % 2 = 0 then byteAt img (3 + i / 2) / 16 else byteAt img (3 + i / 2) % 16) :=
  List.map_congr_left fun i _ => stepNibble_eq img i

/-! ### The missing slots (R180) -/

theorem zipIdx_rises {α : Type} (l : List α) : l.zipIdx.Pairwise (fun x y => x.2 < y.2) := by
  have rises : (l.zipIdx.map Prod.snd).Pairwise (· < ·) := by
    simp only [List.zipIdx_map_snd]
    exact List.pairwise_lt_range'
  exact List.pairwise_map.1 rises

/-- Of a list that names a slot twice the last such step is removed (R180). -/
theorem removeDuplicate_eq {l : List Nat} (twice : ∃ x ∈ l, 1 < l.count x) : ∃ before r behind,
    l = before ++ r :: behind ∧ r ∈ before ++ behind ∧ (∀ x ∈ behind, l.count x = 1) ∧
    removeDuplicate l = some (before ++ behind, r) := by
  obtain ⟨x, mem, count⟩ := twice
  let named := l.zipIdx.filter (fun x => decide (1 < l.count x.1))
  have in_named {y : Nat × Nat} : y ∈ named ↔ l[y.2]? = some y.1 ∧ 1 < l.count y.1 := by
    rw [List.mem_filter, List.mem_zipIdx_iff_getElem?, decide_eq_true_eq]
  obtain ⟨k, place⟩ := List.mem_iff_getElem?.1 mem
  have some : named ≠ [] := List.ne_nil_of_mem ((in_named (y := (x, k))).2 ⟨place, count⟩)
  obtain ⟨init, ⟨r, i⟩, last⟩ : ∃ init y, named = init ++ [y] :=
    ⟨named.dropLast, named.getLast some, (List.dropLast_append_getLast some).symm⟩
  have rises : named.Pairwise (fun x y => x.2 < y.2) := (zipIdx_rises l).filter _
  obtain ⟨there, again⟩ := in_named.1 (last ▸ by simp : (r, i) ∈ named)
  dsimp only at there again
  obtain ⟨short, there'⟩ := List.getElem?_eq_some_iff.1 there
  have cut : l = l.take i ++ r :: l.drop (i + 1) := by
    rw [← there', List.getElem_cons_drop, List.take_append_drop]
  refine ⟨l.take i, r, l.drop (i + 1), cut, ?_, fun y later => ?_, ?_⟩
  · have total : l.count r = (l.take i ++ l.drop (i + 1)).count r + 1 := by
      conv_lhs => rw [cut]
      simp
      omega
    exact List.count_pos_iff.1 (by omega)
  · obtain ⟨j, at_j⟩ := List.mem_iff_getElem?.1 later
    rw [List.getElem?_drop] at at_j
    have present : 0 < l.count y := List.count_pos_iff.2 (List.mem_of_getElem? at_j)
    by_contra other
    have found : (y, i + 1 + j) ∈ named := (in_named (y := (y, i + 1 + j))).2 ⟨at_j, by dsimp only; omega⟩
    rw [last, List.mem_append, List.mem_singleton] at found
    rcases found with found | same
    · rw [last, List.pairwise_append] at rises
      have := rises.2.2 _ found _ (List.mem_singleton.2 rfl)
      dsimp only at this
      omega
    · have := congrArg Prod.snd same
      dsimp only at this
      omega
  · have final : named.getLast? = Option.some (r, i) := by rw [last, List.getLast?_concat]
    unfold removeDuplicate
    rw [show (l.zipIdx.filter (fun x => decide (1 < l.count x.1))).getLast? = _ from final,
      ← List.eraseIdx_eq_take_drop_succ]

/-- Sixteen steps of at most eight slots name one twice. -/
theorem named_twice {l : List Nat} (long : 16 ≤ l.length) (fitted : ∀ x ∈ l, x < 8) : ∃ x ∈ l, 1 < l.count x := by
  by_contra none
  have distinct : l.Nodup := List.nodup_iff_count_le_one.2 fun x => by
    by_cases mem : x ∈ l
    · by_contra more
      exact none ⟨x, mem, by omega⟩
    · rw [List.count_eq_zero_of_not_mem mem]
      omega
  have fits := (distinct.subperm (l₂ := List.range 8) fun x mem => List.mem_range.2 (fitted x mem)).length_le
  rw [List.length_range] at fits
  omega

/-- One missing slot is appended as R180 has it, and no other slot comes or goes. -/
theorem appendStep_missing {n : Nat} {list : List Nat} {records : List Clamp} (missing : n ∉ list)
    (fitted : ∀ x ∈ list, x < 8) : ∃ list' edits, appendStep (list, records) n = (list', records ++ edits) ∧
      (∀ x, x ∈ list' ↔ x ∈ list ∨ x = n) ∧
      ∀ (more : List Nat) (rest : List Clamp) (result : List Nat), AppendsMissing more list' rest result →
        AppendsMissing (n :: more) list (edits ++ rest) result := by
  by_cases short : list.length < 16
  · refine ⟨list ++ [n], [⟨3, .stepAppended, none, some n⟩], ?_, by simp, fun more rest result next => ?_⟩
    · simp [appendStep, missing, short]
    · exact ⟨fun _ => ⟨rest, rfl, next⟩, fun long => absurd long (by omega)⟩
  · obtain ⟨before, r, behind, cut, again, once, removed⟩ := removeDuplicate_eq (named_twice (by omega) fitted)
    refine ⟨before ++ behind ++ [n], [⟨3, .stepRemoved, some r, none⟩, ⟨3, .stepAppended, none, some n⟩], ?_,
      fun x => ?_, fun more rest result next => ?_⟩
    · unfold appendStep
      dsimp only
      rw [if_neg missing, if_neg short, removed]
    · rw [cut]
      simp only [List.mem_append, List.mem_cons, List.not_mem_nil, or_false] at again ⊢
      constructor
      · tauto
      · rintro ((mem | rfl | mem) | rfl) <;> tauto
    · exact ⟨fun h => absurd h short, fun _ => ⟨before, r, behind, rest, cut, again, once, rfl, next⟩⟩

/-- The missing slots are appended one after another (R180). -/
theorem appendsMissing_foldl {numbers : List Nat} (distinct : numbers.Nodup) (small : ∀ n ∈ numbers, n < 8)
    (list : List Nat) (records : List Clamp) (fitted : ∀ x ∈ list, x < 8) : ∃ edits,
      (numbers.foldl appendStep (list, records)).2 = records ++ edits ∧
      AppendsMissing (numbers.filter (fun n => decide (n ∉ list))) list edits
        (numbers.foldl appendStep (list, records)).1 := by
  induction numbers generalizing list records with
  | nil => exact ⟨[], by simp, rfl, rfl⟩
  | cons n numbers ih =>
    obtain ⟨new, distinct⟩ := List.nodup_cons.1 distinct
    have later := ih distinct fun m mem => small m (List.mem_cons_of_mem _ mem)
    by_cases known : n ∈ list
    · obtain ⟨edits, written, appends⟩ := later list records fitted
      have same : appendStep (list, records) n = (list, records) := if_pos known
      rw [List.foldl_cons, same, List.filter_cons_of_neg (by simpa using known)]
      exact ⟨edits, written, appends⟩
    · obtain ⟨list', first, run, members, appends⟩ := appendStep_missing (records := records) known fitted
      obtain ⟨edits, written, more⟩ := later list' (records ++ first) fun x mem =>
        ((members x).1 mem).elim (fitted x) fun same => same ▸ small n List.mem_cons_self
      have rest : numbers.filter (fun m => decide (m ∉ list')) = numbers.filter (fun m => decide (m ∉ list)) := by
        refine List.filter_congr fun m mem => decide_eq_decide.2 (not_congr ((members m).trans ?_))
        exact or_iff_left fun same => new (same ▸ mem)
      rw [rest] at more
      rw [List.foldl_cons, run, List.filter_cons_of_pos (by simpa using known)]
      exact ⟨first ++ edits, by rw [written, List.append_assoc], appends _ _ _ more⟩

/-! ### The result -/

section
variable (img : List Byte)

/-- The steps that name a fitted slot (R180). -/
def keptSteps : List Nat := (readSteps img).filter (fun n => decide (n < imageValue img 1))

/-- The records of the steps that name none (R180). -/
def droppedSteps : List Clamp := ((readSteps img).filter (fun n => decide (imageValue img 1 ≤ n))).map
  (fun n => ⟨3, .stepDropped, some n, none⟩)

theorem buildSteps_eq : ∃ edits, (buildSteps img).2 = droppedSteps img ++ edits ∧
    AppendsMissing ((List.range (imageValue img 1)).filter (fun n => decide (n ∉ keptSteps img))) (keptSteps img) edits
      (buildSteps img).1 := by
  have fitted := (fitted_range img).2
  refine appendsMissing_foldl (List.nodup_range (n := imageValue img 1)) (fun n mem => ?_) (keptSteps img)
    (droppedSteps img) fun n mem => ?_
  · have := List.mem_range.1 mem
    omega
  · have := of_decide_eq_true (List.mem_filter.1 mem).2
    omega

theorem ceilingClamps_eq : [14, 21, 28, 35].filterMap (ceilingClamp img) = [17, 24, 31, 38].filterMap (fun o =>
    if imageValue img o < imageValue img (o - 1) then
      some (⟨o, .ceilingRaised, some (imageValue img o), some (imageValue img (o - 1))⟩ : Clamp)
    else none) := by
  have places : [17, 24, 31, 38] = [14, 21, 28, 35].map (fun o => o + 3) := rfl
  rw [places, List.filterMap_map]
  rfl

/-- What loading puts in force. -/
theorem imageInForce {u : Sul} (cfg : u.cfg = cfgOf img) (clamps : u.clamps = (corrections img).take 16)
    (count : u.clampCount = (corrections img).length) : ImageInForce img u := by
  obtain ⟨edits, records, appends⟩ := buildSteps_eq img
  refine ⟨imageValue img, imageCause img, edits, fun r row => ?_, ?_, ?_⟩
  · rw [imageRows_eq] at row
    rw [valueRead_eq, imageValue_of_row row, imageCause_of_row row]
    exact broughtIntoRange (fields_ranges row) _
  · intro ranges ceilings steps kept dropped all
    have read : readSteps img = steps := readSteps_eq img
    have kept_eq : keptSteps img = kept := by
      unfold keptSteps
      rw [read]
    have dropped_eq : droppedSteps img = dropped := by
      unfold droppedSteps
      rw [read]
    have ranges_eq : fields.filterMap (fieldClamp img) = ranges :=
      List.filterMap_congr fun r row => fieldClamp_eq row
    have total : corrections img = all := by
      unfold corrections
      rw [ranges_eq, ceilingClamps_eq, records, dropped_eq, ← List.append_assoc]
    rw [cfg, clamps, count, total, ← kept_eq]
    exact ⟨appends, rfl, rfl⟩
  · rw [cfg]
    repeat' apply And.intro
    all_goals rfl

end

/-! ### The survey list (R180) -/

/-- The steps appended: at most 16, every slot named before and every missing one. -/
theorem appendsMissing_steps {missing list result : List Nat} {records : List Clamp}
    (h : AppendsMissing missing list records result) (short : list.length ≤ 16) :
    result.length ≤ 16 ∧ ∀ x, x ∈ result ↔ x ∈ list ∨ x ∈ missing := by
  induction missing generalizing list records with
  | nil =>
    obtain ⟨-, rfl⟩ := h
    exact ⟨short, by simp⟩
  | cons n missing ih =>
    obtain ⟨room, full⟩ := h
    by_cases less : list.length < 16
    · obtain ⟨rest, -, next⟩ := room less
      obtain ⟨length, members⟩ := ih next (by simp; omega)
      refine ⟨length, fun x => (members x).trans ?_⟩
      simp only [List.mem_append, List.mem_cons, List.not_mem_nil, or_false]
      tauto
    · obtain ⟨before, r, behind, rest, rfl, again, -, -, next⟩ := full (by omega)
      obtain ⟨length, members⟩ := ih next (by simp at short ⊢; omega)
      refine ⟨length, fun x => (members x).trans ?_⟩
      simp only [List.mem_append, List.mem_cons, List.not_mem_nil, or_false] at again ⊢
      constructor
      · tauto
      · rintro ((mem | rfl | mem) | rfl | mem) <;> tauto

/-- The survey list in force: every fitted slot, no other, at most 16 steps (R180). -/
theorem cfgOf_steps (img : List Byte) : (cfgOf img).steps.length ≤ 16 ∧
    ∀ n, n ∈ (cfgOf img).steps ↔ n < (cfgOf img).fitted := by
  obtain ⟨edits, -, appends⟩ := buildSteps_eq img
  have short : (keptSteps img).length ≤ 16 := by
    refine (List.length_filter_le _ _).trans ?_
    rw [readSteps, List.length_map, List.length_range]
    exact (steps_range img).2
  obtain ⟨length, members⟩ := appendsMissing_steps appends short
  refine ⟨length, fun n => (members n).trans ?_⟩
  rw [List.mem_filter, List.mem_range, decide_eq_true_eq]
  constructor
  · rintro (kept | ⟨fitted, -⟩)
    · exact of_decide_eq_true (List.mem_filter.1 kept).2
    · exact fitted
  · intro fitted
    by_cases kept : n ∈ keptSteps img
    · exact .inl kept
    · exact .inr ⟨fitted, kept⟩

end Sys2Proof.Machine
end


section
/-! PROOF. The end of a loading that passes (O55; R182). -/

namespace Sys2Proof.Machine

open Sys2Proof

/-! ### JOINING, and HOLDUP when the mains is low (R166, R182) -/

section
variable {s : State} {d : Bool} {hot : BitVec 8}

/-- The state in which JOINING has been entered and the first survey step begun. -/
def joined (d : Bool) (s : State) : State :=
  beginRegular { handedOff .joining { s with sul.doorOpen := d } with sul.joiningTimer := some 3000 }

theorem joined_sul (d : Bool) (s : State) :
    (joined d s).sul = { s.sul with doorOpen := d, state := .joining, joiningTimer := some 3000 } := by
  simp [joined, handedOff_sul]

theorem enterJoining_eq (d m : Bool) (s : State) :
    enterJoining d m s = if m then joined d s else ungranted (joined d s) := by
  have run : enterJoining d m s = if m then joined d s else changeState .holdup (joined d s) := rfl
  have calm : ¬ ((joined d s).sul.state = .active ∨ (joined d s).sul.state = .withdrawn) := by simp [joined_sul]
  rw [run, changeState_of_other (by decide), handedOff_holdup, if_neg calm]

/-- JOINING has no grant and no demand timer (R68, R71). -/
theorem handedOff_joining_alw (s : State) :
    (handedOff .joining s).alw = { s.alw with grant := 0, demandTimer := none } := by
  let u := setReplan { s with sul.state := .joining }
  have state : (recomputeGrant u).sul.state = .joining := by simp [u]
  have none : grantNow u = 0 := if_neg (by simp [u])
  have given : plannerHandOff { s with sul.state := .joining } = u :=
    plannerHandOff_of_other (s := { s with sul.state := .joining }) nofun
  unfold handedOff allowanceHandOff
  rw [given]
  dsimp only
  rw [state, if_neg (by simp), if_neg (by simp), recomputeGrant_alw, none]
  rfl

theorem joined_fields (d : Bool) (s : State) : (joined d s).core = s.core ∧ (joined d s).lif = s.lif ∧
    (joined d s).slots = s.slots ∧ (joined d s).ofe = s.ofe ∧ (joined d s).seq = s.seq ∧ (joined d s).rhs = s.rhs ∧
    (joined d s).sul = { s.sul with doorOpen := d, state := .joining, joiningTimer := some 3000 } ∧
    (joined d s).counters = s.counters ∧ (joined d s).pln.replan = true ∧
    (joined d s).alw.allowance = s.alw.allowance := by
  obtain ⟨core, ofe, seq, rhs, -⟩ := handedOff_frame .joining { s with sul.doorOpen := d }
  obtain ⟨lif, counters⟩ := handedOff_line (new := .joining) (by decide) { s with sul.doorOpen := d }
  have slots := handedOff_slots (new := .joining) (by decide) { s with sul.doorOpen := d }
  have replan := handedOff_replan .joining { s with sul.doorOpen := d }
  have alw := handedOff_joining_alw { s with sul.doorOpen := d }
  rw [joined_sul]
  simp [joined, core, ofe, seq, rhs, lif, counters, slots, replan, alw]

theorem joined_grant (d : Bool) (s : State) : (joined d s).alw.grant = 0 := by
  simp [joined, handedOff_joining_alw]

/-- The first survey step of the list has begun (R3). -/
theorem joined_step {n : Nat} {rest : List Nat} (steps : s.sul.cfg.steps = n :: rest) (start : s.svy.next = 0) :
    (joined d s).svy.step = some ⟨n, .regular, readableAt n s, s.sul.cfg.window⟩ := by
  obtain ⟨-, -, -, -, svy⟩ := handedOff_frame .joining { s with sul.doorOpen := d }
  have slots := handedOff_slots (new := .joining) (by decide) { s with sul.doorOpen := d }
  have sul := handedOff_sul .joining { s with sul.doorOpen := d }
  unfold joined
  rw [beginRegular_of_some (n := n) (by simp [sul, svy, steps, start]), beginStep_svy]
  simp [readableAt, slots, sul]

theorem joined_focus (d : Bool) (s : State) : (joined d s).svy.focus = s.svy.focus := by
  have svy := (handedOff_frame .joining { s with sul.doorOpen := d }).2.2.2.2
  have kept (u : State) : (beginRegular u).svy.focus = u.svy.focus := by
    unfold beginRegular
    split
    · rw [beginStep_svy]
    · rfl
  exact (kept _).trans (congrArg Svy.focus svy)

/-- What PLN and ALW leave of a HOLDUP (R68, R71, R92). -/
theorem ungranted_rest (s : State) : (ungranted s).core = s.core ∧ (ungranted s).ofe = s.ofe ∧
    (ungranted s).seq = s.seq ∧ (ungranted s).rhs = s.rhs ∧ (ungranted s).svy = s.svy ∧
    (ungranted s).pln.replan = true := by
  obtain ⟨core, -, -, svy, ofe, seq, rhs, -⟩ := recomputeGrant_frame (suspended s)
  exact ⟨core, ofe, seq, rhs, svy, recomputeGrant_keeps_replan (s := suspended s) rfl⟩

/-- What loading's end leaves besides the grant, the setpoints and the planner's figures (R182). -/
theorem enterJoining_fields (d m : Bool) (s : State) : (enterJoining d m s).core = s.core ∧
    (enterJoining d m s).lif = s.lif ∧ (enterJoining d m s).ofe = s.ofe ∧ (enterJoining d m s).seq = s.seq ∧
    (enterJoining d m s).rhs = s.rhs ∧
    (enterJoining d m s).sul = { s.sul with
      doorOpen := d, joiningTimer := some 3000, state := if m then .joining else .holdup } ∧
    (enterJoining d m s).counters = s.counters ∧ (enterJoining d m s).pln.replan = true ∧
    (enterJoining d m s).slots = (if m then s.slots else s.slots.map (Slot.zeroed s.sul.cfg)) ∧
    (enterJoining d m s).svy = (joined d s).svy := by
  obtain ⟨core, lif, slots, ofe, seq, rhs, sul, counters, replan, -⟩ := joined_fields d s
  rw [enterJoining_eq]
  cases m with
  | true => exact ⟨core, lif, ofe, seq, rhs, sul, counters, replan, slots, rfl⟩
  | false =>
    generalize joined d s = u at *
    obtain ⟨lif', counters', slots', sul', -⟩ := ungranted_frame u
    obtain ⟨core', ofe', seq', rhs', svy', replan'⟩ := ungranted_rest u
    refine ⟨core'.trans core, lif'.trans lif, ofe'.trans ofe, seq'.trans seq, rhs'.trans rhs, sul'.trans ?_,
      counters'.trans counters, replan', slots'.trans ?_, svy'⟩
    · rw [sul]
      rfl
    · rw [slots, sul]
      rfl

theorem enterJoining_alw (d m : Bool) (s : State) :
    (enterJoining d m s).alw.allowance = s.alw.allowance ∧ (enterJoining d m s).alw.grant = 0 := by
  obtain ⟨-, -, -, -, -, -, -, -, -, allowance⟩ := joined_fields d s
  rw [enterJoining_eq]
  cases m with
  | true => exact ⟨allowance, joined_grant d s⟩
  | false =>
    rw [if_neg (by simp), ungranted_alw]
    exact ⟨allowance, rfl⟩

/-! ### The end of the event -/

theorem operates_enterJoining (on : s.core = true) (m : Bool) : operates (enterJoining d m s) = true := by
  obtain ⟨-, -, -, -, -, sul, -⟩ := enterJoining_fields d m s
  cases m <;> simp [operates, StationState.operating, sul, on]

/-- A state that carries the image's configuration and records, at the end of loading. -/
theorem imageInForce_enterJoining {img : List Byte} {v : State} (cfg : v.sul.cfg = cfgOf img)
    (clamps : v.sul.clamps = (corrections img).take 16) (count : v.sul.clampCount = (corrections img).length) (d m : Bool) :
    ImageInForce img (settle (enterJoining d m v)).sul := by
  obtain ⟨-, -, -, -, -, sul, -⟩ := enterJoining_fields d m v
  have same : (settle (enterJoining d m v)).sul = (enterJoining d m v).sul := by simp
  rw [same, sul]
  exact imageInForce img cfg clamps count

/-! ### A cold start -/

theorem putInForce_alw (d : Bool) (hot : BitVec 8) (s : State) : (putInForce d hot s).alw.allowance =
    min (cfgOf s.sul.image).fallback (cfgOf s.sul.image).contract := by
  unfold putInForce
  obtain ⟨g, alw, -⟩ := recomputeAllowance_alw { s with
    sul.cfg := cfgOf s.sul.image
    sul.clamps := (corrections s.sul.image).take 16
    sul.clampCount := (corrections s.sul.image).length
    slots := freshSlots (cfgOf s.sul.image).fitted d hot s.rhs.seconds
    lif := Lif.initial
    svy := Svy.initial
    alw := { Alw.initial with peers := initialPeers s.sul.station }
    pln := Pln.initial
    ofe := Ofe.initial
    seq := Seq.initial }
  rw [alw]
  rfl

theorem putInForce_blocks (d : Bool) (hot : BitVec 8) (s : State) : (putInForce d hot s).svy = Svy.initial ∧
    (putInForce d hot s).ofe = Ofe.initial ∧ (putInForce d hot s).seq = Seq.initial := by
  simp [putInForce]

theorem freshSlots_getElem? {fitted n : Nat} {now : Word} {sl : Slot}
    (place : (freshSlots fitted d hot now)[n]? = some sl) : n < fitted ∧ sl = Slot.fresh d (hot.getLsbD n) now := by
  unfold freshSlots at place
  rw [List.getElem?_map, Option.map_eq_some_iff] at place
  obtain ⟨k, ranged, rfl⟩ := place
  obtain ⟨short, same⟩ := List.getElem?_eq_some_iff.1 ranged
  rw [List.length_range] at short
  rw [List.getElem_range] at same
  exact ⟨short, by rw [same]⟩

/-- A slot as a start leaves it keeps its fields where its setpoint is zeroed. -/
theorem zeroed_fresh (cfg : Cfg) (d h : Bool) (now : Word) :
    (Slot.fresh d h now).zeroed cfg = Slot.fresh d h now := rfl

theorem zeroed_freshSlots (cfg : Cfg) (fitted : Nat) (d : Bool) (hot : BitVec 8) (now : Word) :
    (freshSlots fitted d hot now).map (Slot.zeroed cfg) = freshSlots fitted d hot now := by
  unfold freshSlots
  rw [List.map_map]
  exact List.map_congr_left fun n _ => zeroed_fresh _ _ _ _

end

/-- Settles O55: a cold start's state from the steps of R182, and the image by its four stages. -/
theorem loadingEndJoins : Obligations.LoadingEndJoins := by
  unfold Obligations.LoadingEndJoins
  refine ⟨fun s door hot mains load read good cold alw ofe seq svy => ?_, fun s door hot mains load read good => ?_⟩
  · intro cfg
    let v := putInForce door hot (readOut mains s)
    have run : exec (.loadingEnd door hot mains) s = .next (settle (enterJoining door mains v)) := by
      refine (execLoadingEnd_of_good load read good).trans ?_
      rw [if_pos cold]
    obtain ⟨vsul, vslots, vlif, -⟩ := putInForce_tables door hot (readOut mains s)
    obtain ⟨vsvy, vofe, vseq⟩ := putInForce_blocks door hot (readOut mains s)
    obtain ⟨vcore, vrhs, vcounters, -⟩ := putInForce_frame door hot (readOut mains s)
    obtain ⟨core, lif, jofe, jseq, rhs, sul, counters, replan, slots, jsvy⟩ := enterJoining_fields door mains v
    obtain ⟨allowance, grant⟩ := enterJoining_alw door mains v
    have vcfg : v.sul.cfg = cfg := congrArg Sul.cfg vsul
    have slots' : (enterJoining door mains v).slots = freshSlots cfg.fitted door hot s.rhs.seconds := by
      rw [slots, show v.slots = _ from vslots]
      cases mains
      · exact zeroed_freshSlots _ _ _ _ _
      · rfl
    obtain ⟨short, members⟩ := cfgOf_steps s.sul.image
    obtain ⟨low, high⟩ := fitted_range s.sul.image
    obtain ⟨n, rest, steps⟩ : ∃ n rest, cfg.steps = n :: rest :=
      List.exists_cons_of_ne_nil (List.ne_nil_of_mem ((members 0).2 low))
    have fits : n < cfg.fitted := (members n).1 (by rw [show (cfgOf s.sul.image).steps = _ from steps]; simp)
    have step : (enterJoining door mains v).svy.step = some ⟨n, .regular, true, cfg.window⟩ := by
      have readable : readableAt n v = true := by
        have there : v.slots[n]? = some (Slot.fresh door (hot.getLsbD n) s.rhs.seconds) := by
          rw [show v.slots = freshSlots cfg.fitted door hot s.rhs.seconds from vslots, freshSlots, List.getElem?_map, List.getElem?_range fits]
          rfl
        rw [readableAt, there]
        rfl
      rw [jsvy, joined_step (by rw [vcfg, steps]) (by rw [show v.svy = _ from vsvy]; rfl), readable, vcfg]
    have book : (enterJoining door mains v).ofe = s.ofe := by rw [jofe, show v.ofe = _ from vofe, ofe]
    refine ⟨_, run, ?_, ?_, ?_, ?_, ?_, low, high, fun k sl place => ?_, ?_, ?_, ⟨n, rest, steps, ?_⟩,
      fun k => (members k).2, fun k => (members k).1, short, ?_, ?_, ?_, ?_, ?_, ?_⟩
    · simp [sul]
    · simp [sul]
    · simp [sul, vcfg]
    · simp [sul]
    · simp [slots', freshSlots]
    · rw [(settle_frame _).2.2.1, slots'] at place
      obtain ⟨-, rfl⟩ := freshSlots_getElem? place
      exact ⟨rfl, rfl, rfl, rfl, rfl, rfl, rfl, rfl, rfl⟩
    · rw [(settle_frame _).2.2.2.1, allowance]
      exact putInForce_alw door hot (readOut mains s)
    · rw [(settle_frame _).2.2.2.1, grant]
    · rw [settle_svy, beginGapFocus_of_nothing (.inr (.inl (by rw [step]; rfl))), step]
    · refine settle_pass_isSome (operates_enterJoining ?_ mains) (.inl replan)
      exact vcore.trans (core_of_loading (s := s) load)
    · simp only [settle_frame, rhs]
      exact vrhs
    · have still : EvaluationNotDue (enterJoining door mains v) := by
        intro _ _ e mem
        rw [book, ofe] at mem
        cases mem
      rw [settle_ofe_of_notDue still, book]
    · simp only [settle_frame, jseq]
      exact vseq.trans seq.symm
    · simp only [settle_frame, counters]
      exact vcounters
    · simp only [settle_frame, lif]
      exact vlif
  · obtain ⟨vsul, -⟩ := putInForce_tables door hot (readOut mains s)
    refine ⟨_, execLoadingEnd_of_good load read good, ?_⟩
    split
    · exact imageInForce_enterJoining (congrArg Sul.cfg vsul) (congrArg Sul.clamps vsul) (congrArg Sul.clampCount vsul)
        door mains
    · have sul := (rebuild_rest (putInForce door hot (readOut mains s))).1.trans vsul
      exact imageInForce_enterJoining (congrArg Sul.cfg sul) (congrArg Sul.clamps sul) (congrArg Sul.clampCount sul)
        door mains

end Sys2Proof.Machine
end


section
/-! PROOF. The promises that a warm start rebuilds (O56; R124, R173, R174). -/

namespace Sys2Proof.Machine

open Sys2Proof

/-! ### The records kept (R173) -/

/-- Record `r` in place `i` names a slot that no record before it names. -/
def FirstOfItsSlot (l : List (Option HoldRecord)) (i : Nat) (r : HoldRecord) : Prop :=
  l[i]? = some (some r) ∧ ∀ j r', j < i → l[j]? = some (some r') → r'.slot ≠ r.slot

theorem firstOfItsSlot_cons {x : Option HoldRecord} {l : List (Option HoldRecord)} {i : Nat} {r : HoldRecord} :
    FirstOfItsSlot (x :: l) (i + 1) r ↔ FirstOfItsSlot l i r ∧ ∀ r' ∈ x, r'.slot ≠ r.slot := by
  constructor
  · rintro ⟨place, first⟩
    refine ⟨⟨place, fun j r' before there => first (j + 1) r' (by omega) there⟩, fun r' mem => first 0 r' (by omega) ?_⟩
    exact congrArg some mem
  · rintro ⟨⟨place, first⟩, head⟩
    refine ⟨place, fun j r' before there => ?_⟩
    cases j with
    | zero => exact head r' (Option.some.inj there)
    | succ j => exact first j r' (by omega) there

theorem keepHolds_getElem? {fitted : Nat} {seen : List Nat} {l : List (Option HoldRecord)} {i : Nat} {r : HoldRecord} :
    (keepHolds fitted seen l)[i]? = some (some r) ↔ FirstOfItsSlot l i r ∧ r.slot < fitted ∧ r.slot ∉ seen := by
  induction l generalizing seen i with
  | nil => simp [keepHolds, FirstOfItsSlot]
  | cons x l ih =>
    cases x with
    | none =>
      cases i with
      | zero => simp [keepHolds, FirstOfItsSlot]
      | succ i =>
        rw [firstOfItsSlot_cons]
        exact ih.trans (by simp)
    | some a =>
      have head : FirstOfItsSlot (some a :: l) 0 r ↔ a = r :=
        ⟨fun h => Option.some.inj (Option.some.inj h.1), fun h => ⟨by rw [h]; rfl, nofun⟩⟩
      unfold keepHolds
      split
      · next keeps =>
        cases i with
        | zero =>
          rw [head]
          constructor
          · rintro same
            cases same
            exact ⟨rfl, keeps⟩
          · rintro ⟨rfl, -⟩
            rfl
        | succ i =>
          rw [firstOfItsSlot_cons]
          refine ih.trans ?_
          simp only [List.mem_cons, not_or, Option.mem_def, Option.some.injEq, forall_eq']
          constructor
          · rintro ⟨first, fits, apart, new⟩
            exact ⟨⟨first, fun same => apart same.symm⟩, fits, new⟩
          · rintro ⟨⟨first, apart⟩, fits, new⟩
            exact ⟨first, fits, fun same => apart same.symm, new⟩
      · next drops =>
        cases i with
        | zero =>
          rw [head]
          constructor
          · nofun
          · rintro ⟨rfl, keeps⟩
            exact absurd keeps drops
        | succ i =>
          rw [firstOfItsSlot_cons]
          refine ih.trans ?_
          simp only [Option.mem_def, Option.some.injEq, forall_eq']
          constructor
          · rintro ⟨first, fits, new⟩
            exact ⟨⟨first, fun same => drops (by rw [same]; exact ⟨fits, new⟩)⟩, fits, new⟩
          · rintro ⟨⟨first, -⟩, rest⟩
            exact ⟨first, rest⟩

/-- The place of a record that is not kept is emptied. -/
theorem keepHolds_emptied {fitted i : Nat} {l : List (Option HoldRecord)} {r : HoldRecord} (place : l[i]? = some (some r))
    (lost : ¬ (FirstOfItsSlot l i r ∧ r.slot < fitted)) : (keepHolds fitted [] l)[i]? = some none := by
  obtain ⟨short, -⟩ := List.getElem?_eq_some_iff.1 place
  obtain ⟨x, there⟩ : ∃ x, (keepHolds fitted [] l)[i]? = some x :=
    ⟨_, List.getElem?_eq_getElem (by rw [length_keepHolds]; exact short)⟩
  cases x with
  | none => exact there
  | some r' =>
    obtain ⟨first, fits, -⟩ := keepHolds_getElem?.1 there
    cases Option.some.inj (Option.some.inj (first.1.symm.trans place))
    exact absurd ⟨first, fits⟩ lost

/-- Records of distinct requests, by their places. -/
theorem places_of_distinct {α : Type} {f : HoldRecord → α} {l : List (Option HoldRecord)}
    (distinct : ((l.filterMap id).map f).Nodup) {i j : Nat} {r r' : HoldRecord} (here : l[i]? = some (some r))
    (there : l[j]? = some (some r')) (same : f r = f r') : i = j := by
  have apart : l.Pairwise (fun a b => ∀ x ∈ a, ∀ y ∈ b, f x ≠ f y) := by
    have h := List.pairwise_filterMap.1 (List.pairwise_map.1 distinct)
    exact h
  rw [List.pairwise_iff_getElem] at apart
  obtain ⟨hi, here'⟩ := List.getElem?_eq_some_iff.1 here
  obtain ⟨hj, there'⟩ := List.getElem?_eq_some_iff.1 there
  rcases Nat.lt_trichotomy i j with lt | rfl | lt
  · exact absurd same (apart i j hi hj lt r here' r' there')
  · rfl
  · exact absurd same.symm (apart j i hj hi lt r' there' r here')

/-! ### What is rebuilt -/

section
variable (s : State)

/-- The record places as a warm start leaves them before holds lapse (R173). -/
def keptHolds : List (Option HoldRecord) := keepHolds s.sul.cfg.fitted [] s.rhs.holds

def keptRecords : List HoldRecord := (keptHolds s).filterMap id

def keptProgress : Option Progress := keepProgress s.sul.cfg.fitted (keptRecords s) s.rhs.progress

/-- The slots HELD for the kept records, the rest of the state as it stood (R173). -/
def promised : State := (keptRecords s).foldl (fun st r => setRole r.slot .held (some r.rid) st) { s with
  rhs.holds := keptHolds s, rhs.progress := keptProgress s
  ofe.book := (sortBy recordBefore (keptRecords s)).map (rebuiltEntry (keptProgress s)) }

/-- The promises rebuilt, no overdue hold lapsed yet (R173, R174). -/
def recalled : State := (keptProgress s).elim (promised s) (fun p => resumeActive p (resumedRoles p (promised s)))

/-- The rebuilt holds that are overdue (R124). -/
def overdue : List Entry := (recalled s).ofe.book.filter (holdDue (recalled s).rhs.seconds)

theorem rebuild_eq : rebuild s = lapseAll (overdue s) (recalled s) := by
  have run : rebuild s = lapseDue (recalled s) := by
    unfold rebuild recalled promised
    show lapseDue _ = _
    cases h : keptProgress s with
    | none =>
      have h' : keepProgress s.sul.cfg.fitted ((keepHolds s.sul.cfg.fitted [] s.rhs.holds).filterMap id) s.rhs.progress =
        none := h
      rw [h']
      rfl
    | some p =>
      have h' : keepProgress s.sul.cfg.fitted ((keepHolds s.sul.cfg.fitted [] s.rhs.holds).filterMap id) s.rhs.progress =
        some p := h
      rw [h']
      rfl
  rw [run]
  rfl

end

section
variable {s : State}

theorem promised_fields (s : State) : (promised s).core = s.core ∧ (promised s).lif = s.lif ∧
    (promised s).svy = s.svy ∧ (promised s).alw = s.alw ∧ (promised s).seq = s.seq ∧ (promised s).sul = s.sul ∧
    (promised s).counters = s.counters ∧
    (promised s).rhs = { s.rhs with holds := keptHolds s, progress := keptProgress s } ∧
    (promised s).ofe = { s.ofe with
      book := (sortBy recordBefore (keptRecords s)).map (rebuiltEntry (keptProgress s)) } := by
  have fold : ∀ (l : List HoldRecord) (u : State),
      let f := l.foldl (fun st r => setRole r.slot .held (some r.rid) st) u
      f.core = u.core ∧ f.lif = u.lif ∧ f.svy = u.svy ∧ f.alw = u.alw ∧ f.seq = u.seq ∧ f.sul = u.sul ∧
        f.counters = u.counters ∧ f.rhs = u.rhs ∧ f.ofe = u.ofe := by
    intro l
    induction l with
    | nil => simp
    | cons r l ih =>
      intro u
      simpa using ih (setRole r.slot .held (some r.rid) u)
  exact fold (keptRecords s) _

/-- What is recalled: the swap where a progress record is kept, nothing else but the promises (R173, R174). -/
theorem recalled_fields (s : State) : (recalled s).core = s.core ∧ (recalled s).lif = s.lif ∧
    (recalled s).svy = s.svy ∧ (recalled s).sul = s.sul ∧ (recalled s).counters = s.counters ∧
    (recalled s).rhs = { s.rhs with holds := keptHolds s, progress := keptProgress s } ∧
    (recalled s).ofe = { s.ofe with
      book := (sortBy recordBefore (keptRecords s)).map (rebuiltEntry (keptProgress s)) } ∧
    (recalled s).seq = (keptProgress s).elim s.seq (fun p => { s.seq with
      active := some ⟨p.rid, .startingWait, some p.dock, p.release, p.returned, none, none, some p.step⟩ }) := by
  obtain ⟨core, lif, svy, -, seq, sul, counters, rhs, ofe⟩ := promised_fields s
  unfold recalled
  generalize keptProgress s = progress at rhs ofe ⊢
  cases progress with
  | none => exact ⟨core, lif, svy, sul, counters, rhs, ofe, seq⟩
  | some p => simp [resumeActive, core, lif, svy, seq, sul, counters, rhs, ofe]

/-! ### The rebuilt book (R124) -/

theorem mem_keptRecords {r : HoldRecord} :
    r ∈ keptRecords s ↔ ∃ i, FirstOfItsSlot s.rhs.holds i r ∧ r.slot < s.sul.cfg.fitted := by
  unfold keptRecords keptHolds
  rw [List.mem_filterMap]
  constructor
  · rintro ⟨x, mem, same⟩
    obtain ⟨i, place⟩ := List.mem_iff_getElem?.1 mem
    obtain ⟨first, fits, -⟩ := keepHolds_getElem?.1 (place.trans (congrArg some same))
    exact ⟨i, first, fits⟩
  · rintro ⟨i, first, fits⟩
    exact ⟨some r, List.mem_of_getElem? (keepHolds_getElem?.2 ⟨first, fits, by simp⟩), rfl⟩

theorem keptRecords_slots (s : State) : ((keptRecords s).map (fun r => r.slot)).Nodup := by
  unfold keptRecords
  refine List.pairwise_map.2 (List.pairwise_filterMap.2 ?_)
  rw [List.pairwise_iff_getElem]
  intro i j hi hj lt r here r' there
  have place := keepHolds_getElem?.1 ((List.getElem?_eq_getElem hi).trans (congrArg some here))
  obtain ⟨⟨-, first⟩, -⟩ := keepHolds_getElem?.1 ((List.getElem?_eq_getElem hj).trans (congrArg some there))
  exact first i r lt place.1.1

theorem keptRecords_ids (distinct : ((s.rhs.holds.filterMap id).map (fun r => r.rid)).Nodup) :
    ((keptRecords s).map (fun r => r.rid)).Nodup :=
  (holdIds_keepHolds_sublist _ [] s.rhs.holds).nodup distinct

/-- The kept record of a request (R173). -/
theorem keptRecord_unique (distinct : ((s.rhs.holds.filterMap id).map (fun r => r.rid)).Nodup) {r r' : HoldRecord}
    (here : r ∈ keptRecords s) (there : r' ∈ keptRecords s) (same : r.rid = r'.rid) : r = r' :=
  List.inj_on_of_nodup_map (keptRecords_ids distinct) here there same

theorem mem_recalled_book {e : Entry} :
    e ∈ (recalled s).ofe.book ↔ ∃ r ∈ keptRecords s, rebuiltEntry (keptProgress s) r = e := by
  rw [(recalled_fields s).2.2.2.2.2.2.1, List.mem_map]
  exact exists_congr fun r => and_congr_left fun _ => (sortBy_perm _ _).mem_iff

theorem recalled_unique (distinct : ((s.rhs.holds.filterMap id).map (fun r => r.rid)).Nodup) :
    ((recalled s).ofe.book.map (fun e => e.rid)).Nodup := by
  rw [(recalled_fields s).2.2.2.2.2.2.1]
  refine (bookIds_rebuilt (keptProgress s) (keptHolds s)).nodup_iff.2 ?_
  exact keptRecords_ids distinct

theorem recalled_entry (distinct : ((s.rhs.holds.filterMap id).map (fun r => r.rid)).Nodup) {r : HoldRecord}
    (kept : r ∈ keptRecords s) : (recalled s).entry? r.rid = some (rebuiltEntry (keptProgress s) r) := by
  have mem : rebuiltEntry (keptProgress s) r ∈ (recalled s).ofe.book := mem_recalled_book.2 ⟨r, kept, rfl⟩
  cases found : (recalled s).entry? r.rid with
  | none => exact absurd (rebuiltEntry_rid _ _) (entry?_eq_none.1 found _ mem)
  | some x =>
    obtain ⟨mem', same⟩ := entry?_mem found
    exact congrArg some (List.inj_on_of_nodup_map (recalled_unique distinct) mem' mem
      (same.trans (rebuiltEntry_rid _ _).symm))

theorem recalled_no_entry {rid : ReqId} (lost : ∀ r ∈ keptRecords s, r.rid ≠ rid) : (recalled s).entry? rid = none := by
  refine entry?_eq_none.2 fun x mem => ?_
  obtain ⟨r, kept, rfl⟩ := mem_recalled_book.1 mem
  rw [rebuiltEntry_rid]
  exact lost r kept

/-- The request of record `r` is the one whose swap is resumed (R124, R174). -/
def Resumed (s : State) (r : HoldRecord) : Prop := ∃ p, keptProgress s = some p ∧ p.rid = r.rid

theorem rebuiltEntry_of_resumed {r : HoldRecord} {p : Progress} (kept : keptProgress s = some p) (same : p.rid = r.rid) :
    rebuiltEntry (keptProgress s) r = { (entryOf r).serving .active with returnedId := p.returned } := by
  unfold rebuiltEntry
  rw [kept]
  exact if_pos same

theorem rebuiltEntry_of_other {r : HoldRecord} (other : ¬ Resumed s r) :
    rebuiltEntry (keptProgress s) r = entryOf r := by
  unfold rebuiltEntry
  split
  · next p kept => exact if_neg fun same => other ⟨p, kept, same⟩
  · rfl

theorem rebuiltEntry_quiet (r : HoldRecord) : (rebuiltEntry (keptProgress s) r).state ≠ .heard := by
  by_cases resumed : Resumed s r
  · obtain ⟨p, kept, same⟩ := resumed
    rw [rebuiltEntry_of_resumed kept same]
    nofun
  · rw [rebuiltEntry_of_other resumed]
    nofun

/-- A kept hold is overdue when its deadline is reached and its swap is not resumed (R124). -/
theorem holdDue_rebuilt {now : Word} {r : HoldRecord} :
    holdDue now (rebuiltEntry (keptProgress s) r) = true ↔ reached now r.deadline = true ∧ ¬ Resumed s r := by
  by_cases resumed : Resumed s r
  · obtain ⟨p, kept, same⟩ := resumed
    rw [rebuiltEntry_of_resumed kept same]
    exact ⟨nofun, fun h => absurd ⟨p, kept, same⟩ h.2⟩
  · rw [rebuiltEntry_of_other resumed]
    simp [holdDue, entryOf, resumed]

theorem mem_overdue {e : Entry} : e ∈ overdue s ↔ ∃ r ∈ keptRecords s,
    (reached s.rhs.seconds r.deadline = true ∧ ¬ Resumed s r) ∧ rebuiltEntry (keptProgress s) r = e := by
  have seconds : (recalled s).rhs.seconds = s.rhs.seconds := by rw [(recalled_fields s).2.2.2.2.2.1]
  unfold overdue
  rw [List.mem_filter, mem_recalled_book, seconds]
  constructor
  · rintro ⟨⟨r, kept, rfl⟩, due⟩
    exact ⟨r, kept, holdDue_rebuilt.1 due, rfl⟩
  · rintro ⟨r, kept, due, rfl⟩
    exact ⟨⟨r, kept, rfl⟩, holdDue_rebuilt.2 due⟩

/-- What the overdue holds' lapse makes of the rebuilt promises (R141). -/
theorem allLapsed_rebuild (distinct : ((s.rhs.holds.filterMap id).map (fun r => r.rid)).Nodup) :
    AllLapsed (overdue s) (recalled s) (rebuild s) := by
  rw [rebuild_eq]
  refine allLapsed_lapseAll (fun e mem => ?_) ((List.filter_sublist.map _).nodup (recalled_unique distinct))
  obtain ⟨r, kept, -, rfl⟩ := mem_overdue.1 mem
  rw [rebuiltEntry_rid]
  exact recalled_entry distinct kept

theorem notHeard_recalled (rid : ReqId) (s : State) : NotHeard rid (recalled s) := by
  intro e mem _
  obtain ⟨r, -, rfl⟩ := mem_recalled_book.1 mem
  exact rebuiltEntry_quiet r

theorem notHeard_rebuild (distinct : ((s.rhs.holds.filterMap id).map (fun r => r.rid)).Nodup) (rid : ReqId) :
    NotHeard rid (rebuild s) := by
  have all := allLapsed_rebuild distinct
  by_cases lapsed : ∃ e ∈ overdue s, e.rid = rid
  · obtain ⟨e, mem, rfl⟩ := lapsed
    exact (all.entry e mem).2
  · exact (all.other rid fun e mem same => lapsed ⟨e, mem, same.symm⟩).2 (notHeard_recalled rid s)

/-! ### The slots (R173) -/

theorem held_other {l : List HoldRecord} {m : Nat} (other : ∀ r ∈ l, r.slot ≠ m) (u : State) :
    (l.foldl (fun st r => setRole r.slot .held (some r.rid) st) u).slots[m]? = u.slots[m]? := by
  induction l generalizing u with
  | nil => rfl
  | cons r l ih =>
    refine (ih (fun x mem => other x (List.mem_cons_of_mem _ mem)) _).trans ?_
    have apart := other r List.mem_cons_self
    simp [setRole, modSlot, apart]

theorem held_record {l : List HoldRecord} (distinct : (l.map (fun r => r.slot)).Nodup) {r : HoldRecord} (mem : r ∈ l)
    {u : State} {sl : Slot} (place : u.slots[r.slot]? = some sl) :
    (l.foldl (fun st r => setRole r.slot .held (some r.rid) st) u).slots[r.slot]? =
      some { sl with role := .held, rid := some r.rid } := by
  induction l generalizing u sl with
  | nil => cases mem
  | cons x l ih =>
    obtain ⟨new, distinct⟩ := List.nodup_cons.1 distinct
    rcases List.mem_cons.1 mem with rfl | later
    · refine (held_other (fun y hy same => new (List.mem_map.2 ⟨y, hy, same⟩)) _).trans ?_
      simp [setRole, modSlot, place]
    · have apart : x.slot ≠ r.slot := fun same => new (List.mem_map.2 ⟨r, later, same.symm⟩)
      refine ih distinct later (u := setRole x.slot .held (some x.rid) u) ?_
      simp [setRole, modSlot, apart, place]

theorem promised_slot {r : HoldRecord} (kept : r ∈ keptRecords s) {sl : Slot} (place : s.slots[r.slot]? = some sl) :
    (promised s).slots[r.slot]? = some { sl with role := .held, rid := some r.rid } :=
  held_record (keptRecords_slots s) kept place

/-- The roles of a resumed swap's slots change no other slot. -/
theorem resumedRoles_other {p : Progress} {m : Nat} (dock : p.dock ≠ m) (release : p.release ≠ m) (u : State) :
    (resumedRoles p u).slots[m]? = u.slots[m]? := by
  unfold resumedRoles
  split <;> simp [setRole, modSlot, dock, release]

theorem recalled_slot {r : HoldRecord} (kept : r ∈ keptRecords s)
    (apart : ∀ p, keptProgress s = some p → p.dock ≠ r.slot ∧ p.release ≠ r.slot) {sl : Slot}
    (place : s.slots[r.slot]? = some sl) :
    (recalled s).slots[r.slot]? = some { sl with role := .held, rid := some r.rid } := by
  unfold recalled
  cases h : keptProgress s with
  | none => exact promised_slot kept place
  | some p =>
    obtain ⟨dock, release⟩ := apart p h
    exact (resumedRoles_other dock release _).trans (promised_slot kept place)

end

end Sys2Proof.Machine
end


section
/-! PROOF. A warm start's promises at the end of loading (O56, first part; R124, R141, R173). -/

namespace Sys2Proof.Machine

open Sys2Proof

/-! ### The end of loading after the rebuild -/

section
variable {x : State} {d m : Bool}

/-- Joining the line leaves a slot its role, its request and its latch. -/
theorem slot_after_joining {n : Nat} {sl : Slot} (place : x.slots[n]? = some sl) (d m : Bool) :
    ∃ sl', (settle (enterJoining d m x)).slots[n]? = some sl' ∧ sl'.role = sl.role ∧ sl'.rid = sl.rid ∧
      sl'.unlocked = sl.unlocked := by
  obtain ⟨-, -, -, -, -, -, -, -, slots, -⟩ := enterJoining_fields d m x
  rw [(settle_frame _).2.2.1, slots]
  cases m with
  | true => exact ⟨sl, place, rfl, rfl, rfl⟩
  | false => exact ⟨sl.zeroed x.sul.cfg, by simp [place], rfl, rfl, rfl⟩

theorem entry_after_joining {rid : ReqId} (quiet : NotHeard rid x) (d m : Bool) :
    (settle (enterJoining d m x)).entry? rid = x.entry? rid := by
  obtain ⟨-, -, ofe, -⟩ := enterJoining_fields d m x
  have book : (enterJoining d m x).ofe.book = x.ofe.book := congrArg Ofe.book ofe
  rw [entry?_settle (notHeard_congr book quiet), entry?_congr book]

theorem blocks_after_joining (d m : Bool) (x : State) : (settle (enterJoining d m x)).rhs = x.rhs ∧
    (settle (enterJoining d m x)).seq = x.seq ∧ (settle (enterJoining d m x)).lif = x.lif ∧
    (settle (enterJoining d m x)).counters = x.counters := by
  obtain ⟨-, lif, -, seq, rhs, -, counters, -⟩ := enterJoining_fields d m x
  simp [lif, seq, rhs, counters]

theorem focus_after_joining (unfocused : x.svy.focus = none) (d m : Bool) :
    (settle (enterJoining d m x)).svy.focus = none := by
  obtain ⟨-, -, -, -, -, -, -, -, -, svy⟩ := enterJoining_fields d m x
  have focus : (enterJoining d m x).svy.focus = none := by rw [svy, joined_focus, unfocused]
  rw [settle_svy, beginGapFocus_of_nothing (.inr (.inr (.inl focus))), focus]

end

/-! ### The state a warm start rebuilds from -/

/-- The state of loading's end before a warm start rebuilds its promises. -/
def warmBase (d : Bool) (hot : BitVec 8) (m : Bool) (s : State) : State := putInForce d hot (readOut m s)

section
variable {s : State} {d m : Bool} {hot : BitVec 8}

theorem warmBase_fields (d : Bool) (hot : BitVec 8) (m : Bool) (s : State) : (warmBase d hot m s).rhs = s.rhs ∧
    (warmBase d hot m s).sul.cfg = cfgOf s.sul.image ∧ (warmBase d hot m s).lif = Lif.initial ∧
    (warmBase d hot m s).svy = Svy.initial ∧ (warmBase d hot m s).seq = Seq.initial ∧
    (warmBase d hot m s).counters = s.counters ∧
    (warmBase d hot m s).slots = freshSlots (cfgOf s.sul.image).fitted d hot s.rhs.seconds := by
  obtain ⟨sul, slots, lif, -⟩ := putInForce_tables d hot (readOut m s)
  obtain ⟨svy, -, seq⟩ := putInForce_blocks d hot (readOut m s)
  obtain ⟨-, rhs, counters, -⟩ := putInForce_frame d hot (readOut m s)
  exact ⟨rhs, congrArg Sul.cfg sul, lif, svy, seq, counters, slots⟩

theorem warmBase_slot {n : Nat} (fits : n < (cfgOf s.sul.image).fitted) (d : Bool) (hot : BitVec 8) (m : Bool) :
    (warmBase d hot m s).slots[n]? = some (Slot.fresh d (hot.getLsbD n) s.rhs.seconds) := by
  rw [(warmBase_fields d hot m s).2.2.2.2.2.2, freshSlots, List.getElem?_map, List.getElem?_range fits]
  rfl

theorem rebuilt_of_warm (warm : s.sul.cold = false) : (if s.sul.cold then putInForce d hot (readOut m s)
    else rebuild (putInForce d hot (readOut m s))) = rebuild (warmBase d hot m s) := by
  rw [warm]
  exact if_neg (by simp)

theorem exec_loadingEnd_warm (load : loading s = true) (read : s.sul.image.length = 66)
    (good : imageFault s.sul.image = none) (warm : s.sul.cold = false) :
    exec (.loadingEnd d hot m) s = .next (settle (enterJoining d m (rebuild (warmBase d hot m s)))) := by
  have run : exec (.loadingEnd d hot m) s = _ := execLoadingEnd_of_good load read good
  rw [run, rebuilt_of_warm warm]

end

section
variable {s : State}

/-- The progress record that is kept (R173). -/
theorem keptProgress_eq_some {p : Progress} : keptProgress s = some p ↔ s.rhs.progress = some p ∧
    (∃ r ∈ keptRecords s, r.rid = p.rid) ∧ p.dock < s.sul.cfg.fitted ∧ p.release < s.sul.cfg.fitted ∧
    p.dock ≠ p.release := by
  simp [keptProgress, keepProgress, Option.filter_eq_some_iff, and_assoc]

/-! ### The lapsed and the standing holds -/

variable (distinct : ((s.rhs.holds.filterMap id).map (fun r => r.rid)).Nodup)
include distinct

theorem rebuild_holds : (rebuild s).rhs = { s.rhs with
    progress := keptProgress s
    holds := (keptHolds s).map (fun h => h.filter (fun r => (overdue s).all (fun e => decide (r.rid ≠ e.rid)))) } := by
  rw [(allLapsed_rebuild distinct).rhs, (recalled_fields s).2.2.2.2.2.1]

/-- A kept hold that lapses (R124, R141). -/
theorem rebuild_lapsed {i : Nat} {r : HoldRecord} (first : FirstOfItsSlot s.rhs.holds i r)
    (fits : r.slot < s.sul.cfg.fitted) (due : reached s.rhs.seconds r.deadline = true) (other : ¬ Resumed s r) :
    (rebuild s).rhs.holds[i]? = some none ∧
    (rebuild s).entry? r.rid = some ((entryOf r).ended .lapsed s.rhs.seconds) ∧
    ((∀ p, keptProgress s = some p → p.dock ≠ r.slot ∧ p.release ≠ r.slot) → ∀ sl, s.slots[r.slot]? = some sl →
      (rebuild s).slots[r.slot]? = some { sl with role := .free, rid := none }) := by
  have kept : r ∈ keptRecords s := mem_keptRecords.2 ⟨i, first, fits⟩
  have all := allLapsed_rebuild distinct
  have mem : entryOf r ∈ overdue s := mem_overdue.2 ⟨r, kept, ⟨due, other⟩, rebuiltEntry_of_other other⟩
  have seconds : (recalled s).rhs.seconds = s.rhs.seconds := by rw [(recalled_fields s).2.2.2.2.2.1]
  refine ⟨?_, ?_, fun apart sl place => ?_⟩
  · have place : (keptHolds s)[i]? = some (some r) := keepHolds_getElem?.2 ⟨first, fits, by simp⟩
    have gone : (overdue s).all (fun e => decide (r.rid ≠ e.rid)) = false :=
      List.all_eq_false.2 ⟨entryOf r, mem, by simp [entryOf]⟩
    rw [rebuild_holds distinct]
    simp only [List.getElem?_map, place, Option.map_some, Option.filter, gone, Bool.false_eq_true, if_false]
  · rw [← seconds]
    exact (all.entry _ mem).1
  · have held := recalled_slot kept apart place
    exact all.freed r.slot { sl with role := .held, rid := some r.rid } held ⟨rfl, entryOf r, mem, rfl, rfl⟩

/-- A kept hold that stands (R124). -/
theorem rebuild_stands {i : Nat} {r : HoldRecord} (first : FirstOfItsSlot s.rhs.holds i r)
    (fits : r.slot < s.sul.cfg.fitted) (stands : ¬ (reached s.rhs.seconds r.deadline = true ∧ ¬ Resumed s r)) :
    (rebuild s).rhs.holds[i]? = some (some r) ∧
    (rebuild s).entry? r.rid = some (rebuiltEntry (keptProgress s) r) := by
  have kept : r ∈ keptRecords s := mem_keptRecords.2 ⟨i, first, fits⟩
  have apart : ∀ e ∈ overdue s, r.rid ≠ e.rid := by
    intro e mem same
    obtain ⟨r', kept', due, rfl⟩ := mem_overdue.1 mem
    rw [rebuiltEntry_rid] at same
    rw [keptRecord_unique distinct kept kept' same] at stands
    exact stands due
  refine ⟨?_, ?_⟩
  · have place : (keptHolds s)[i]? = some (some r) := keepHolds_getElem?.2 ⟨first, fits, by simp⟩
    have stays : (overdue s).all (fun e => decide (r.rid ≠ e.rid)) = true :=
      List.all_eq_true.2 fun e mem => decide_eq_true (apart e mem)
    rw [rebuild_holds distinct]
    simp only [List.getElem?_map, place, Option.map_some, Option.filter, stays, if_true]
  · rw [((allLapsed_rebuild distinct).other r.rid apart).1]
    exact recalled_entry distinct kept

/-- A record that is not kept (R173). -/
theorem rebuild_lost {i : Nat} {r : HoldRecord} (place : s.rhs.holds[i]? = some (some r))
    (lost : ¬ (FirstOfItsSlot s.rhs.holds i r ∧ r.slot < s.sul.cfg.fitted)) :
    (rebuild s).rhs.holds[i]? = some none ∧ (rebuild s).entry? r.rid = none := by
  have gone : ∀ r' ∈ keptRecords s, r'.rid ≠ r.rid := by
    intro r' kept same
    obtain ⟨j, first, fits⟩ := mem_keptRecords.1 kept
    obtain rfl := places_of_distinct distinct first.1 place same
    cases Option.some.inj (Option.some.inj (first.1.symm.trans place))
    exact lost ⟨first, fits⟩
  have apart : ∀ e ∈ overdue s, r.rid ≠ e.rid := by
    intro e mem same
    obtain ⟨r', kept', -, rfl⟩ := mem_overdue.1 mem
    rw [rebuiltEntry_rid] at same
    exact gone r' kept' same.symm
  refine ⟨?_, ?_⟩
  · have empty : (keptHolds s)[i]? = some none := keepHolds_emptied place lost
    rw [rebuild_holds distinct]
    simp [empty]
  · rw [((allLapsed_rebuild distinct).other r.rid apart).1]
    exact recalled_no_entry gone

omit distinct in
/-- The overdue records in the order in which they lapse: deadline, then slot (R124, R141; log 10). -/
theorem overdue_records (s : State) : ∃ due : List HoldRecord, overdue s = due.map (rebuiltEntry (keptProgress s)) ∧
    (∀ r, r ∈ due ↔ r ∈ keptRecords s ∧ reached s.rhs.seconds r.deadline = true ∧ ¬ Resumed s r) ∧
    due.Pairwise (fun a b => a.deadline.toNat < b.deadline.toNat ∨
      (a.deadline.toNat = b.deadline.toNat ∧ a.slot < b.slot)) := by
  have seconds : (recalled s).rhs.seconds = s.rhs.seconds := by rw [(recalled_fields s).2.2.2.2.2.1]
  refine ⟨(sortBy recordBefore (keptRecords s)).filter (fun r => holdDue s.rhs.seconds (rebuiltEntry (keptProgress s) r)),
    ?_, fun r => ?_, List.Pairwise.filter _ (sortBy_pairwise _ _ _ ?_ ?_)⟩
  · unfold overdue
    rw [seconds, (recalled_fields s).2.2.2.2.2.2.1]
    exact List.filter_map
  · rw [List.mem_filter, holdDue_rebuilt, (sortBy_perm _ _).mem_iff]
  · intro a b c
    omega
  · have slots : (keptRecords s).Pairwise (fun a b => a.slot ≠ b.slot) := List.pairwise_map.1 (keptRecords_slots s)
    refine slots.imp fun {y x} apart => ⟨?_, ?_⟩
    all_goals
      unfold recordBefore
      split
      all_goals
        intro h
        simp only [decide_eq_true_eq, decide_eq_false_iff_not] at h
        omega

end

/-- O56, its first part: which records stay and which lapse (R124, R141, R173). -/
theorem warmStart_records (s : State) (door : Bool) (hot : BitVec 8) (mains : Bool) (load : loading s = true)
    (read : s.sul.image.length = 66) (good : imageFault s.sul.image = none) (warm : s.sul.cold = false)
    (distinct : ((s.rhs.holds.filterMap id).map (fun r => r.rid)).Nodup) :
    let fitted := (cfgOf s.sul.image).fitted
    let kept (i : Nat) (r : HoldRecord) : Prop := s.rhs.holds[i]? = some (some r) ∧ r.slot < fitted ∧
      ∀ j r', j < i → s.rhs.holds[j]? = some (some r') → r'.slot ≠ r.slot
    let resumes (p : Progress) : Prop := s.rhs.progress = some p ∧ (∃ i r, kept i r ∧ r.rid = p.rid) ∧
      p.dock < fitted ∧ p.release < fitted ∧ p.dock ≠ p.release
    let resumed (rid : ReqId) : Prop := ∃ p, resumes p ∧ p.rid = rid
    let lapses (r : HoldRecord) : Prop := reached s.rhs.seconds r.deadline = true ∧ ¬ resumed r.rid
    let lapsed (rid : ReqId) : TxFrame := ⟨0x0C#8, .close, 0x3F#8, ridBytes rid ++ [1, 0, 0, 0, 0, 0, 0, 0, 0, 0]⟩
    ∃ t, exec (.loadingEnd door hot mains) s = .next t ∧
      (∀ i r, s.rhs.holds[i]? = some (some r) → ¬ kept i r →
        t.rhs.holds[i]? = some none ∧ t.entry? r.rid = none) ∧
      (∀ i r, kept i r → lapses r → t.rhs.holds[i]? = some none ∧
        (∃ e, t.entry? r.rid = some e ∧ e.state = .lapsed ∧ e.heldSlot = none ∧ e.deadline = none ∧
          e.holdTimer = none ∧ e.linger = some s.rhs.seconds) ∧
        ((∀ p, resumes p → p.dock ≠ r.slot ∧ p.release ≠ r.slot) →
          ∃ sl, t.slots[r.slot]? = some sl ∧ sl.role = .free ∧ sl.rid = none ∧ sl.unlocked = false)) ∧
      (∀ i r, kept i r → ¬ lapses r → t.rhs.holds[i]? = some (some r) ∧
        ∃ e, t.entry? r.rid = some e ∧ e.heldSlot = some r.slot ∧ e.deadline = some r.deadline ∧
          (resumed r.rid → e.state = .serving ∧ e.holdTimer = none) ∧
          (¬ resumed r.rid → e.state = .held ∧ e.holdTimer = some r.deadline)) ∧
      ∃ due : List HoldRecord, (∀ r, r ∈ due ↔ ∃ i, kept i r ∧ lapses r) ∧
        due.Pairwise (fun a b => a.deadline.toNat < b.deadline.toNat ∨
          (a.deadline.toNat = b.deadline.toNat ∧ a.slot < b.slot)) ∧
        (let u : State := { s with lif := Lif.initial }
         t.lif = (due.foldl (fun st r => enqueue (lapsed r.rid) st) u).lif ∧
         t.counters = (due.foldl (fun st r => enqueue (lapsed r.rid) (bump .lapsed st)) u).counters) := by
  intro fitted kept resumes resumed lapses lapsed
  let v := warmBase door hot mains s
  obtain ⟨rhs, cfg, lif, -, -, counters, -⟩ := warmBase_fields door hot mains s
  have distinct' : ((v.rhs.holds.filterMap id).map (fun r => r.rid)).Nodup := rhs.symm ▸ distinct
  have kept_iff (i : Nat) (r : HoldRecord) : kept i r ↔ FirstOfItsSlot v.rhs.holds i r ∧ r.slot < v.sul.cfg.fitted := by
    rw [show v.rhs = s.rhs from rhs, show v.sul.cfg = cfgOf s.sul.image from cfg]
    exact ⟨fun ⟨place, fits, first⟩ => ⟨⟨place, first⟩, fits⟩, fun ⟨⟨place, first⟩, fits⟩ => ⟨place, fits, first⟩⟩
  have resumes_iff (p : Progress) : keptProgress v = some p ↔ resumes p := by
    rw [keptProgress_eq_some, show v.rhs = s.rhs from rhs, show v.sul.cfg = cfgOf s.sul.image from cfg]
    refine and_congr_right fun _ => and_congr_left fun _ => ?_
    constructor
    · rintro ⟨r, mem, same⟩
      obtain ⟨i, h⟩ := mem_keptRecords.1 mem
      exact ⟨i, r, (kept_iff i r).2 h, same⟩
    · rintro ⟨i, r, h, same⟩
      exact ⟨r, mem_keptRecords.2 ⟨i, (kept_iff i r).1 h⟩, same⟩
  have resumed_iff (r : HoldRecord) : Resumed v r ↔ resumed r.rid :=
    exists_congr fun p => and_congr_left fun _ => resumes_iff p
  have lapses_iff (r : HoldRecord) : (reached v.rhs.seconds r.deadline = true ∧ ¬ Resumed v r) ↔ lapses r := by
    rw [resumed_iff, show v.rhs = s.rhs from rhs]
  obtain ⟨trhs, -, tlif, tcounters⟩ := blocks_after_joining door mains (rebuild v)
  have entry (rid : ReqId) := entry_after_joining (notHeard_rebuild distinct' rid) door mains
  refine ⟨_, exec_loadingEnd_warm load read good warm, fun i r place lost => ?_, fun i r keeps due => ?_,
    fun i r keeps stands => ?_, ?_⟩
  · obtain ⟨gone, none⟩ := rebuild_lost distinct' (i := i) (r := r) (by rw [show v.rhs = s.rhs from rhs]; exact place)
      fun h => lost ((kept_iff i r).2 h)
    exact ⟨(congrArg (fun x => x.holds[i]?) trhs).trans gone, (entry _).trans none⟩
  · obtain ⟨first, fits⟩ := (kept_iff i r).1 keeps
    obtain ⟨overdue, other⟩ := (lapses_iff r).2 due
    obtain ⟨gone, ended, freed⟩ := rebuild_lapsed distinct' first fits overdue other
    refine ⟨(congrArg (fun x => x.holds[i]?) trhs).trans gone, ⟨_, (entry _).trans ended, rfl, rfl, rfl, rfl, ?_⟩,
      fun apart => ?_⟩
    · exact congrArg (fun x : Rhs => some x.seconds) rhs
    · have place := freed (fun p keeps => apart p ((resumes_iff p).1 keeps)) _ (warmBase_slot keeps.2.1 door hot mains)
      obtain ⟨sl, there, role, rid, latch⟩ := slot_after_joining place door mains
      exact ⟨sl, there, role, rid, latch⟩
  · obtain ⟨first, fits⟩ := (kept_iff i r).1 keeps
    obtain ⟨stays, held⟩ := rebuild_stands distinct' first fits fun h => stands ((lapses_iff r).1 h)
    refine ⟨(congrArg (fun x => x.holds[i]?) trhs).trans stays, _, (entry _).trans held, ?_⟩
    by_cases again : Resumed v r
    · obtain ⟨p, keptp, same⟩ := again
      rw [rebuiltEntry_of_resumed keptp same]
      exact ⟨rfl, rfl, fun _ => ⟨rfl, rfl⟩, fun h => absurd ((resumed_iff r).1 ⟨p, keptp, same⟩) h⟩
    · rw [rebuiltEntry_of_other again]
      exact ⟨rfl, rfl, fun h => absurd ((resumed_iff r).2 h) again, fun _ => ⟨rfl, rfl⟩⟩
  · obtain ⟨due, same, members, order⟩ := overdue_records v
    have all := allLapsed_rebuild distinct'
    obtain ⟨-, rlif, -, -, rcounters, -⟩ := recalled_fields v
    refine ⟨due, fun r => ?_, order, ?_, ?_⟩
    · rw [members, mem_keptRecords, lapses_iff]
      exact ⟨fun ⟨⟨i, h⟩, l⟩ => ⟨i, (kept_iff i r).2 h, l⟩, fun ⟨i, h, l⟩ => ⟨⟨i, (kept_iff i r).1 h⟩, l⟩⟩
    · rw [tlif, all.lif, enqueue_lif_foldl (s := { s with lif := Lif.initial }) _ (rlif.trans lif), same, List.foldl_map]
      simp only [rebuiltEntry_rid]
      rfl
    · rw [tcounters, all.counters, enqueue_counters_foldl (s := { s with lif := Lif.initial }) _ (rlif.trans lif)
        (rcounters.trans counters), same, List.foldl_map]
      simp only [rebuiltEntry_rid]
      rfl

end Sys2Proof.Machine
end


section
/-! PROOF. The promises and the swap that a warm start recalls (O56, second part; R124, R173, R174). -/

namespace Sys2Proof.Machine

open Sys2Proof

section
variable {s : State}

/-- Where no kept hold is overdue the promises stand as they were recalled. -/
theorem rebuild_of_early (early : ∀ r ∈ keptRecords s, reached s.rhs.seconds r.deadline = false ∨ Resumed s r) :
    rebuild s = recalled s := by
  have none : overdue s = [] := by
    refine List.eq_nil_iff_forall_not_mem.2 fun e mem => ?_
    obtain ⟨r, kept, ⟨due, other⟩, -⟩ := mem_overdue.1 mem
    rcases early r kept with coming | resumed
    · simp [due] at coming
    · exact other resumed
  rw [rebuild_eq, none]
  rfl

theorem rebuild_seq (s : State) : (rebuild s).seq = (keptProgress s).elim s.seq (fun p => { s.seq with
    active := some ⟨p.rid, .startingWait, some p.dock, p.release, p.returned, none, none, some p.step⟩ }) := by
  rw [rebuild_eq, (lapseAll_frame _ _).2.2.2.1, (recalled_fields s).2.2.2.2.2.2.2]

theorem rebuild_svy (s : State) : (rebuild s).svy = s.svy := by simp

/-- Records of distinct slots: every one of a fitted slot is kept (R173). -/
theorem mem_keptRecords_of_distinct (slots : ((s.rhs.holds.filterMap id).map (fun r => r.slot)).Nodup)
    {r : HoldRecord} : r ∈ keptRecords s ↔ some r ∈ s.rhs.holds ∧ r.slot < s.sul.cfg.fitted := by
  rw [mem_keptRecords]
  constructor
  · rintro ⟨i, ⟨place, -⟩, fits⟩
    exact ⟨List.mem_of_getElem? place, fits⟩
  · rintro ⟨mem, fits⟩
    obtain ⟨i, place⟩ := List.mem_iff_getElem?.1 mem
    refine ⟨i, ⟨place, fun j r' before there same => ?_⟩, fits⟩
    have := places_of_distinct slots there place same
    omega

/-- A recalled slot keeps its latch. -/
theorem unlocked_recalled (s : State) (m : Nat) :
    ((recalled s).slots[m]?).map (fun sl => sl.unlocked) = (s.slots[m]?).map (fun sl => sl.unlocked) := by
  have role (n : Nat) (r : Role) (rid : Option ReqId) (u : State) :
      ((setRole n r rid u).slots[m]?).map (fun sl => sl.unlocked) = (u.slots[m]?).map (fun sl => sl.unlocked) := by
    cases place : u.slots[m]? with
    | none => simp [setRole, modSlot, List.getElem?_modify, place]
    | some x =>
      by_cases here : n = m
      · by_cases releasing : r = .releasing <;>
          simp [setRole, modSlot, place, here, releasing, Slot.zeroed, Slot.refreshed]
      · simp [setRole, modSlot, place, here]
  have held : ∀ (l : List HoldRecord) (u : State),
      ((l.foldl (fun st r => setRole r.slot .held (some r.rid) st) u).slots[m]?).map (fun sl => sl.unlocked) =
        (u.slots[m]?).map (fun sl => sl.unlocked) := by
    intro l
    induction l with
    | nil => exact fun _ => rfl
    | cons r l ih => exact fun u => (ih _).trans (role _ _ _ _)
  have promises : ((promised s).slots[m]?).map (fun sl => sl.unlocked) = (s.slots[m]?).map (fun sl => sl.unlocked) :=
    held (keptRecords s) _
  unfold recalled
  cases keptProgress s with
  | none => exact promises
  | some p =>
    refine Eq.trans ?_ promises
    show ((resumedRoles p (promised s)).slots[m]?).map _ = _
    unfold resumedRoles
    split
    · exact role _ _ _ _
    · exact role _ _ _ _
    · exact role _ _ _ _
    · exact role _ _ _ _
    · exact role _ _ _ _
    · exact role _ _ _ _
    · rfl

theorem promised_length (s : State) : (promised s).slots.length = s.slots.length := by
  have held : ∀ (l : List HoldRecord) (u : State),
      (l.foldl (fun st r => setRole r.slot .held (some r.rid) st) u).slots.length = u.slots.length := by
    intro l
    induction l with
    | nil => exact fun _ => rfl
    | cons r l ih => exact fun u => (ih _).trans (by simp [setRole, modSlot])
  exact held (keptRecords s) _

/-- The dock of a recalled swap (R173). -/
theorem recalled_dock {p : Progress} (kept : keptProgress s = some p) (wait : p.step ≠ .releaseWait)
    (opened : p.step ≠ .releaseOpen) (fits : p.dock < s.slots.length) :
    ∃ sl, (recalled s).slots[p.dock]? = some sl ∧ sl.role = .dock ∧ sl.rid = some p.rid := by
  have run : (recalled s).slots = (setRole p.dock .dock (some p.rid) (promised s)).slots := by
    unfold recalled
    rw [kept]
    show (resumedRoles p (promised s)).slots = _
    unfold resumedRoles
    split
    · rfl
    · rfl
    · rfl
    · rfl
    · rfl
    · next step => exact absurd step opened
    · next step => exact absurd step wait
  rw [← promised_length s] at fits
  rw [run]
  simp [setRole, modSlot, fits]

/-- The release slot of a swap recalled in RELEASE_OPEN (R173). -/
theorem recalled_release {p : Progress} (kept : keptProgress s = some p) (opened : p.step = .releaseOpen)
    (fits : p.release < s.slots.length) :
    ∃ sl, (recalled s).slots[p.release]? = some sl ∧ sl.role = .releasing ∧ sl.rid = some p.rid := by
  have run : (recalled s).slots = (setRole p.release .releasing (some p.rid) (promised s)).slots := by
    unfold recalled
    rw [kept]
    show (resumedRoles p (promised s)).slots = _
    unfold resumedRoles
    rw [opened]
  rw [← promised_length s] at fits
  rw [run]
  simp [setRole, modSlot, fits, Slot.zeroed, Slot.refreshed]

end

/-- O56, its second part: the holds restored, and the swap that waits for the first pass (R124, R173, R174). -/
theorem warmStart_swap (s : State) (door : Bool) (hot : BitVec 8) (mains : Bool) (load : loading s = true)
    (read : s.sul.image.length = 66) (good : imageFault s.sul.image = none) (warm : s.sul.cold = false)
    (distinct : ((s.rhs.holds.filterMap id).map (fun r => r.rid)).Nodup)
    (slots : ((s.rhs.holds.filterMap id).map (fun r => r.slot)).Nodup) :
    let fitted := (cfgOf s.sul.image).fitted
    let kept (rid : ReqId) : Prop := ∃ r, some r ∈ s.rhs.holds ∧ r.slot < fitted ∧ r.rid = rid
    (s.rhs.progress = none → (∀ r, some r ∈ s.rhs.holds → reached s.rhs.seconds r.deadline = false) →
      ∃ t, exec (.loadingEnd door hot mains) s = .next t ∧
        (∀ r, some r ∈ s.rhs.holds → r.slot < fitted →
          some r ∈ t.rhs.holds ∧
          (∃ e, t.entry? r.rid = some e ∧ e.state = .held ∧ e.heldSlot = some r.slot ∧ e.deadline = some r.deadline ∧
            e.holdTimer = some r.deadline ∧ e.eta = r.eta ∧ e.packClass = r.packClass ∧
            e.returnClass = r.returnClass ∧ e.rider = r.rider ∧ e.attempt = 0) ∧
          ∃ sl, t.slots[r.slot]? = some sl ∧ sl.role = .held ∧ sl.rid = some r.rid ∧ sl.unlocked = false) ∧
        (∀ r, some r ∈ s.rhs.holds → fitted ≤ r.slot → some r ∉ t.rhs.holds ∧ t.entry? r.rid = none) ∧
        t.seq = Seq.initial ∧ t.rhs.valid = s.rhs.valid ∧ t.rhs.seconds = s.rhs.seconds) ∧
    (∀ p, s.rhs.progress = some p → kept p.rid → p.dock < fitted → p.release < fitted → p.dock ≠ p.release →
      (∀ r, some r ∈ s.rhs.holds → r.rid ≠ p.rid → reached s.rhs.seconds r.deadline = false) →
      ∃ t e, exec (.loadingEnd door hot mains) s = .next t ∧
        t.seq = { Seq.initial with
          active := some ⟨p.rid, .startingWait, some p.dock, p.release, p.returned, none, none, some p.step⟩ } ∧
        t.rhs.progress = some p ∧ t.entry? p.rid = some e ∧ e.state = .serving ∧ e.servePos = some .active ∧
        e.holdTimer = none ∧ e.returnedId = p.returned ∧
        (∀ (n : Nat) (sl : Slot), t.slots[n]? = some sl → sl.unlocked = false) ∧ t.svy.focus = none ∧
        (p.step ≠ .releaseWait → p.step ≠ .releaseOpen →
          ∃ sl, t.slots[p.dock]? = some sl ∧ sl.role = .dock ∧ sl.rid = some p.rid) ∧
        (p.step = .releaseOpen →
          ∃ sl, t.slots[p.release]? = some sl ∧ sl.role = .releasing ∧ sl.rid = some p.rid)) ∧
    (∀ p, s.rhs.progress = some p →
      (¬ kept p.rid ∨ fitted ≤ p.dock ∨ fitted ≤ p.release ∨ p.dock = p.release) →
      ∃ t, exec (.loadingEnd door hot mains) s = .next t ∧ t.seq = Seq.initial ∧ t.rhs.progress = none) := by
  intro fitted kept
  let v := warmBase door hot mains s
  obtain ⟨rhs, cfg, -, svy, seq, -, table⟩ := warmBase_fields door hot mains s
  have vrhs : v.rhs = s.rhs := rhs
  have vcfg : v.sul.cfg = cfgOf s.sul.image := cfg
  have distinct' : ((v.rhs.holds.filterMap id).map (fun r => r.rid)).Nodup := vrhs.symm ▸ distinct
  have member {r : HoldRecord} : r ∈ keptRecords v ↔ some r ∈ s.rhs.holds ∧ r.slot < fitted := by
    rw [mem_keptRecords_of_distinct (by rw [vrhs]; exact slots), vrhs, vcfg]
  have progress {p : Progress} : keptProgress v = some p ↔
      s.rhs.progress = some p ∧ kept p.rid ∧ p.dock < fitted ∧ p.release < fitted ∧ p.dock ≠ p.release := by
    rw [keptProgress_eq_some, vrhs, vcfg]
    refine and_congr_right fun _ => and_congr_left fun _ => exists_congr fun r => ?_
    rw [member, and_assoc]
  have run := exec_loadingEnd_warm (d := door) (hot := hot) (m := mains) load read good warm
  obtain ⟨trhs, tseq, -, -⟩ := blocks_after_joining door mains (rebuild v)
  have entry (rid : ReqId) := entry_after_joining (notHeard_rebuild distinct' rid) door mains
  have rseq := rebuild_seq v
  have rrhs : (rebuild v).rhs.progress = keptProgress v ∧ (rebuild v).rhs.valid = s.rhs.valid ∧
      (rebuild v).rhs.seconds = s.rhs.seconds := by
    rw [rebuild_holds distinct', vrhs]
    exact ⟨rfl, rfl, rfl⟩
  obtain ⟨rprogress, rvalid, rseconds⟩ := rrhs
  refine ⟨fun nothing early => ?_, fun p there keeps dock release apart early => ?_, fun p there lost => ?_⟩
  · have noProgress : keptProgress v = none := by
      cases h : keptProgress v with
      | none => rfl
      | some p => cases nothing.symm.trans (progress.1 h).1
    have same : rebuild v = recalled v := rebuild_of_early fun r mem => .inl (by
      rw [vrhs]
      exact early r (member.1 mem).1)
    refine ⟨_, run, fun r mem fits => ?_, fun r mem beyond => ?_, ?_, ?_, ?_⟩
    · have keeps : r ∈ keptRecords v := member.2 ⟨mem, fits⟩
      obtain ⟨i, first, fits'⟩ := mem_keptRecords.1 keeps
      have stands : ¬ (reached v.rhs.seconds r.deadline = true ∧ ¬ Resumed v r) := by
        rw [vrhs, early r mem]
        simp
      obtain ⟨place, held⟩ := rebuild_stands distinct' first fits' stands
      refine ⟨List.mem_of_getElem? ((congrArg (fun x => x.holds[i]?) trhs).trans place),
        ⟨_, (entry r.rid).trans held, ?_⟩, ?_⟩
      · rw [rebuiltEntry_of_other (by rintro ⟨p, h, -⟩; cases noProgress.symm.trans h)]
        exact ⟨rfl, rfl, rfl, rfl, rfl, rfl, rfl, rfl, rfl⟩
      · have at_slot := recalled_slot keeps (fun p h => nomatch noProgress.symm.trans h)
          (warmBase_slot fits door hot mains)
        rw [← same] at at_slot
        exact slot_after_joining at_slot door mains
    · obtain ⟨i, place⟩ := List.mem_iff_getElem?.1 mem
      have lost : ¬ (FirstOfItsSlot v.rhs.holds i r ∧ r.slot < v.sul.cfg.fitted) := by
        rintro ⟨-, fits⟩
        rw [vcfg] at fits
        exact absurd fits (Nat.not_lt.2 beyond)
      obtain ⟨-, gone⟩ := rebuild_lost distinct' (i := i) (r := r) (by rw [vrhs]; exact place) lost
      refine ⟨fun still => ?_, (entry r.rid).trans gone⟩
      rw [trhs, same, (recalled_fields v).2.2.2.2.2.1] at still
      exact absurd (member.1 (List.mem_filterMap.2 ⟨some r, still, rfl⟩)).2 (Nat.not_lt.2 beyond)
    · rw [tseq, rseq, noProgress]
      exact seq
    · rw [trhs, rvalid]
    · rw [trhs, rseconds]
  · have keptp : keptProgress v = some p := progress.2 ⟨there, keeps, dock, release, apart⟩
    obtain ⟨r, mem, fits, own⟩ := keeps
    have inKept : r ∈ keptRecords v := member.2 ⟨mem, fits⟩
    have resumed : Resumed v r := ⟨p, keptp, own.symm⟩
    have same : rebuild v = recalled v := rebuild_of_early fun x hx => by
      by_cases its : x.rid = p.rid
      · exact .inr ⟨p, keptp, its.symm⟩
      · rw [vrhs]
        exact .inl (early x (member.1 hx).1 its)
    obtain ⟨i, first, fits'⟩ := mem_keptRecords.1 inKept
    have held := (rebuild_stands distinct' first fits' fun h => h.2 resumed).2
    have long (n : Nat) (h : n < fitted) : n < v.slots.length := by
      rw [show v.slots = _ from table]
      simpa [freshSlots] using h
    refine ⟨_, { (entryOf r).serving .active with returnedId := p.returned }, run, ?_, ?_, ?_, rfl, rfl, rfl, rfl,
      fun n sl place => ?_, ?_, fun wait opened => ?_, fun opened => ?_⟩
    · rw [tseq, rseq, keptp, show v.seq = _ from seq]
      rfl
    · rw [trhs, rprogress, keptp]
    · rw [entry, ← own, held, rebuiltEntry_of_resumed keptp own.symm]
    · rw [(settle_frame _).2.2.1] at place
      obtain ⟨-, -, -, -, -, -, -, -, tslots, -⟩ := enterJoining_fields door mains (rebuild v)
      have locked (x : Slot) (there : (recalled v).slots[n]? = some x) : x.unlocked = false := by
        have latch := unlocked_recalled v n
        rw [there, show v.slots = _ from table] at latch
        obtain ⟨y, fresh, same⟩ := Option.map_eq_some_iff.1 latch.symm
        obtain ⟨-, rfl⟩ := freshSlots_getElem? fresh
        exact same.symm
      rw [tslots, same] at place
      split at place
      · exact locked sl place
      · rw [List.getElem?_map] at place
        obtain ⟨x, there, rfl⟩ := Option.map_eq_some_iff.1 place
        exact locked x there
    · exact focus_after_joining (by rw [rebuild_svy, show v.svy = _ from svy]; rfl) door mains
    · obtain ⟨sl, place, role, rid⟩ := recalled_dock keptp wait opened (long _ dock)
      rw [← same] at place
      obtain ⟨sl', place', role', rid', -⟩ := slot_after_joining place door mains
      exact ⟨sl', place', role'.trans role, rid'.trans rid⟩
    · obtain ⟨sl, place, role, rid⟩ := recalled_release keptp opened (long _ release)
      rw [← same] at place
      obtain ⟨sl', place', role', rid', -⟩ := slot_after_joining place door mains
      exact ⟨sl', place', role'.trans role, rid'.trans rid⟩
  · have noProgress : keptProgress v = none := by
      cases h : keptProgress v with
      | none => rfl
      | some q =>
        obtain ⟨there', keeps, dock, release, apart⟩ := progress.1 h
        cases there.symm.trans there'
        rcases lost with lost | lost | lost | lost
        · exact absurd keeps lost
        · exact absurd dock (Nat.not_lt.2 lost)
        · exact absurd release (Nat.not_lt.2 lost)
        · exact absurd lost apart
    refine ⟨_, run, ?_, ?_⟩
    · rw [tseq, rseq, noProgress]
      exact seq
    · rw [trhs, rprogress, noProgress]

end Sys2Proof.Machine
end


section
/-! PROOF. The report of the first pass to a swap that waits for it (O56, third part; R143, R152, R174). -/

namespace Sys2Proof.Machine

open Sys2Proof

/-! ### The step that ends the first pass -/

theorem deafTo_of_startingWait {n : Nat} {u : State} {w : Swap} (active : u.seq.active = some w)
    (step : w.step = .startingWait) : DeafTo n u := by
  refine ⟨fun r => ?_, rejudge_of_step active (.inl (by simp [step]))⟩
  unfold takeReport
  rw [active]
  dsimp only
  rw [step]

/-- The pass gap, or the next pass, after the first pass's report. -/
def passEnded (n : Nat) (r : State) : State := settle (afterPass n (startGap r))

theorem trails_passEnded (n : Nat) (r : State) : Trails r (passEnded n r) :=
  ((trails_startGap r).trans (trails_afterPass n _)).trans (trails_settle _)

theorem passEnded_slots (n : Nat) (r : State) : (passEnded n r).slots = r.slots := by simp [passEnded]

theorem passEnded_seq (n : Nat) (r : State) : (passEnded n r).seq = r.seq := by simp [passEnded]

section
variable {s : State} {st : SurveyStep} {w : Swap} {vs : Slot} {seen hot : Bool} {levels : List Bool}

/-- The state in which SEQ takes the report of the first pass. -/
def firstPassTaken (st : SurveyStep) (seen : Bool) (levels : List Bool) (hot : Bool) (vs : Slot) (s : State) : State :=
  { stepWritten st seen levels hot vs s with svy.firstPassDone := true, seq.firstPassSeen := true }

theorem firstPassTaken_fields : (firstPassTaken st seen levels hot vs s).lif = s.lif ∧
    (firstPassTaken st seen levels hot vs s).ofe = s.ofe ∧
    (firstPassTaken st seen levels hot vs s).seq = { s.seq with firstPassSeen := true } ∧
    (firstPassTaken st seen levels hot vs s).rhs = s.rhs ∧ (firstPassTaken st seen levels hot vs s).sul = s.sul ∧
    (firstPassTaken st seen levels hot vs s).slots =
      s.slots.modify st.slot (fun _ => stepResult st seen levels hot vs s) ∧
    (firstPassTaken st seen levels hot vs s).counters = (stepVisited st seen levels hot vs s).counters := by
  obtain ⟨-, lif, -, ofe, seq, rhs, sul, -⟩ :=
    stepVisited_fields (st := st) (seen := seen) (levels := levels) (hot := hot) (x := vs) (s := s)
  exact ⟨lif, ofe, congrArg (fun q : Seq => { q with firstPassSeen := true }) seq, rhs, sul, rfl, rfl⟩

theorem firstPassTaken_course : InCourse s (firstPassTaken st seen levels hot vs s) := by
  obtain ⟨lif, -, seq, rhs, sul, -⟩ :=
    firstPassTaken_fields (st := st) (seen := seen) (levels := levels) (hot := hot) (vs := vs) (s := s)
  exact ⟨sul, lif, (congrArg Seq.queue seq :), congrArg Rhs.seconds rhs⟩

theorem firstPassTaken_other {m : Nat} (other : m ≠ st.slot) :
    (firstPassTaken st seen levels hot vs s).slots[m]? = s.slots[m]? := by
  obtain ⟨-, -, -, -, -, slots, -⟩ :=
    firstPassTaken_fields (st := st) (seen := seen) (levels := levels) (hot := hot) (vs := vs) (s := s)
  rw [slots]
  simp [other.symm]

theorem firstPassTaken_slot (slot : s.slots[st.slot]? = some vs) :
    (firstPassTaken st seen levels hot vs s).slots[st.slot]? = some (stepResult st seen levels hot vs s) := by
  obtain ⟨-, -, -, -, -, slots, -⟩ :=
    firstPassTaken_fields (st := st) (seen := seen) (levels := levels) (hot := hot) (vs := vs) (s := s)
  rw [slots]
  simp [slot]

/-- What SEQ makes of the report, by the swap that waits (R143, R174). -/
def firstPassAnswer (w : Swap) (u : State) : State :=
  w.resume.elim (lookAtQueue (openReturn w.rid u)) (fun p => resumeSwap p w u)

theorem takeFirstPass_of_waiting {u : State} (active : u.seq.active = some w) (step : w.step = .startingWait) :
    takeFirstPass u = firstPassAnswer w { u with seq.firstPassSeen := true } := by
  unfold takeFirstPass firstPassAnswer
  rw [active]
  dsimp only
  rw [if_pos step]
  cases w.resume <;> rfl

theorem exec_firstPass (works : operates s = true) (run : s.svy.step = some st) (kind : st.kind = .confirm)
    (last : s.sul.cfg.steps.length ≤ s.svy.next) (first : s.svy.firstPassDone = false) (active : s.seq.active = some w)
    (step : w.step = .startingWait) (slot : s.slots[st.slot]? = some vs) (seen : Bool) (levels : List Bool)
    (hot : Bool) : exec (.surveyStepEnd seen levels hot) s =
      .next (passEnded st.slot (firstPassAnswer w (firstPassTaken st seen levels hot vs s))) := by
  let a := stepWritten st seen levels hot vs s
  obtain ⟨-, -, -, -, seq, -, sul, -⟩ :=
    stepVisited_fields (st := st) (seen := seen) (levels := levels) (hot := hot) (x := vs) (s := s)
  have svy : a.svy = { s.svy with step := none, link := linkSent st seen } :=
    (afterVisit_frame st seen levels hot vs (stepEnding st seen s)).2.2.1
  have active' : a.seq.active = some w := (congrArg Seq.active seq).trans active
  have asul : a.sul = s.sul := sul
  have written : applyStep st seen levels hot (stepEnding st seen s) = a :=
    applyStep_of_deaf_eq slot fun u same => deafTo_of_startingWait (same.trans active) step
  have reported : reportPassEnd a = firstPassAnswer w (firstPassTaken st seen levels hot vs s) := by
    rw [reportPassEnd_of_first (by rw [svy]; exact first), takeFirstPass_of_waiting (u := { a with svy.firstPassDone := true })
      active' step]
    rfl
  rw [exec_surveyStepEnd works run seen levels hot, written, nextStep_passed (.inr kind)]
  unfold afterRegular
  rw [if_neg (by rw [asul, svy]; exact Nat.not_lt.2 last), reported]
  rfl

/-- SEQ has seen the first pass's end. -/
theorem firstPassSeen_of_firstPass {u : State} (active : u.seq.active = some w) (step : w.step = .startingWait)
    (seen : u.seq.firstPassSeen = true) (n : Nat) : (passEnded n (firstPassAnswer w u)).seq.firstPassSeen = true := by
  have same : ({ u with seq.firstPassSeen := true } : State) = u := by
    refine state_ext rfl rfl rfl rfl rfl rfl rfl ?_ rfl rfl rfl rfl rfl
    rw [← seen]
  have h := takeFirstPass_of_waiting active step
  rw [same] at h
  rw [passEnded_seq, ← h]
  exact firstPassSeen_takeFirstPass u

end

/-! ### The swap resumed -/

/-- The state `u` in which the waiting swap of the event's beginning `s` is resumed: the swap's slots and entry as they
stood, no other slot that could stand in for the release slot changed, and no latch. -/
structure Waiting (s u : State) (w : Swap) (e : Entry) (d : Nat) (ds rs : Slot) : Prop where
  active : u.seq.active = some w
  entry : u.entry? w.rid = some e
  dock : w.dock = some d
  apart : d ≠ w.release
  course : InCourse s u
  rest : s.seq.queue = []
  counters : u.counters = s.counters
  atDock : u.slots[d]? = some ds
  atRelease : u.slots[w.release]? = some rs
  bays : SameBays s.sul.cfg e.packClass d s u
  latch : ∀ (n : Nat) (y : Slot), s.slots[n]? = some y → ∃ y' : Slot, u.slots[n]? = some y' ∧ y'.unlocked = y.unlocked

section
variable {s u t : State} {w : Swap} {e : Entry} {d : Nat} {ds rs : Slot} (h : Waiting s u w e d ds rs)
include h

theorem Waiting.queue : u.seq.queue = [] := h.course.queue.trans h.rest

theorem resumeReturn_of_waiting : resumeReturn d w u = if ds.cond = .empty then openReturnAt d u
    else if ds.cond = .settling then openCheck (setFocus (some d) (setLatch d true u))
    else if ds.cond = .occupied then judgeReturn .occupied ds.pack d w u else openReject d u := by
  unfold resumeReturn
  rw [show u.slot? d = some ds from h.atDock]
  dsimp only
  cases ds.cond <;> rfl

/-- The return that was open is open again (R174). -/
theorem resumed_opens (cond : ds.cond = .empty) (trail : Trails (resumeReturn d w u) t)
    (slots : t.slots = (resumeReturn d w u).slots) :
    t.seq.active = some { w with step := .returnOpen, resume := none } ∧
    t.seq.timer = some (.ret, s.sul.cfg.returnTimer * 1000) ∧ t.svy.focus = some d ∧
    t.rhs.progress = some ⟨w.rid, .returnOpen, d, w.release, w.returned⟩ ∧
    t.slots[d]? = some { ds with unlocked := true } := by
  have opened : resumeReturn d w u = openReturnAt d u := by rw [resumeReturn_of_waiting h, if_pos cond]
  rw [opened, openReturnAt_eq d h.active] at trail slots
  have same : ({ w with step := .returnOpen, dock := some d, resume := none } : Swap) =
      { w with step := .returnOpen, resume := none } := by rw [← h.dock]
  refine ⟨trail.active.trans (congrArg some same), ?_, trail.focus, by rw [trail.rhs], ?_⟩
  · rw [trail.timer, h.course.sul]
  · rw [slots]
    simp [h.atDock]

/-- The return that was inserted is checked (R174). -/
theorem resumed_checks (cond : ds.cond = .settling) (trail : Trails (resumeReturn d w u) t)
    (slots : t.slots = (resumeReturn d w u).slots) :
    t.seq.active = some { w with step := .returnCheck, resume := none } ∧
    t.seq.timer = some (.check, 10000) ∧ t.svy.focus = some d ∧
    t.rhs.progress = some ⟨w.rid, .returnCheck, d, w.release, w.returned⟩ ∧
    t.slots[d]? = some { ds with unlocked := true } := by
  have opened : resumeReturn d w u = openCheck (setFocus (some d) (setLatch d true u)) := by
    rw [resumeReturn_of_waiting h, if_neg (by simp [cond]), if_pos cond]
  rw [opened, openCheck_eq (u := setFocus (some d) (setLatch d true u)) h.active h.dock] at trail slots
  refine ⟨trail.active, trail.timer, trail.focus, by rw [trail.rhs], ?_⟩
  rw [slots]
  simp [setFocus, setLatch, modSlot, h.atDock]

theorem resumed_rejects (trail : Trails (openReject d u) t) : RejectsOut s t w d :=
  rejectsOut_openReject h.active h.dock h.atDock h.course trail

/-- A return found OCCUPIED is judged: a pack that cannot be accepted is rejected (R150, R174). -/
theorem resumed_turns_away {k : Pack} (cond : ds.cond = .occupied) (pack : ds.pack = some k)
    (bad : ¬ (k.cls = e.returnClass ∧ k.ok = true ∧ k.temp < (s.sul.cfg.hotLimit : Int)))
    (trail : Trails (resumeReturn d w u) t) : RejectsOut s t w d := by
  have opened : resumeReturn d w u = openReject d u := by
    rw [resumeReturn_of_waiting h, if_neg (by simp [cond]), if_neg (by simp [cond]), if_pos cond, pack]
    unfold judgeReturn
    rw [h.entry]
    dsimp only
    rw [h.course.sul, if_neg (fun k => bad (acceptable_iff.1 k.2))]
  exact resumed_rejects h (opened ▸ trail)

/-- A return found OCCUPIED that can be accepted (R149, R174). -/
theorem resumed_accepts {k : Pack} (cond : ds.cond = .occupied) (pack : ds.pack = some k)
    (good : k.cls = e.returnClass ∧ k.ok = true ∧ k.temp < (s.sul.cfg.hotLimit : Int)) (own : rs.rid = some w.rid)
    (trail : Trails (resumeReturn d w u) t) :
    ReleaseJudged s t { w with returned := some k.id } e d { ds with role := .free } rs ∧
    (∀ x, t.seq.active = some x → x.step ≠ .giveBack → LockedFree t d) := by
  have accepted : resumeReturn d w u = releaseReady { w with returned := some k.id } (returnTaken k w u) := by
    rw [resumeReturn_of_waiting h, if_neg (by simp [cond]), if_neg (by simp [cond]), if_pos cond, pack, ← acceptReturn_eq]
    unfold judgeReturn
    rw [h.entry]
    dsimp only
    rw [h.course.sul, if_pos ⟨rfl, acceptable_iff.2 good⟩]
  obtain ⟨judges, dock', release'⟩ := judges_returnTaken (ds := ds) (p := k) h.entry h.course h.dock h.apart h.atDock cond
    h.bays h.atRelease own
  obtain ⟨-, -, -, stays⟩ := releaseReady_keeps judges release' rfl (by simp)
  have same : ({ ds with cond := .occupied, role := .free } : Slot) = { ds with role := .free } := by rw [← cond]
  rw [accepted] at trail
  rw [same] at judges
  refine ⟨releaseJudged_of_judges judges release' rfl rfl rfl trail, fun x hx notGiven => ?_⟩
  rcases stays with ⟨z, hz, given⟩ | kept
  · cases hx.symm.trans (trail.active.trans hz)
    exact absurd given notGiven
  · obtain ⟨v, hv⟩ := trail.slot _ _ (kept.trans dock')
    exact ⟨_, hv, rfl, rfl, rfl⟩

/-- The release slot that was waited for is judged (R152, R174). -/
theorem resumed_judges (own : rs.rid = some w.rid) (trail : Trails (releaseReady w u) t) :
    ReleaseJudged s t w e d ds rs :=
  releaseJudged_of_judges ⟨h.active, h.dock, h.apart, h.entry, rfl, rfl, ⟨ds, h.atDock, rfl, rfl⟩, h.bays, h.course,
    fun _ => ⟨Option.isSome_of_eq_some h.entry, h.counters, h.latch⟩, fun held => ⟨rs, h.atRelease, held, own⟩⟩
    h.atRelease rfl rfl rfl trail

/-- A swap found at its end (R174): what its slots are left as in `v` stands. -/
theorem resumed_ends {o : Outcome} {a : Option AbortReason} {after : EntryAfter} {v : State} (course : InCourse u v)
    (ofe : v.ofe = u.ofe) (counters : v.counters = u.counters) (trail : Trails (endSwap o a after w v) t) :
    SwapEnded s t w o a after.state ∧
    ∀ (n : Nat) (y : Slot), v.slots[n]? = some y → ∃ b, t.slots[n]? = some { y with visited := b } := by
  have queue : v.seq.queue = [] := course.queue.trans h.queue
  refine ⟨swapEnded_endSwap queue ?_ ?_ (counters.trans h.counters) trail, fun n y hy => trail.slot n y ?_⟩
  · rw [entry?_congr (congrArg Ofe.book ofe), h.entry]
    rfl
  · exact ⟨course.sul.trans h.course.sul, course.lif.trans h.course.lif, course.queue.trans h.course.queue,
      course.seconds.trans h.course.seconds⟩
  · rw [endSwap_of_none queue, (swapEnding_frame _ _ _ _ _).2.1]
    exact hy

/-- The rejected return was removed while the core was off (R151, R174). -/
theorem resumed_takes_back (trail : Trails (endReject w u) t) :
    SwapEnded s t w .aborted (some .returnRejected) .held ∧ LockedFree t d := by
  obtain ⟨ended, slots⟩ := resumed_ends h (o := .aborted) (a := some .returnRejected) (after := .held)
    (v := closeDock w { u with seq.timer := none })
    ⟨by simp, by simp, by simp, by simp⟩ (by simp) (by simp) trail
  obtain ⟨b, hb⟩ := slots d _ (closeDock_slot (s := u) h.dock h.atDock)
  exact ⟨ended, _, hb, rfl, rfl, rfl⟩

/-- The released pack was removed while the core was off (R158, R174). -/
theorem resumed_collects
    (trail : Trails (endSwap .done none .done w (setRole w.release .free none (setLatch w.release false u))) t) :
    SwapEnded s t w .done none .done ∧ LockedFree t w.release := by
  obtain ⟨ended, slots⟩ := resumed_ends h (o := .done) (a := none) (after := .done)
    ⟨by simp, by simp, by simp, by simp⟩ (by simp) (by simp) trail
  obtain ⟨b, hb⟩ := slots w.release { rs with role := .free, rid := none, unlocked := false } (by
    rw [setRole_modify, List.getElem?_modify_eq, h.atRelease]
    rfl)
  exact ⟨ended, _, hb, rfl, rfl, rfl⟩

/-- The return given back was removed while the core was off (R154, R174). -/
theorem resumed_given {r : AbortReason} (trail : Trails (endGiveBack r w (closeDock w u)) t) :
    SwapEnded s t w .aborted (some r) .aborted ∧ LockedFree t d := by
  obtain ⟨ended, slots⟩ := resumed_ends h (o := .aborted) (a := some r) (after := .aborted)
    (v := freeRelease w (closeDock w u)) ⟨by simp, by simp, by simp, by simp⟩ (by simp) (by simp) trail
  obtain ⟨b, hb⟩ := slots d { ds with role := .free, rid := none, unlocked := false } (by
    rw [freeRelease_slot h.apart, closeDock_eq h.dock]
    simp [h.atDock])
  exact ⟨ended, _, hb, rfl, rfl, rfl⟩

theorem emptyAt_dock : emptyAt d u = decide (ds.cond = .empty) := by
  unfold emptyAt
  rw [show u.slot? d = some ds from h.atDock]

theorem emptyAt_release : emptyAt w.release u = decide (rs.cond = .empty) := by
  unfold emptyAt
  rw [show u.slot? w.release = some rs from h.atRelease]

/-- What a resumed swap does, by its step (R174). -/
theorem resumeSwap_of_waiting : (∀ p, (p = .returnOpen ∨ p = .returnCheck) → resumeSwap p w u = resumeReturn d w u) ∧
    resumeSwap .rejectOut w u = (if ds.cond = .empty then endReject w u else openReject d u) ∧
    resumeSwap .releaseWait w u = releaseReady w u ∧
    resumeSwap .releaseOpen w u = (if rs.cond = .empty then
      endSwap .done none .done w (setRole w.release .free none (setLatch w.release false u))
      else openRelease w.release w u) ∧
    ∀ p r, ((p = .giveBackNoPack ∧ r = .noPack) ∨ (p = .giveBackWaitExceeded ∧ r = .releaseWaitExceeded)) →
      resumeSwap p w u = (if ds.cond = .empty then endGiveBack r w (closeDock w u) else openGiveBack d r w u) := by
  unfold resumeSwap
  rw [h.dock]
  simp only [Option.getD_some, emptyAt_dock h, emptyAt_release h, decide_eq_true_eq]
  refine ⟨?_, trivial, trivial, trivial, ?_⟩
  · rintro p (rfl | rfl) <;> rfl
  · rintro p r (⟨rfl, rfl⟩ | ⟨rfl, rfl⟩) <;> rfl

end

end Sys2Proof.Machine
end


section
/-! PROOF. What a warm start restores (O56; R124, R141, R143, R147, R173, R174). -/

namespace Sys2Proof.Machine

open Sys2Proof

/-! ### The visit that ends the first pass -/

section
variable {d : Bool} {now : Word} {o : ReadOutcome} {sl : Slot}

/-- A visit that sees no presence finds no pack. -/
theorem occupied_of_visited_absent (h : (visited d now false o sl).slot.cond = .occupied) : sl.cond = .occupied := by
  cases cond : sl.cond with
  | empty =>
    rw [visited_empty_absent cond] at h
    cases h
  | settling =>
    rw [visited_settling_absent cond] at h
    cases h
  | occupied => rfl
  | unreadable =>
    rcases Nat.eq_zero_or_pos sl.absentCount with first | again
    · rw [visited_absent_first (.inr (.inl cond)) first] at h
      exact cond.symm.trans h
    · rw [visited_unreadable_removed cond again] at h
      cases h
  | fault =>
    rcases Nat.eq_zero_or_pos sl.absentCount with first | again
    · rw [visited_absent_first (.inr (.inr cond)) first] at h
      exact cond.symm.trans h
    · obtain ⟨plain, cleared, tampered⟩ := visited_fault_removed (d := d) (now := now) (o := o) cond again
      by_cases tamper : sl.reason = some .tamper
      · cases cycle : sl.doorCycle with
        | true =>
          rw [cleared tamper cycle] at h
          cases h
        | false =>
          rw [tampered tamper cycle] at h
          exact cond.symm.trans h
      · rw [plain tamper] at h
        cases h

/-- A visit that sees presence leaves a slot EMPTY only where the pack was exchanged (R13). -/
theorem exchanged_of_visited_seen (h : (visited d now true o sl).slot.cond = .empty) :
    (visited d now true o sl).exchanged = true := by
  revert h
  simp only [visited, visitSeen, visitSettling, visitOccupied, takePack, confirmRemoval, if_true]
  repeat' split
  all_goals simp [Slot.faulted, Slot.occupiedBy, Slot.emptied, *]

end

section
variable {s : State} {st : SurveyStep} {w : Swap} {e : Entry} {d : Nat} {vs ds rs : Slot} {seen hot : Bool}
  {levels : List Bool}

theorem stepVisited_counters_of_unseen : (stepVisited st false levels hot vs s).counters = s.counters := by
  refine afterVisit_counters_of_unseen (s := stepEnding st false s) fun report => ?_
  obtain ⟨settling, unreadable, -⟩ := settling_of_unreadable_report report
  rw [visited_settling_absent settling] at unreadable
  cases unreadable

/-- The swap waits on slots that the ending step does not visit (R174). -/
theorem waiting_firstPassTaken (slot : s.slots[st.slot]? = some vs) (quiet : vs.cond ≠ .occupied ∨ vs.role ≠ .free)
    (awayD : st.slot ≠ d) (awayR : st.slot ≠ w.release) (rest : s.seq.queue = []) (active : s.seq.active = some w)
    (entry : s.entry? w.rid = some e) (dock : w.dock = some d) (apart : d ≠ w.release) (atDock : s.slots[d]? = some ds)
    (atRelease : s.slots[w.release]? = some rs) :
    Waiting s (firstPassTaken st false levels hot vs s) w e d ds rs := by
  obtain ⟨-, ofe, seq, -, -, -, counters⟩ :=
    firstPassTaken_fields (st := st) (seen := false) (levels := levels) (hot := hot) (vs := vs) (s := s)
  have there := firstPassTaken_slot (seen := false) (levels := levels) (hot := hot) slot
  obtain ⟨role, -, unlocked⟩ :=
    stepResult_kept (st := st) (seen := false) (levels := levels) (hot := hot) (sl := vs) (s := s)
  have unfit {k : PackClass} : NoBay s.sul.cfg k (some vs) := by
    intro y same fit
    cases same
    obtain ⟨-, -, occupied, -⟩ := sound_iff.1 (releasable_iff.1 fit.2).1
    exact quiet.elim (fun h => h occupied) (fun h => h fit.1)
  have unfit' {k : PackClass} : NoBay s.sul.cfg k (some (stepResult st false levels hot vs s)) := by
    intro y same fit
    cases same
    obtain ⟨-, -, occupied, -⟩ := sound_iff.1 (releasable_iff.1 fit.2).1
    obtain ⟨-, cond⟩ := cond_of_stepResult (by rw [occupied]; decide)
    exact quiet.elim (fun h => h (occupied_of_visited_absent (cond.trans occupied))) (fun h => h (role.symm.trans fit.1))
  refine ⟨?_, ?_, dock, apart, firstPassTaken_course, rest, counters.trans stepVisited_counters_of_unseen,
    (firstPassTaken_other awayD.symm).trans atDock, (firstPassTaken_other awayR.symm).trans atRelease, fun m _ => ?_,
    fun n y place => ?_⟩
  · exact (congrArg Seq.active seq).trans active
  · rw [entry?_congr (congrArg Ofe.book ofe), entry]
  · by_cases here : m = st.slot
    · rw [here, there, slot]
      exact .inr ⟨unfit', unfit⟩
    · exact .inl (firstPassTaken_other here)
  · by_cases here : n = st.slot
    · subst here
      cases slot.symm.trans place
      exact ⟨_, there, unlocked⟩
    · exact ⟨y, (firstPassTaken_other here).trans place, rfl⟩

/-- The visited slot can be a dock after the step only if it stands EMPTY and FREE and no presence was seen (R147). -/
theorem bay_of_stepResult (quiet : seen = true ∨ vs.cond = .empty ∨ vs.role ≠ .free) :
    ((stepResult st seen levels hot vs s).cond = .empty ∧ (stepResult st seen levels hot vs s).role = .free) ↔
      vs.cond = .empty ∧ vs.role = .free ∧ seen = false := by
  obtain ⟨role, -⟩ := stepResult_kept (st := st) (seen := seen) (levels := levels) (hot := hot) (sl := vs) (s := s)
  rw [role]
  cases seen with
  | true =>
    refine ⟨fun ⟨empty, _⟩ => ?_, fun h => nomatch h.2.2⟩
    obtain ⟨whole, cond⟩ := cond_of_stepResult (by rw [empty]; decide)
    exact nomatch whole.symm.trans (exchanged_of_visited_seen (cond.trans empty))
  | false =>
    rcases quiet with seen | empty | taken
    · cases seen
    · have v : stepVisit st false levels vs s = _ := visited_empty_absent empty
      have cond : (stepResult st false levels hot vs s).cond = .empty := by
        rw [stepResult_cond, v]
        rfl
      exact ⟨fun h => ⟨empty, h.2, rfl⟩, fun h => ⟨cond, h.2.1⟩⟩
    · exact ⟨fun h => absurd h.2 taken, fun h => absurd h.2.1 taken⟩

end

/-! ### A swap that a BEGIN started (R143, R147) -/

section
variable {s u t : State} {w : Swap}

/-- Its return is opened. -/
theorem begun_opens {d : Nat} {x : Slot} (active : u.seq.active = some w) (course : InCourse s u)
    (isDock : IsDock u.slots d) (place : u.slots[d]? = some x)
    (trail : Trails (lookAtQueue (openReturn w.rid u)) t) (seq : t.seq = (lookAtQueue (openReturn w.rid u)).seq) :
    t.seq.active = some { w with step := .returnOpen, dock := some d, resume := none } ∧
    t.seq.timer = some (.ret, s.sul.cfg.returnTimer * 1000) ∧ t.seq.queue = s.seq.queue ∧
    t.svy.focus = some d ∧ t.rhs.progress = some ⟨w.rid, .returnOpen, d, w.release, w.returned⟩ ∧ t.lif = s.lif ∧
    ∃ y, t.slots[d]? = some y ∧ y.cond = x.cond ∧ y.role = .dock ∧ y.rid = some w.rid ∧ y.unlocked = true := by
  have opened := openReturn_of_dock (dockSlot_eq_some_iff.2 isDock) active w.rid
  have busy : lookAtQueue (openReturn w.rid u) = openReturn w.rid u := by
    refine lookAtQueue_of_rest (.inr (.inl ?_))
    rw [opened]
    simp
  rw [busy, opened] at trail seq
  obtain ⟨v, hv⟩ := trail.slot d { x with role := .dock, rid := some w.rid, unlocked := true } (by simp [place])
  refine ⟨trail.active, ?_, ?_, trail.focus, by rw [trail.rhs], trail.lif.trans course.lif, _, hv, rfl, rfl, rfl, rfl⟩
  · rw [trail.timer, course.sul]
  · rw [seq]
    exact course.queue

/-- Without a dock its request is handed back. -/
theorem begun_handed_back {e : Entry} (course : InCourse s u) (rest : s.seq.queue = []) (entry : u.entry? w.rid = some e)
    (bare : ∀ x ∈ u.slots, ¬ (x.cond = .empty ∧ x.role = .free))
    (trail : Trails (lookAtQueue (openReturn w.rid u)) t) :
    t.seq.active = none ∧ t.seq.timer = none ∧ t.rhs.progress = none ∧ HandedBack s t e ∧
    t.lif = (enqueue (declineFrame w.rid .noDock) s).lif := by
  let idle : State := { u with seq.active := none, seq.timer := none, rhs.progress := none }
  have back : openReturn w.rid u = decline w.rid .noDock (holdAgain w.rid idle) :=
    openReturn_of_none (dockSlot_eq_none_iff.2 bare) w.rid
  have seq : (decline w.rid .noDock (holdAgain w.rid idle)).seq = idle.seq := by simp
  have looked : lookAtQueue (openReturn w.rid u) = decline w.rid .noDock (holdAgain w.rid idle) := by
    rw [back]
    refine lookAtQueue_of_rest (.inl ?_)
    rw [seq]
    exact course.queue.trans rest
  rw [looked] at trail
  have book : (decline w.rid .noDock (holdAgain w.rid idle)).ofe.book =
      (modEntry w.rid (Entry.heldAgain (inMinutes u.rhs.seconds u.sul.cfg.holdGrace)) u).ofe.book := by
    have kept : (decline w.rid .noDock (holdAgain w.rid idle)).ofe = (holdAgain w.rid idle).ofe := by simp
    rw [kept, holdAgain_book]
    rfl
  have held : (decline w.rid .noDock (holdAgain w.rid idle)).entry? w.rid =
      some (e.heldAgain (inMinutes u.rhs.seconds u.sul.cfg.holdGrace)) := by
    rw [entry?_congr book, entry?_modEntry_same (rid_heldAgain _), entry]
    rfl
  have quiet : NotHeard w.rid (decline w.rid .noDock (holdAgain w.rid idle)) :=
    notHeard_congr book (notHeard_modEntry fun x => by simp [Entry.heldAgain])
  obtain ⟨state, found, same⟩ := trail.entry _ _ held
  have own : e.rid = w.rid := (entry?_mem entry).2
  refine ⟨?_, ?_, ?_, ⟨_, (congrArg t.entry? own).trans found, same quiet, rfl, rfl, ?_⟩, ?_⟩
  · rw [trail.active, seq]
  · rw [trail.timer, seq]
  · have rhs : (decline w.rid .noDock (holdAgain w.rid idle)).rhs = (holdAgain w.rid idle).rhs := by simp
    rw [trail.rhs, rhs, holdAgain_progress]
  · show some (inMinutes u.rhs.seconds u.sul.cfg.holdGrace) = _
    rw [course.seconds, course.sul]
  · rw [trail.lif]
    refine (enqueue_lif_congr (s := s) (t := bump DeclineReason.noDock.counter (holdAgain w.rid idle)) ?_ _).trans rfl
    have kept : (bump DeclineReason.noDock.counter (holdAgain w.rid idle)).lif = u.lif := by simp [idle]
    exact kept.trans course.lif

end

/-- O56, its third part: the swap recalled is resumed at the first pass's end (R174). -/
theorem warmStart_resumes (s : State) (st : SurveyStep) (w : Swap) (p : ProgressStep) (e : Entry) (d : Nat)
    (ds rs vs : Slot) (levels : List Bool) (hot : Bool) (works : operates s = true) (run : s.svy.step = some st)
    (kind : st.kind = .confirm) (last : s.sul.cfg.steps.length ≤ s.svy.next) (first : s.svy.firstPassDone = false)
    (rest : s.seq.queue = []) (active : s.seq.active = some w) (step : w.step = .startingWait)
    (resume : w.resume = some p) (entry : s.entry? w.rid = some e) (dock : w.dock = some d) (apart : d ≠ w.release)
    (awayD : st.slot ≠ d) (awayR : st.slot ≠ w.release) (slot : s.slots[st.slot]? = some vs)
    (quiet : vs.cond ≠ .occupied ∨ vs.role ≠ .free) (atDock : s.slots[d]? = some ds)
    (atRelease : s.slots[w.release]? = some rs) :
    ∃ t, exec (.surveyStepEnd false levels hot) s = .next t ∧ t.seq.firstPassSeen = true ∧
      ((p = .returnOpen ∨ p = .returnCheck) →
        (ds.cond = .empty → t.seq.active = some { w with step := .returnOpen, resume := none } ∧
          t.seq.timer = some (.ret, s.sul.cfg.returnTimer * 1000) ∧ t.svy.focus = some d ∧
          t.rhs.progress = some ⟨w.rid, .returnOpen, d, w.release, w.returned⟩ ∧
          t.slots[d]? = some { ds with unlocked := true }) ∧
        (ds.cond = .settling → t.seq.active = some { w with step := .returnCheck, resume := none } ∧
          t.seq.timer = some (.check, 10000) ∧ t.svy.focus = some d ∧
          t.rhs.progress = some ⟨w.rid, .returnCheck, d, w.release, w.returned⟩ ∧
          t.slots[d]? = some { ds with unlocked := true }) ∧
        (∀ k, ds.cond = .occupied → ds.pack = some k →
          (k.cls = e.returnClass → k.ok = true → k.temp < s.sul.cfg.hotLimit → rs.rid = some w.rid →
            ReleaseJudged s t { w with returned := some k.id } e d { ds with role := .free } rs ∧
            (∀ x, t.seq.active = some x → x.step ≠ .giveBack → LockedFree t d)) ∧
          (¬ (k.cls = e.returnClass ∧ k.ok = true ∧ k.temp < s.sul.cfg.hotLimit) → RejectsOut s t w d)) ∧
        ((ds.cond = .unreadable ∨ ds.cond = .fault) → RejectsOut s t w d)) ∧
      (p = .rejectOut →
        (ds.cond = .empty → SwapEnded s t w .aborted (some .returnRejected) .held ∧ LockedFree t d) ∧
        (ds.cond ≠ .empty → RejectsOut s t w d)) ∧
      (p = .releaseWait → rs.rid = some w.rid → ReleaseJudged s t w e d ds rs) ∧
      (p = .releaseOpen →
        (rs.cond = .empty → SwapEnded s t w .done none .done ∧ LockedFree t w.release) ∧
        (rs.cond ≠ .empty → ReleaseOpened s t w d w.release rs)) ∧
      (∀ r, ((p = .giveBackNoPack ∧ r = .noPack) ∨ (p = .giveBackWaitExceeded ∧ r = .releaseWaitExceeded)) →
        (ds.cond = .empty → SwapEnded s t w .aborted (some r) .aborted ∧ LockedFree t d) ∧
        (ds.cond ≠ .empty → GivesBack s t w d r)) := by
  let u := firstPassTaken st false levels hot vs s
  have waiting : Waiting s u w e d ds rs :=
    waiting_firstPassTaken slot quiet awayD awayR rest active entry dock apart atDock atRelease
  obtain ⟨returns, rejects, waits, releases, gives⟩ := resumeSwap_of_waiting waiting
  have seen : u.seq.firstPassSeen = true := rfl
  have done := firstPassSeen_of_firstPass waiting.active step seen st.slot
  have answer : firstPassAnswer w u = resumeSwap p w u := by
    unfold firstPassAnswer
    rw [resume]
    rfl
  have exec_eq := exec_firstPass works run kind last first active step slot false levels hot
  rw [answer] at done
  have trail := trails_passEnded st.slot (resumeSwap p w u)
  have slots := passEnded_slots st.slot (resumeSwap p w u)
  refine ⟨_, exec_eq.trans (congrArg (fun r => Host.Outcome.next (passEnded st.slot r)) answer), done, fun which => ?_,
    ?_, ?_, ?_, fun r which => ?_⟩
  · have same := returns p which
    rw [same] at trail slots ⊢
    refine ⟨fun cond => resumed_opens waiting cond trail slots, fun cond => resumed_checks waiting cond trail slots,
      fun k cond pack => ⟨fun cls ok cool own => resumed_accepts waiting cond pack ⟨cls, ok, cool⟩ own trail,
        fun bad => resumed_turns_away waiting cond pack bad trail⟩, fun bad => ?_⟩
    have opened : resumeReturn d w u = openReject d u := by
      rw [resumeReturn_of_waiting waiting]
      rcases bad with cond | cond <;> rw [cond] <;> rfl
    exact resumed_rejects waiting (opened ▸ trail)
  · rintro rfl
    rw [rejects] at trail ⊢
    refine ⟨fun empty => ?_, fun full => ?_⟩
    · rw [if_pos empty] at trail ⊢
      exact resumed_takes_back waiting trail
    · rw [if_neg full] at trail ⊢
      exact resumed_rejects waiting trail
  · rintro rfl own
    rw [waits] at trail ⊢
    exact resumed_judges waiting own trail
  · rintro rfl
    rw [releases] at trail ⊢
    refine ⟨fun empty => ?_, fun full => ?_⟩
    · rw [if_pos empty] at trail ⊢
      exact resumed_collects waiting trail
    · rw [if_neg full] at trail ⊢
      exact releaseOpened_openRelease waiting.active dock waiting.atRelease rfl rfl waiting.course trail
  · rw [gives p r which] at trail ⊢
    refine ⟨fun empty => ?_, fun full => ?_⟩
    · rw [if_pos empty] at trail ⊢
      exact resumed_given waiting trail
    · rw [if_neg full] at trail ⊢
      exact givesBack_openGiveBack waiting.active dock waiting.atDock waiting.course trail

/-- O56, its fourth part: a swap that a BEGIN started opens its return, or its request is handed back (R143, R147). -/
theorem warmStart_begins (s : State) (st : SurveyStep) (w : Swap) (vs : Slot) (seen : Bool) (levels : List Bool)
    (hot : Bool) (works : operates s = true) (run : s.svy.step = some st) (kind : st.kind = .confirm)
    (last : s.sul.cfg.steps.length ≤ s.svy.next) (first : s.svy.firstPassDone = false) (active : s.seq.active = some w)
    (step : w.step = .startingWait) (resume : w.resume = none) (slot : s.slots[st.slot]? = some vs)
    (quiet : seen = true ∨ vs.cond = .empty ∨ vs.role ≠ .free) :
    let bay (m : Nat) (x : Slot) : Prop := x.cond = .empty ∧ x.role = .free ∧ (m = st.slot → seen = false)
    ∃ t, exec (.surveyStepEnd seen levels hot) s = .next t ∧ t.seq.firstPassSeen = true ∧
      (∀ d x, s.slots[d]? = some x → bay d x → (∀ m y, m < d → s.slots[m]? = some y → ¬ bay m y) →
        t.seq.active = some { w with step := .returnOpen, dock := some d, resume := none } ∧
        t.seq.timer = some (.ret, s.sul.cfg.returnTimer * 1000) ∧ t.seq.queue = s.seq.queue ∧
        t.svy.focus = some d ∧ t.rhs.progress = some ⟨w.rid, .returnOpen, d, w.release, w.returned⟩ ∧
        t.lif = s.lif ∧
        ∃ y, t.slots[d]? = some y ∧ y.cond = .empty ∧ y.role = .dock ∧ y.rid = some w.rid ∧ y.unlocked = true) ∧
      (∀ e, s.seq.queue = [] → (∀ m y, s.slots[m]? = some y → ¬ bay m y) → s.entry? w.rid = some e →
        t.seq.active = none ∧ t.seq.timer = none ∧ t.rhs.progress = none ∧ HandedBack s t e ∧
        t.lif = (enqueue (declineFrame w.rid .noDock) s).lif) := by
  intro bay
  let u := firstPassTaken st seen levels hot vs s
  obtain ⟨-, ofe, seq, -⟩ :=
    firstPassTaken_fields (st := st) (seen := seen) (levels := levels) (hot := hot) (vs := vs) (s := s)
  have active' : u.seq.active = some w := (congrArg Seq.active seq).trans active
  have course : InCourse s u := firstPassTaken_course
  have there : u.slots[st.slot]? = some (stepResult st seen levels hot vs s) := firstPassTaken_slot slot
  -- the bays of the old table are those of the new one
  have bay_iff {m : Nat} {y : Slot} (place : u.slots[m]? = some y) :
      (y.cond = .empty ∧ y.role = .free) ↔ ∃ x, s.slots[m]? = some x ∧ bay m x := by
    by_cases here : m = st.slot
    · subst here
      cases there.symm.trans place
      rw [bay_of_stepResult quiet]
      constructor
      · rintro ⟨empty, free, unseen⟩
        exact ⟨vs, slot, empty, free, fun _ => unseen⟩
      · rintro ⟨x, hx, empty, free, unseen⟩
        cases slot.symm.trans hx
        exact ⟨empty, free, unseen rfl⟩
    · have same : s.slots[m]? = some y := (firstPassTaken_other here).symm.trans place
      constructor
      · rintro ⟨empty, free⟩
        exact ⟨y, same, empty, free, fun h => absurd h here⟩
      · rintro ⟨x, hx, empty, free, -⟩
        cases same.symm.trans hx
        exact ⟨empty, free⟩
  have answer : firstPassAnswer w u = lookAtQueue (openReturn w.rid u) := by
    unfold firstPassAnswer
    rw [resume]
    rfl
  have exec_eq := exec_firstPass works run kind last first active step slot seen levels hot
  have done := firstPassSeen_of_firstPass active' step rfl st.slot
  rw [answer] at done
  have trail := trails_passEnded st.slot (lookAtQueue (openReturn w.rid u))
  refine ⟨_, exec_eq.trans (congrArg (fun r => Host.Outcome.next (passEnded st.slot r)) answer), done,
    fun d x place isBay lower => ?_, fun e rest bare entry => ?_⟩
  · obtain ⟨y, hy⟩ : ∃ y, u.slots[d]? = some y := by
      by_cases here : d = st.slot
      · exact ⟨_, here ▸ there⟩
      · exact ⟨x, (firstPassTaken_other here).trans place⟩
    have isDock := (bay_iff hy).2 ⟨x, place, isBay⟩
    obtain ⟨opened, timer, queue, focus, progress, lif, z, hz, cond, role, rid, latch⟩ :=
      begun_opens active' course ⟨⟨y, hy, isDock⟩, fun m z below hz isBay' => by
        obtain ⟨x', hx', bay'⟩ := (bay_iff hz).1 isBay'
        exact lower m x' below hx' bay'⟩ hy trail (passEnded_seq _ _)
    exact ⟨opened, timer, queue, focus, progress, lif, z, hz, cond.trans isDock.1, role, rid, latch⟩
  · refine begun_handed_back course rest ((entry?_congr (congrArg Ofe.book ofe) _).trans entry) (fun y mem isBay => ?_) trail
    obtain ⟨m, hy⟩ := List.mem_iff_getElem?.1 mem
    obtain ⟨x, hx, bay'⟩ := (bay_iff hy).1 isBay
    exact bare m x hx bay'

/-- Settles O56, part by part. -/
theorem warmStartRestoresHolds : Obligations.WarmStartRestoresHolds :=
  ⟨warmStart_records, warmStart_swap, warmStart_resumes, warmStart_begins⟩

end Sys2Proof.Machine
end
